-- ==== Sys2Proof/Word.lean ====
section
/-!
DEFINITION. The byte of the serial links and of table memory (R185, R187). Every count, distance, measurement and timer
of the part is a whole number in fixed units (scope file, Units) and is held as a natural number.
-/

namespace Sys2Proof

/-- One byte of a frame, of a table cell or of a pattern step. -/
abbrev Byte := BitVec 8

end Sys2Proof
end

