-- ==== Sys2Proof/Config.lean ====
section
/-!
DEFINITION. What the manual fixes as a number (limits, defaults, sizes), and the FREE VALUES: constants without a body
for what the manual leaves open.
-/

namespace Sys2Proof.Config

/-- FREE VALUE (assumption 9). Two draw units that select again within one event act in an order the manual leaves
open. `lineAFirst n` says whether line A acts first at the `n`-th such event. -/
opaque lineAFirst : Nat → Bool

/-- FREE VALUE (assumption 27). Threshold events of different entries that fall on one encoder count are taken in an
order the manual leaves open. `owedFirst n` says which of those still owed is taken first at the `n`-th choice, counted
from the oldest entry and modulo their number. -/
opaque owedFirst : Nat → Nat

/-- FREE VALUE (assumption 30). A PICK_DONE in the same millisecond as the PICK_EMPTY that ended a pick of its line, with the
line's next pick in flight already: `signalsTogether n` says whether the two signals were given together for the pick that
has ended, at the `n`-th such case. -/
opaque signalsTogether : Nat → Bool

/-- FREE VALUE (assumption 11). What READ ROOTS sends at byte `offset` of the part of an ABSENT root slot `slot`, but
for the present and in-use bits: a descriptor that is absent has no other fields (R46). -/
opaque absentRootByte (slot offset : Nat) : Byte

/-- Records an intake queue holds at most (R1). -/
abbrev intakeCapacity : Nat := 8
/-- Largest gaps-after and pending-gap count (R1, R2). -/
abbrev maxGaps : Nat := 15
/-- Largest sheet number, panel number, score, density and run-out count (R4, R31, R32, R114, R168). -/
abbrev maxNumber : Nat := 65535
/-- Cells of table memory (R42). -/
abbrev cellCount : Nat := 2048
/-- Bytes of one cell (R42). -/
abbrev cellBytes : Nat := 16
/-- Entries of a rule cache, and unlocked entries in NORMAL (R62, R69). -/
abbrev cacheRoom : Nat := 16
/-- Unlocked entries in SPLIT, and locked entries (R62, R69). -/
abbrev splitRoom : Nat := 8
/-- Entries of a path buffer (R73). -/
abbrev bufferRoom : Nat := 2
/-- Entries of the tracking queue (R84). -/
abbrev trackCapacity : Nat := 32
/-- Records of a falling list at which a gate no longer fires (R94). -/
abbrev fallingCapacity : Nat := 2
/-- Plies of an open panel (R168). -/
abbrev panelPlies : Nat := 24
/-- Records of a panel queue (R168). -/
abbrev panelQueueRoom : Nat := 4
/-- Answer frames waiting at a transmitter (R178). -/
abbrev txRoom : Nat := 8
/-- Body bytes of a frame at most (R185). -/
abbrev maxBody : Nat := 250
/-- Milliseconds between two bytes of a frame that do not yet discard it (R174). -/
abbrev byteGapLimit : Nat := 50
/-- Milliseconds at which a starve timer stops telling times apart: the largest starve limit (R157, assumption 17). -/
abbrev starveHold : Nat := 60000

end Sys2Proof.Config
end

