-- ==== Sys2Proof/Syntax.lean ====
section
/-!
DEFINITION. The commands of the part: one constructor of `Instr` per row of spec/opcode_table.json. A request carries
the port it arrives on, its tag and its body bytes (R184 to R191); a field event carries which eye, stack or line it is
of; an event of a tracking entry names the entry by its sheet number.
-/

namespace Sys2Proof

/-- The two dryer lanes; also their grading units GU1, GU2 and rule caches RC1, RC2 (R22, R62). -/
inductive Lane where
  | lane1 | lane2
  deriving DecidableEq, Repr

/-- The two layup lines. -/
inductive Line where
  | a | b
  deriving DecidableEq, Repr

/-- The three station ports. -/
inductive Port where
  | pg | pa | pb
  deriving DecidableEq, Repr

/-- Stacks S0 to S9. -/
abbrev StackId := Fin 10

/-- A command. A request's operands are port, tag and body. -/
inductive Instr where
  -- Station ports and notices (chapter 10)
  | readNotices (port : Port) (tag : Byte) (body : List Byte)
  | ackNotices (port : Port) (tag : Byte) (body : List Byte)
  | setNoticeMask (port : Port) (tag : Byte) (body : List Byte)
  | setParameter (port : Port) (tag : Byte) (body : List Byte)
  | getParameter (port : Port) (tag : Byte) (body : List Byte)
  -- Sheet intake (chapter 1)
  | submitSheet (port : Port) (tag : Byte) (body : List Byte)
  | laneResync (port : Port) (tag : Byte) (body : List Byte)
  | readIntake (port : Port) (tag : Byte) (body : List Byte)
  | recordExpired (lane : Lane)
  | mergeEvent (lane : Lane)
  -- Rule tables (chapter 3)
  | guWalkRead (unit : Lane)
  | portAccessGrant
  | writeCell (port : Port) (tag : Byte) (body : List Byte)
  | readCell (port : Port) (tag : Byte) (body : List Byte)
  | replaceCell (port : Port) (tag : Byte) (body : List Byte)
  | invalidateCell (port : Port) (tag : Byte) (body : List Byte)
  | writeRoot (port : Port) (tag : Byte) (body : List Byte)
  | changeover (port : Port) (tag : Byte) (body : List Byte)
  | readRoots (port : Port) (tag : Byte) (body : List Byte)
  | probePath (port : Port) (tag : Byte) (body : List Byte)
  -- Rule caches (chapter 4)
  | setCacheMode (port : Port) (tag : Byte) (body : List Byte)
  | lockPaths (port : Port) (tag : Byte) (body : List Byte)
  | purgeCache (port : Port) (tag : Byte) (body : List Byte)
  | readCache (port : Port) (tag : Byte) (body : List Byte)
  -- Conveyor tracking (chapter 5)
  | encoderCount
  | decisionPoint (sheet : Nat)
  | approach (sheet : Nat)
  | gate (sheet : Nat)
  | runOut (sheet : Nat)
  | convRunAssert
  | convRunDeassert
  | encoderStall
  | trackClear (port : Port) (tag : Byte) (body : List Byte)
  | readTracking (port : Port) (tag : Byte) (body : List Byte)
  -- Routing and allocation (chapter 6)
  | writeRoute (port : Port) (tag : Byte) (body : List Byte)
  | swapGroup (port : Port) (tag : Byte) (body : List Byte)
  | readRoutes (port : Port) (tag : Byte) (body : List Byte)
  | readRunout (port : Port) (tag : Byte) (body : List Byte)
  | clearRunout (port : Port) (tag : Byte) (body : List Byte)
  -- Stacks (chapter 7)
  | openStack (port : Port) (tag : Byte) (body : List Byte)
  | drainStack (port : Port) (tag : Byte) (body : List Byte)
  | closeStack (port : Port) (tag : Byte) (body : List Byte)
  | clearStackFault (port : Port) (tag : Byte) (body : List Byte)
  | clearStack (port : Port) (tag : Byte) (body : List Byte)
  | setStackCapacity (port : Port) (tag : Byte) (body : List Byte)
  | setStackAccess (port : Port) (tag : Byte) (body : List Byte)
  | readStack (port : Port) (tag : Byte) (body : List Byte)
  | landing (stack : StackId)
  | missedLanding (stack : StackId)
  -- Draws and panel records (chapter 9), events
  | lineStarved (line : Line)
  | pickDone (line : Line)
  | pickEmpty (line : Line)
  | pickTimeout (line : Line)
  -- Layup sequencers (chapter 8)
  | setLineMode (port : Port) (tag : Byte) (body : List Byte)
  | setLineExec (port : Port) (tag : Byte) (body : List Byte)
  | writeSteps (port : Port) (tag : Byte) (body : List Byte)
  | readSteps (port : Port) (tag : Byte) (body : List Byte)
  | setStepPointer (port : Port) (tag : Byte) (body : List Byte)
  | clearLineFault (port : Port) (tag : Byte) (body : List Byte)
  | readLineStatus (port : Port) (tag : Byte) (body : List Byte)
  | signalLine (port : Port) (tag : Byte) (body : List Byte)
  | stepBegin (line : Line)
  -- Draws and panel records (chapter 9), requests
  | draw (port : Port) (tag : Byte) (body : List Byte)
  | cancelDraw (port : Port) (tag : Byte) (body : List Byte)
  | closePanel (port : Port) (tag : Byte) (body : List Byte)
  | takePanel (port : Port) (tag : Byte) (body : List Byte)
  | peekPanel (port : Port) (tag : Byte) (body : List Byte)
  -- The link, the emergency stop and reset (chapter 10)
  | unknownCode (port : Port) (code tag : Byte) (body : List Byte)
  | crcDiscard (port : Port) (code tag : Byte) (body : List Byte) (crc : BitVec 16)
  | byteGapTimeout (port : Port)
  | answerSent (port : Port)
  | estopAssert
  | estopRelease
  | resetN
  | leadByteWhileHunting (port : Port)
  | lengthAbove250 (port : Port) (length : Byte)
  | resetNRelease
  deriving DecidableEq, Repr

end Sys2Proof
end

