-- ==== Sys2Proof/Decode.lean ====
section
/-!
DEFINITION. Reading the link: the request codes of R185, the CRC word of R175, and the host's `decodeTableWord`. No row
of spec/opcode_table.json gives bits, so no word spells a command by the table (assumption 23); what a station sends is
a frame, and a frame is a command's operands.
-/

namespace Sys2Proof

/-- The command that a word spells by the table's bits: none, since the table gives no row any bits. -/
def decodeTableWord (_nbits _w : Nat) : Option Instr := none

/-! ## Request codes (R185) -/

def Code.readNotices : Byte := 0x08
def Code.ackNotices : Byte := 0x09
def Code.setNoticeMask : Byte := 0x0A
def Code.setParameter : Byte := 0x0B
def Code.getParameter : Byte := 0x0C
def Code.submitSheet : Byte := 0x10
def Code.laneResync : Byte := 0x11
def Code.readIntake : Byte := 0x12
def Code.writeCell : Byte := 0x20
def Code.readCell : Byte := 0x21
def Code.replaceCell : Byte := 0x22
def Code.invalidateCell : Byte := 0x23
def Code.writeRoot : Byte := 0x24
def Code.changeover : Byte := 0x25
def Code.readRoots : Byte := 0x26
def Code.probePath : Byte := 0x27
def Code.setCacheMode : Byte := 0x30
def Code.lockPaths : Byte := 0x31
def Code.purgeCache : Byte := 0x32
def Code.readCache : Byte := 0x33
def Code.trackClear : Byte := 0x40
def Code.readTracking : Byte := 0x41
def Code.writeRoute : Byte := 0x50
def Code.swapGroup : Byte := 0x51
def Code.readRoutes : Byte := 0x52
def Code.readRunout : Byte := 0x53
def Code.clearRunout : Byte := 0x54
def Code.openStack : Byte := 0x60
def Code.drainStack : Byte := 0x61
def Code.closeStack : Byte := 0x62
def Code.clearStackFault : Byte := 0x63
def Code.clearStack : Byte := 0x64
def Code.setStackCapacity : Byte := 0x65
def Code.setStackAccess : Byte := 0x66
def Code.readStack : Byte := 0x67
def Code.setLineMode : Byte := 0x70
def Code.setLineExec : Byte := 0x71
def Code.writeSteps : Byte := 0x72
def Code.readSteps : Byte := 0x73
def Code.setStepPointer : Byte := 0x74
def Code.clearLineFault : Byte := 0x75
def Code.readLineStatus : Byte := 0x76
def Code.signalLine : Byte := 0x77
def Code.draw : Byte := 0x78
def Code.cancelDraw : Byte := 0x79
def Code.closePanel : Byte := 0x7A
def Code.takePanel : Byte := 0x7B
def Code.peekPanel : Byte := 0x7C

/-- Every request code of R185, in the order of its value. -/
def requestCodes : List Byte :=
  [0x08, 0x09, 0x0A, 0x0B, 0x0C, 0x10, 0x11, 0x12, 0x20, 0x21, 0x22, 0x23, 0x24, 0x25, 0x26, 0x27,
   0x30, 0x31, 0x32, 0x33, 0x40, 0x41, 0x50, 0x51, 0x52, 0x53, 0x54,
   0x60, 0x61, 0x62, 0x63, 0x64, 0x65, 0x66, 0x67,
   0x70, 0x71, 0x72, 0x73, 0x74, 0x75, 0x76, 0x77, 0x78, 0x79, 0x7A, 0x7B, 0x7C]

/-- Whether a code names one of the requests (R177, check 2). -/
def isRequestCode (code : Byte) : Bool := requestCodes.contains code

/-! ## The CRC word (R175) -/

/-- One bit into the CRC register: generator x^16 + x^12 + x^5 + 1, most significant bit first (R175). -/
def crcBit (r : BitVec 16) (bit : Bool) : BitVec 16 :=
  if r.msb != bit then (r <<< 1) ^^^ 0x1021 else r <<< 1

/-- One byte into the CRC register, most significant bit first (R175). -/
def crcByte (r : BitVec 16) (b : Byte) : BitVec 16 :=
  [7, 6, 5, 4, 3, 2, 1, 0].foldl (fun r i => crcBit r (b.getLsbD i)) r

/-- The CRC word of a run of bytes: initial value FFFFh, result not inverted (R175). -/
def crcWord (bytes : List Byte) : BitVec 16 := bytes.foldl crcByte 0xFFFF

/-- The bytes a request frame's CRC word is computed over: length, code, tag, body (R175). -/
def requestCrc (code tag : Byte) (body : List Byte) : BitVec 16 :=
  crcWord (BitVec.ofNat 8 body.length :: code :: tag :: body)

end Sys2Proof
end

