-- ==== Sys2Proof/Machine/State.lean ====
section
/-!
DEFINITION. The state of the part as plain data, block by block (R1, R22, R42, R62, R84, R104, R117, R137, R157, R174 to
R181), the three kinds of stop, and the state right after reset (R20, R41, R61, R83, R103, R116, R136, R156, R173, R183).
-/

namespace Sys2Proof.Machine

/-! ## Pairs and triples of like things -/

/-- One value for each lane (or grading unit, or rule cache). -/
structure PerLane (α : Type) where
  lane1 : α
  lane2 : α
  deriving DecidableEq, Repr

/-- One value for each line. -/
structure PerLine (α : Type) where
  a : α
  b : α
  deriving DecidableEq, Repr

/-- One value for each port. -/
structure PerPort (α : Type) where
  pg : α
  pa : α
  pb : α
  deriving DecidableEq, Repr

/-- The two root slots (R46). -/
inductive Slot where
  | slot0 | slot1
  deriving DecidableEq, Repr

/-- One value for each root slot. -/
structure PerSlot (α : Type) where
  slot0 : α
  slot1 : α
  deriving DecidableEq, Repr

/-! ## Sheet records (R2, R35) -/

/-- Where a defect lies on the sheet (R2). -/
inductive Zone where
  | field | edge
  deriving DecidableEq, Repr

/-- One defect: kind code 0 to 7, zone, size in mm (R2). -/
structure Defect where
  kind : Nat
  zone : Zone
  size : Nat
  deriving DecidableEq, Repr

/-- The sheet flags of section 2.4. -/
structure SheetFlags where
  clamped        : Bool := false
  overdry        : Bool := false
  noMoisture     : Bool := false
  defectsOmitted : Bool := false
  badDefect      : Bool := false
  unmeasured     : Bool := false
  late           : Bool := false
  unconfirmed    : Bool := false
  deriving DecidableEq, Repr

/-- The rule fault kinds (section 2.4). -/
inductive RuleFault where
  | noRoot | speciesRange | address | format | speciesInvalid | noThickness | thicknessRange | thicknessInvalid
  deriving DecidableEq, Repr

/-- The grading status of a record (R2). -/
inductive GradingStatus where
  | waiting | grading | graded | faulted
  deriving DecidableEq, Repr

/-- The eight sheet classes (R104). -/
inductive SheetClass where
  | g1 | g2 | g3 | g4 | g5 | g6 | redry | regrade
  deriving DecidableEq, Repr

/-- A sheet record: the fields of R2, the thickness class that grading adds (R35), and the model's own `round`: how often
the sheet counter had come round to 1 when the number was given, which no answer shows (R4, assumption 21). -/
structure SheetRecord where
  number     : Nat
  lane       : Lane
  slot       : Slot
  species    : Option Nat
  thickness  : Option Nat
  moisture   : Option Nat
  width      : Option Nat
  length     : Option Nat
  defects    : List Defect
  flags      : SheetFlags
  fault      : Option RuleFault
  status     : GradingStatus
  cls        : Option SheetClass
  gapsAfter  : Nat
  thickClass : Option Nat
  round      : Nat
  deriving DecidableEq, Repr

/-! ## Intake (R1) -/

/-- A record in an intake queue with its age timer in ms (R1). -/
structure IntakeEntry where
  sheet : SheetRecord
  age   : Nat
  deriving DecidableEq, Repr

/-- The intake queue, oldest first, and the pending-gap count of one lane (R1). -/
structure IntakeLane where
  queue : List IntakeEntry
  gaps  : Nat
  deriving DecidableEq, Repr

/-- Intake: the two lanes, the sheet counter, the current root slot and the record age limit (R1, R10), and the model's own
`round`: how often the counter has come round from 65535 to 1 (R4, assumption 21). -/
structure Intake where
  lanes    : PerLane IntakeLane
  counter  : Nat
  round    : Nat
  current  : Slot
  ageLimit : Nat
  deriving DecidableEq, Repr

/-! ## Table memory (R42, R46, R50, R51) -/

/-- The content of one cell: byte 0 is the tag, bytes 1 to 15 the fields (R187). -/
abbrev Cell16 := Vector Byte 16

/-- Table memory as (byte address, byte) pairs: byte k of cell n lies at 16 n + k; an unlisted byte reads 0 (R42). -/
abbrev Memory := List Host.Cell

/-- A root descriptor that is present (R46). -/
structure Descriptor where
  origin   : Nat
  count    : Nat
  isolated : Bool
  deriving DecidableEq, Repr

/-- A species cell's content with the number of the cell it came from (R63, R74). -/
structure SpeciesCopy where
  cell    : Nat
  content : Cell16
  deriving DecidableEq, Repr

/-- A path's three cells with their numbers (R63). -/
structure PathCopy where
  thickCell : Nat
  lim1Cell  : Nat
  lim2Cell  : Nat
  thick     : Cell16
  lim1      : Cell16
  lim2      : Cell16
  deriving DecidableEq, Repr

/-- A walk in flight (R52, R53): the cell whose read is waiting, and the cells it has read before. -/
inductive Walk where
  | species (cell : Nat)
  | thickness (cell : Nat)
  | limits1 (thickCell : Nat) (thick : Cell16) (cell : Nat)
  | limits2 (thickCell : Nat) (thick : Cell16) (lim1Cell : Nat) (lim1 : Cell16) (cell : Nat)
  deriving DecidableEq, Repr

/-- The requesters of the table memory arbiter (R50). -/
inductive Requester where
  | gu1 | gu2 | port
  deriving DecidableEq, Repr

/-- The unit or scope field of a request (R191). -/
inductive Scope where
  | gu1 | gu2 | both
  deriving DecidableEq, Repr

/-- Where a probe's level came from (R60). -/
inductive Source where
  | none | cache | walk
  deriving DecidableEq, Repr

/-- The body fields of PROBE PATH (R59). -/
structure ProbeArgs where
  slot      : Slot
  code      : Nat
  thickness : Option Nat
  unit      : Lane
  useCache  : Bool
  deriving DecidableEq, Repr

/-- What a probe reports (R60). -/
structure ProbeReport where
  fault         : Option RuleFault := none
  speciesSource : Source := .none
  speciesCell   : Option Nat := none
  index         : Option Nat := none
  pathSource    : Source := .none
  thickCell     : Option Nat := none
  limitOrigin   : Option Nat := none
  accesses      : Nat := 0
  deriving DecidableEq, Repr

/-- A PROBE PATH that has been taken and waits for an access (R51, R59). -/
structure ProbeRun where
  descriptor : Descriptor
  report     : ProbeReport
  walk       : Walk
  deriving DecidableEq, Repr

/-- The body fields of LOCK PATHS: unit, slot and paths as (species code, thickness index) (R75). -/
structure LockArgs where
  unit  : Lane
  slot  : Slot
  paths : List (Nat × Nat)
  deriving DecidableEq, Repr

/-- The result of one path of LOCK PATHS (R77). -/
inductive LockResult where
  | locked | notLocked | fault (kind : RuleFault)
  deriving DecidableEq, Repr

/-- A LOCK PATHS that has been taken and waits for an access (R75 to R77): `code` and `index` are the path in work,
`rest` the paths to come, `results` those of the paths ended, in order, `species` what its species walk read. -/
structure LockRun where
  descriptor : Descriptor
  results    : List LockResult
  code       : Nat
  index      : Nat
  rest       : List (Nat × Nat)
  species    : Option SpeciesCopy
  walk       : Walk
  deriving DecidableEq, Repr

/-- The work of a request in the port path queue (R51). `run` is none until the request is taken. -/
inductive TableWork where
  | write (cell : Nat) (content : Cell16)
  | read (cell : Nat)
  | replace (cell : Nat) (expected new : Cell16) (scope : Scope)
  | invalidate (cell : Nat) (scope : Scope)
  | probe (args : ProbeArgs) (run : Option ProbeRun)
  | lock (args : LockArgs) (run : Option LockRun)
  deriving DecidableEq, Repr

/-- A request in the port path queue, with the port, code and tag its answer needs (R51). -/
structure PathRequest where
  port : Port
  code : Byte
  tag  : Byte
  work : TableWork
  deriving DecidableEq, Repr

/-- The table memory block: the cells, the root slots, the arbiter's last grant and the port path queue. -/
structure Tables where
  mem       : Memory
  roots     : PerSlot (Option Descriptor)
  lastGrant : Requester
  portPath  : List PathRequest
  deriving DecidableEq, Repr

/-! ## Grading units (R22) -/

/-- A grading in flight between two events: it always waits for a read of its walk (section 2.2). `code` is the
species code of the record, `slotHeld` the root slot the grading still holds in use (R39, assumption 12), and `round` the
round of the record, the model's own (assumption 21). -/
structure GradingJob where
  number     : Nat
  round      : Nat
  code       : Nat
  slotHeld   : Option Slot
  descriptor : Descriptor
  species    : Option SpeciesCopy
  thickClass : Option Nat
  walk       : Walk
  abandoned  : Bool
  deriving DecidableEq, Repr

/-! ## Rule caches (R62, R63, R73) -/

/-- The mode of a rule cache (R62). -/
inductive CacheMode where
  | normal | split | off
  deriving DecidableEq, Repr

/-- The tag of a cache entry (R63, R64). -/
inductive EntryTag where
  | species (origin code : Nat)
  | shared (code : Nat)
  | path (origin index : Nat)
  deriving DecidableEq, Repr

/-- A cache entry's tag and copied content by its kind; `owner` none is the tag SHARED (R63). -/
inductive CacheBody where
  | species (owner : Option Nat) (code : Nat) (copy : SpeciesCopy)
  | path (origin index : Nat) (copy : PathCopy)
  deriving DecidableEq, Repr

/-- A cache entry (R63). -/
structure CacheEntry where
  body   : CacheBody
  locked : Bool
  deriving DecidableEq, Repr

/-- A path buffer entry: its key of three parts and its copies (R73). -/
structure BufferEntry where
  origin  : Nat
  code    : Nat
  index   : Nat
  species : SpeciesCopy
  path    : PathCopy
  deriving DecidableEq, Repr

/-- A rule cache: mode, entries in formation order, path buffer older first (R62). -/
structure RuleCache where
  mode    : CacheMode
  entries : List CacheEntry
  buffer  : List BufferEntry
  deriving DecidableEq, Repr

/-! ## Tracking (R84, R85) -/

/-- The tracking state (R84). -/
inductive TrackState where
  | running | faulted
  deriving DecidableEq, Repr

/-- The drop state of an entry (R85); `noDrop` is NONE. -/
inductive DropState where
  | noDrop | allocated | reserved | abandoned
  deriving DecidableEq, Repr

/-- A tracking entry (R85). Its class is the record's result class, PENDING while that is absent. `decided` is the
model's own mark that its decision point has been taken (assumption 5). -/
structure TrackEntry where
  sheet    : SheetRecord
  distance : Nat
  stack    : Option StackId
  drop     : DropState
  decided  : Bool
  deriving DecidableEq, Repr

/-- The conveyor geometry in mm (R86). -/
structure Geometry where
  decision : Nat
  window   : Nat
  gates    : Vector Nat 10
  runOut   : Nat
  deriving DecidableEq, Repr

/-- Tracking (R84): the queue is oldest first; `stallTimer` none is a stopped timer. -/
structure Tracking where
  state      : TrackState
  queue      : List TrackEntry
  geometry   : Geometry
  stallLimit : Nat
  stallTimer : Option Nat
  deriving DecidableEq, Repr

/-! ## Routing (R104, R114) -/

/-- A route entry (R104); none is NONE. -/
structure Route where
  primary   : Option StackId
  alternate : Option StackId
  group     : Fin 4
  deriving DecidableEq, Repr

/-- Routing: the routes in the order G1 to G6, REDRY, REGRADE, the group swap states, the run-out count. -/
structure Routing where
  routes : Vector Route 8
  swaps  : Vector Bool 4
  runOut : Nat
  deriving DecidableEq, Repr

/-! ## Stacks (R117) -/

/-- The stack state (R117); `opened` is OPEN. -/
inductive StackState where
  | closed | opened | drain | faulted
  deriving DecidableEq, Repr

/-- A subset of the grades 1 to 5: bit n−1 for grade n (R138, R188). -/
abbrev GradeSet := BitVec 5

/-- A falling record with its landing timer (R127). -/
structure Falling where
  sheet : SheetRecord
  timer : Nat
  deriving DecidableEq, Repr

/-- One stack (R117). The inventory is held top first, the falling list oldest first. -/
structure Stack where
  state        : StackState
  capacity     : Nat
  access       : PerLine Bool
  inventory    : List SheetRecord
  allocated    : Nat
  reservations : Nat
  falling      : List Falling
  holder       : Option Line
  waiters      : PerLine (Option GradeSet)
  lastGrant    : Option Line
  deriving DecidableEq, Repr

/-- The pick priority (R133). -/
inductive PickPriority where
  | fixedA | fixedB | rotating
  deriving DecidableEq, Repr

/-- The stacks, their two parameters (R130, R133) and the pulses each gate output has given since reset (assumption 8). -/
structure Stacks where
  stack        : Vector Stack 10
  landingLimit : Nat
  priority     : PickPriority
  gatePulses   : Vector Nat 10
  deriving DecidableEq, Repr

/-! ## Lines: sequencer and draw unit (R137, R157) -/

/-- The mode of a line (R137). -/
inductive LineMode where
  | off | load | run | direct
  deriving DecidableEq, Repr

/-- The exec state of a line (R137). -/
inductive Exec where
  | run | hold | step | once
  deriving DecidableEq, Repr

/-- The manner in which a step was begun (R137, R143). -/
inductive Manner where
  | walk | step | once
  deriving DecidableEq, Repr

/-- The activity of a line (R137). -/
inductive Activity where
  | idle | waitingTop | picking | starved | awaiting | waitRecord | stopping | fault
  deriving DecidableEq, Repr

/-- The fault kinds of a line other than none (R152). -/
inductive LineFault where
  | blankStep | badStep | overlength | feederTimeout
  deriving DecidableEq, Repr

/-- The role of a ply (R138). -/
inductive Role where
  | face | back | core | cross
  deriving DecidableEq, Repr

/-- The preference of a draw (R138). -/
inductive Preference where
  | conserve | best
  deriving DecidableEq, Repr

/-- The after field of PANEL END (R138). -/
inductive After where
  | next | restart | stop
  deriving DecidableEq, Repr

/-- The three bytes a step of kind 0, 4, 5, 6 or 7 keeps as written (R188). -/
structure KeptBytes where
  byte1 : Byte
  byte2 : Byte
  byte3 : Byte
  deriving DecidableEq, Repr

/-- A pattern step (R138, R188). `unnamed true` is kind code 7, `unnamed false` kind code 6. -/
inductive PatternStep where
  | blank (kept : KeptBytes)
  | ply (grades : GradeSet) (role : Role) (pref : Preference)
  | loop (target : Fin 16) (count : Fin 64)
  | panelEnd (notice : Bool) (after : After)
  | signal (kept : KeptBytes)
  | await (kept : KeptBytes)
  | unnamed (seven : Bool) (kept : KeptBytes)
  deriving DecidableEq, Repr

/-- The origin of a draw (R157). -/
inductive Origin where
  | ply | direct
  deriving DecidableEq, Repr

/-- A draw in progress; `stack` is the stack waited on or held (R157). -/
structure Draw where
  grades : GradeSet
  pref   : Preference
  role   : Role
  origin : Origin
  stack  : Option StackId
  deriving DecidableEq, Repr

/-- One ply of a panel: the sheet record, the stack it came from and the role of its draw (R168). -/
structure Ply where
  sheet : SheetRecord
  stack : StackId
  role  : Role
  deriving DecidableEq, Repr

/-- The status of a panel record (R168). -/
inductive PanelStatus where
  | complete | abandoned
  deriving DecidableEq, Repr

/-- A panel record (R168). -/
structure PanelRecord where
  number : Nat
  line   : Line
  status : PanelStatus
  plies  : List Ply
  deriving DecidableEq, Repr

/-- The result of a DIRECT draw (R157). -/
inductive DrawResult where
  | done | aborted | cancelled
  deriving DecidableEq, Repr

/-- One line: the sequencer's state (R137) and its draw unit's (R157). A timer that is none is stopped; `pickReq` is
the PICK_REQ output with its stack number, none while withdrawn; `emptied` is the model's own mark of a pick that began as a
PICK_EMPTY ended the last, until a millisecond has passed (assumption 30). -/
structure LineState where
  mode         : LineMode
  exec         : Exec
  pointer      : Fin 16
  pattern      : Vector PatternStep 16
  counters     : Vector (Option Nat) 16
  latch        : Bool
  activity     : Activity
  fault        : Option LineFault
  step         : Option Manner
  draw         : Option Draw
  openPanel    : List Ply
  panelQueue   : List PanelRecord
  panelCounter : Nat
  pickTimer    : Option Nat
  starveTimer  : Option Nat
  starveNoted  : Bool
  lastDraw     : Option DrawResult
  pickReq      : Option StackId
  emptied      : Bool
  deriving DecidableEq, Repr

/-- Both lines and the two parameters that act on both draw units (R157). -/
structure Lines where
  line        : PerLine LineState
  pickLimit   : Nat
  starveLimit : Nat
  deriving DecidableEq, Repr

/-! ## Station ports (R174 to R181) -/

/-- A receiver (R174): the bytes of the partial frame after its lead byte, and the ms since its last byte. -/
inductive Receiver where
  | hunting
  | receiving (bytes : List Byte) (gap : Nat)
  deriving DecidableEq, Repr

/-- The pending request of a port: its code and tag (R176). -/
structure PendingRequest where
  code : Byte
  tag  : Byte
  deriving DecidableEq, Repr

/-- One station port: receiver, pending request, the frame being sent, the frames waiting, notice set and mask. -/
structure PortState where
  receiver : Receiver
  pending  : Option PendingRequest
  sending  : Option (List Byte)
  waiting  : List (List Byte)
  notices  : BitVec 32
  mask     : BitVec 32
  deriving DecidableEq, Repr

/-! ## The whole part -/

/-- The input levels the rules read: ESTOP_N and RESET_N asserted, CONV_RUN asserted. -/
structure Pins where
  estop     : Bool
  convRun   : Bool
  resetHeld : Bool
  deriving DecidableEq, Repr

/-- The state of the part. `choices` counts the uses of the free values of assumptions 9, 27 and 30; `pending` is the queue of
commands that wait, first in, first out. -/
structure State where
  intake   : Intake
  grading  : PerLane (Option GradingJob)
  tables   : Tables
  caches   : PerLane RuleCache
  tracking : Tracking
  routing  : Routing
  sk       : Stacks
  lines    : Lines
  ports    : PerPort PortState
  pins     : Pins
  choices  : Nat
  pending  : List Instr
  deriving DecidableEq, Repr

/-- Why the part could stop with a fault. -/
inductive Fault where
  /-- Raised by an access to table memory (GU_WALK_READ, PORT_ACCESS_GRANT) at a cell number above 2047, which R42
  does not give the part. The checks of R52, R53 and R55 to R58 keep every such number out, so no run reaches it.
  Safe: the model stops where the part has nothing to access. -/
  | noSuchCell (cell : Nat)
  deriving DecidableEq, Repr

/-- Why the model could refuse a command. -/
inductive Refusal where
  /-- A command without a meaning in this model; raised by `exec`'s refused arms only, of which there is none.
  Safe. -/
  | notModelled (mnemonic : String)
  deriving DecidableEq, Repr

/-! ## The parts of the reset state -/

/-- Intake after reset (R20). -/
def Intake.reset : Intake :=
  { lanes := ⟨⟨[], 0⟩, ⟨[], 0⟩⟩, counter := 1, round := 0, current := .slot0, ageLimit := 4000 }

/-- Table memory after reset (R61). -/
def Tables.reset : Tables :=
  { mem := [], roots := ⟨none, none⟩, lastGrant := .port, portPath := [] }

/-- A rule cache after reset (R83). -/
def RuleCache.reset : RuleCache := { mode := .normal, entries := [], buffer := [] }

/-- The default geometry (R86). -/
def Geometry.default : Geometry :=
  { decision := 1500, window := 400,
    gates := #v[3000, 4800, 6600, 8400, 10200, 12000, 13800, 15600, 17400, 19200], runOut := 21000 }

/-- Tracking after reset (R103). -/
def Tracking.reset : Tracking :=
  { state := .running, queue := [], geometry := .default, stallLimit := 800, stallTimer := none }

/-- Routing after reset (R116). -/
def Routing.reset : Routing :=
  { routes := Vector.replicate 8 ⟨none, none, 0⟩, swaps := Vector.replicate 4 false, runOut := 0 }

/-- A stack after reset (R136). -/
def Stack.reset : Stack :=
  { state := .closed, capacity := 250, access := ⟨true, true⟩, inventory := [], allocated := 0, reservations := 0,
    falling := [], holder := none, waiters := ⟨none, none⟩, lastGrant := none }

/-- The stacks after reset (R136). -/
def Stacks.reset : Stacks :=
  { stack := Vector.replicate 10 Stack.reset, landingLimit := 400, priority := .rotating,
    gatePulses := Vector.replicate 10 0 }

/-- A line after reset (R156, R173). -/
def LineState.reset : LineState :=
  { mode := .off, exec := .hold, pointer := 0, pattern := Vector.replicate 16 (.blank ⟨0, 0, 0⟩),
    counters := Vector.replicate 16 none, latch := false, activity := .idle, fault := none, step := none, draw := none,
    openPanel := [], panelQueue := [], panelCounter := 1, pickTimer := none, starveTimer := none, starveNoted := false,
    lastDraw := none, pickReq := none, emptied := false }

/-- The lines after reset (R156, R173). -/
def Lines.reset : Lines :=
  { line := ⟨.reset, .reset⟩, pickLimit := 3000, starveLimit := 10000 }

/-- A port after reset (R183). -/
def PortState.reset : PortState :=
  { receiver := .hunting, pending := none, sending := none, waiting := [], notices := 0, mask := 0 }

/-- The part right after a reset whose RESET_N has been released with ESTOP_N released and CONV_RUN deasserted
(the levels are a DESIGN CHOICE, assumption 7). -/
def State.reset : State :=
  { intake := .reset, grading := ⟨none, none⟩, tables := .reset, caches := ⟨.reset, .reset⟩, tracking := .reset,
    routing := .reset, sk := .reset, lines := .reset, ports := ⟨.reset, .reset, .reset⟩,
    pins := { estop := false, convRun := false, resetHeld := false }, choices := 0, pending := [] }

end Sys2Proof.Machine
end

