-- ==== Sys2Proof/Machine/Operands.lean ====
section
/-!
DEFINITION. The layouts of chapter 11: how a request body's fields are read (R184, R186 to R191), how cells and pattern
steps lie in bytes (R187, R188), and how every record and answer body is written (R189 to R192).
-/

namespace Sys2Proof.Machine

/-! ## Fields of a body (R184) -/

/-- The byte at offset `k` as a number; 0 past the end. -/
def byteAt (body : List Byte) (k : Nat) : Nat := (body[k]?.getD 0).toNat

/-- The two-byte field at offset `k`, high byte first (R184). -/
def wordAt (body : List Byte) (k : Nat) : Nat := byteAt body k * 256 + byteAt body (k + 1)

/-- The four-byte mask at offset `k`, high byte first (R190, assumption 28). -/
def maskAt (body : List Byte) (k : Nat) : BitVec 32 :=
  BitVec.ofNat 32 (wordAt body k * 65536 + wordAt body (k + 2))

/-- A number as one byte. -/
def b8 (n : Nat) : Byte := BitVec.ofNat 8 n

/-- A number as a two-byte field, high byte first (R184). -/
def b16 (n : Nat) : List Byte := [b8 (n / 256), b8 n]

/-- A notice set or mask as four bytes, high byte first (R190, assumption 28). -/
def b32 (w : BitVec 32) : List Byte :=
  [w.extractLsb' 24 8, w.extractLsb' 16 8, w.extractLsb' 8 8, w.extractLsb' 0 8]

/-- No (off, clear) is 0, yes (on, set) is 1 (R191). -/
def bBool (x : Bool) : Byte := if x then 1 else 0

/-- An optional byte field: absent is FFh (R184). -/
def optByte : Option Nat → Byte
  | none => 0xFF
  | some n => b8 n

/-- An optional two-byte field: absent is FFFFh (R184). -/
def optWord : Option Nat → List Byte
  | none => [0xFF, 0xFF]
  | some n => b16 n

/-- A two-byte field whose all-ones value is absent (R184, R186). -/
def optField (n : Nat) : Option Nat := if n = 0xFFFF then none else some n

/-- `n` zero bytes. -/
def zeros (n : Nat) : List Byte := List.replicate n 0

/-! ## Enumerated fields (R191). A code with no meaning gives none, which the request's rule refuses BAD_VALUE. -/

def laneOf : Nat → Option Lane
  | 1 => some .lane1
  | 2 => some .lane2
  | _ => none

/-- A unit field that may name one unit only. -/
def unitOf : Nat → Option Lane
  | 0 => some .lane1
  | 1 => some .lane2
  | _ => none

def scopeOf : Nat → Option Scope
  | 0 => some .gu1
  | 1 => some .gu2
  | 2 => some .both
  | _ => none

def slotOf : Nat → Option Slot
  | 0 => some .slot0
  | 1 => some .slot1
  | _ => none

def lineOf : Nat → Option Line
  | 0 => some .a
  | 1 => some .b
  | _ => none

def stackOf (n : Nat) : Option StackId := if h : n < 10 then some ⟨n, h⟩ else none

/-- A stack or NONE in four bits: `some none` is NONE (R184, R189). -/
def stackOrNone (n : Nat) : Option (Option StackId) :=
  if n = 15 then some none else (stackOf n).map some

def classOf (n : Nat) : Option (Fin 8) := if h : n < 8 then some ⟨n, h⟩ else none

def groupOf (n : Nat) : Option (Fin 4) := if h : n < 4 then some ⟨n, h⟩ else none

def yesNo : Nat → Option Bool
  | 0 => some false
  | 1 => some true
  | _ => none

/-- The cache modes a SET CACHE MODE may name: SPLIT is refused (R70). -/
def cacheModeOf : Nat → Option CacheMode
  | 0 => some .normal
  | 2 => some .off
  | _ => none

def lineModeOf : Nat → Option LineMode
  | 0 => some .off
  | 1 => some .load
  | 2 => some .run
  | 3 => some .direct
  | _ => none

def execOf : Nat → Option Exec
  | 0 => some .run
  | 1 => some .hold
  | 2 => some .step
  | 3 => some .once
  | _ => none

def roleOf : Nat → Option Role
  | 0 => some .face
  | 1 => some .back
  | 2 => some .core
  | 3 => some .cross
  | _ => none

def prefOf : Nat → Option Preference
  | 0 => some .conserve
  | 1 => some .best
  | _ => none

def afterOf : Nat → Option After
  | 0 => some .next
  | 1 => some .restart
  | 2 => some .stop
  | _ => none

def priorityOf : Nat → Option PickPriority
  | 0 => some .fixedA
  | 1 => some .fixedB
  | 2 => some .rotating
  | _ => none

/-- A grade set byte: bits 5 to 7 set are refused (R188). -/
def gradesOf (n : Nat) : Option GradeSet := if n < 32 then some (BitVec.ofNat 5 n) else none

/-- An access mask byte: bits 2 to 7 set are refused (R191). -/
def accessOf (n : Nat) : Option (PerLine Bool) :=
  if n < 4 then some ⟨n.testBit 0, n.testBit 1⟩ else none

/-! ## Codes in answers (R189, R191) -/

def Slot.code : Slot → Nat
  | .slot0 => 0
  | .slot1 => 1

def Lane.code : Lane → Nat
  | .lane1 => 1
  | .lane2 => 2

def Line.code : Line → Nat
  | .a => 0
  | .b => 1

def lineByte : Option Line → Byte
  | none => 0xFF
  | some l => b8 (Line.code l)

def RuleFault.code : RuleFault → Nat
  | .noRoot => 1
  | .speciesRange => 2
  | .address => 3
  | .format => 4
  | .speciesInvalid => 5
  | .noThickness => 6
  | .thicknessRange => 7
  | .thicknessInvalid => 8

def faultCode : Option RuleFault → Nat
  | none => 0
  | some f => f.code

def GradingStatus.code : GradingStatus → Nat
  | .waiting => 0
  | .grading => 1
  | .graded => 2
  | .faulted => 3

/-- The class codes 0 to 7; they number the route table too (R189). -/
def SheetClass.code : SheetClass → Fin 8
  | .g1 => 0
  | .g2 => 1
  | .g3 => 2
  | .g4 => 3
  | .g5 => 4
  | .g6 => 5
  | .redry => 6
  | .regrade => 7

def CacheMode.code : CacheMode → Nat
  | .normal => 0
  | .split => 1
  | .off => 2

def Source.code : Source → Nat
  | .none => 0
  | .cache => 1
  | .walk => 2

def LockResult.code : LockResult → Nat
  | .locked => 0x10
  | .notLocked => 0x11
  | .fault k => k.code

def TrackState.code : TrackState → Nat
  | .running => 0
  | .faulted => 1

def DropState.code : DropState → Nat
  | .noDrop => 0
  | .allocated => 1
  | .reserved => 2
  | .abandoned => 3

def StackState.code : StackState → Nat
  | .closed => 0
  | .opened => 1
  | .drain => 2
  | .faulted => 3

def LineMode.code : LineMode → Nat
  | .off => 0
  | .load => 1
  | .run => 2
  | .direct => 3

def Exec.code : Exec → Nat
  | .run => 0
  | .hold => 1
  | .step => 2
  | .once => 3

def Activity.code : Activity → Nat
  | .idle => 0
  | .waitingTop => 1
  | .picking => 2
  | .starved => 3
  | .awaiting => 4
  | .waitRecord => 5
  | .stopping => 6
  | .fault => 7

def lineFaultCode : Option LineFault → Nat
  | none => 0
  | some .blankStep => 1
  | some .badStep => 2
  | some .overlength => 3
  | some .feederTimeout => 4

def drawResultCode : Option DrawResult → Nat
  | none => 0
  | some .done => 1
  | some .aborted => 2
  | some .cancelled => 3

def Role.code : Role → Nat
  | .face => 0
  | .back => 1
  | .core => 2
  | .cross => 3

def Preference.code : Preference → Nat
  | .conserve => 0
  | .best => 1

def After.code : After → Nat
  | .next => 0
  | .restart => 1
  | .stop => 2

def PickPriority.code : PickPriority → Nat
  | .fixedA => 0
  | .fixedB => 1
  | .rotating => 2

def PanelStatus.code : PanelStatus → Nat
  | .complete => 0
  | .abandoned => 1

/-- A stack in four bits, 0Fh for NONE (R189). -/
def stackNibble : Option StackId → Nat
  | none => 15
  | some k => k.val

def accessByte (m : PerLine Bool) : Byte := b8 (m.a.toNat + 2 * m.b.toNat)

/-! ## Table cells (R187) -/

/-- The tag byte. -/
def Cell16.tag (x : Cell16) : Nat := x[0].toNat

/-- The two-byte field at byte `k` of a cell, high byte first. -/
def Cell16.word (x : Cell16) (k : Nat) : Nat := wordAt x.toList k

def Cell16.isSpecies (x : Cell16) : Bool := x.tag == 1
def Cell16.isThickness (x : Cell16) : Bool := x.tag == 2
def Cell16.isLimits1 (x : Cell16) : Bool := x.tag == 3
def Cell16.isLimits2 (x : Cell16) : Bool := x.tag == 4

/-- The valid indication of a species or thickness entry. -/
def Cell16.valid (x : Cell16) : Bool := x[1].getLsbD 0
/-- The shared indication of a species entry. -/
def Cell16.shared (x : Cell16) : Bool := x[1].getLsbD 1
/-- The thickness table origin of a species entry. -/
def Cell16.thickOrigin (x : Cell16) : Nat := x.word 2
/-- The class count of a species entry. -/
def Cell16.classCount (x : Cell16) : Nat := x[4].toNat
/-- The class base of a species entry, in µm. -/
def Cell16.classBase (x : Cell16) : Nat := x.word 5
/-- The class step of a species entry, in µm. -/
def Cell16.classStep (x : Cell16) : Nat := x.word 7
/-- The limit set origin of a thickness entry. -/
def Cell16.limitOrigin (x : Cell16) : Nat := x.word 2
/-- The redry limit of a thickness entry. -/
def Cell16.redry (x : Cell16) : Nat := x.word 4
/-- The overdry limit of a thickness entry. -/
def Cell16.overdry (x : Cell16) : Nat := x.word 6

/-- The weight of defect kind 0 to 5 in a LIMITS-1 cell: four bits each, even kinds in the low half. -/
def Cell16.weight (x : Cell16) (kind : Nat) : Nat :=
  let b := byteAt x.toList (1 + kind / 2)
  if kind % 2 = 0 then b % 16 else b / 16

/-- The cell with its valid indication set to no and its other fields unchanged (R58). -/
def Cell16.invalidated (x : Cell16) : Cell16 := x.set 1 (x[1] &&& 0xFE)

/-- The limits of one grade: density, open count, open size (R45). -/
structure GradeLimits where
  density   : Nat
  openCount : Nat
  openSize  : Nat
  deriving DecidableEq, Repr

/-- The five bytes of one grade's limits at byte `k` (R187). -/
def gradeLimitsAt (c : Cell16) (k : Nat) : GradeLimits :=
  { density := wordAt c.toList k, openCount := byteAt c.toList (k + 2), openSize := wordAt c.toList (k + 3) }

/-- The limits of grades 1 to 5, in order, from the two cells of a limit set (R45, R187). -/
def gradeLimits (lim1 lim2 : Cell16) : List GradeLimits :=
  [gradeLimitsAt lim1 4, gradeLimitsAt lim1 9, gradeLimitsAt lim2 1, gradeLimitsAt lim2 6, gradeLimitsAt lim2 11]

/-- Which bits of byte `k` of a cell of tag `t` belong to its fields; the others are unused (R184, R187). -/
def cellFieldBits (t k : Nat) : Byte :=
  if k = 0 then 0xFF
  else match t with
    | 0 => 0xFF
    | 1 => if k = 1 then 0x03 else if k ≤ 8 then 0xFF else 0
    | 2 => if k = 1 then 0x01 else if k ≤ 7 then 0xFF else 0
    | 3 => if k ≤ 13 then 0xFF else 0
    | _ => 0xFF

/-- The cell content at offset `off` of a body, unused bits ignored (R184, R187, assumption 18). -/
def cellAt (body : List Byte) (off : Nat) : Cell16 :=
  let f := fun k => b8 (byteAt body (off + k)) &&& cellFieldBits (byteAt body off) k
  #v[f 0, f 1, f 2, f 3, f 4, f 5, f 6, f 7, f 8, f 9, f 10, f 11, f 12, f 13, f 14, f 15]

/-- The tag code at offset `off` names one of the five kinds of R42. -/
def tagOk (body : List Byte) (off : Nat) : Bool := byteAt body off ≤ 4

/-! ## Pattern steps (R138, R188) -/

/-- The step whose four bytes lie at offset `off`, or none where R139's check 3 refuses a field. -/
def stepAt (body : List Byte) (off : Nat) : Option PatternStep :=
  let b1 := byteAt body (off + 1)
  let b2 := byteAt body (off + 2)
  let b3 := byteAt body (off + 3)
  let kept : KeptBytes := ⟨b8 b1, b8 b2, b8 b3⟩
  match byteAt body off % 8 with
  | 0 => some (.blank kept)
  | 1 => do return .ply (← gradesOf b1) (← roleOf b2) (← prefOf b3)
  | 2 => if h : b1 < 16 ∧ b2 < 64 then some (.loop ⟨b1, h.1⟩ ⟨b2, h.2⟩) else none
  | 3 => do return .panelEnd (← yesNo b1) (← afterOf b2)
  | 4 => some (.signal kept)
  | 5 => some (.await kept)
  | 6 => some (.unnamed false kept)
  | _ => some (.unnamed true kept)

/-- `n` consecutive steps from offset `off`, or none where one of them is refused. -/
def stepsAt (body : List Byte) (off : Nat) : Nat → Option (List PatternStep)
  | 0 => some []
  | n + 1 => do return (← stepAt body off) :: (← stepsAt body (off + 4) n)

/-- The three kept bytes in order. -/
def KeptBytes.bytes (k : KeptBytes) : List Byte := [k.byte1, k.byte2, k.byte3]

/-- The four bytes of a step; unused positions are 0 (R188). -/
def PatternStep.bytes : PatternStep → List Byte
  | .blank k => 0 :: k.bytes
  | .ply g r p => [1, b8 g.toNat, b8 r.code, b8 p.code]
  | .loop t c => [2, b8 t.val, b8 c.val, 0]
  | .panelEnd n a => [3, bBool n, b8 a.code, 0]
  | .signal k => 4 :: k.bytes
  | .await k => 5 :: k.bytes
  | .unnamed false k => 6 :: k.bytes
  | .unnamed true k => 7 :: k.bytes

/-! ## Records in answers (R189, R192) -/

/-- The flags byte of a sheet record (R189). -/
def SheetFlags.byte (f : SheetFlags) : Byte :=
  b8 (f.clamped.toNat + 2 * f.overdry.toNat + 4 * f.noMoisture.toNat + 8 * f.defectsOmitted.toNat
    + 16 * f.badDefect.toNat + 32 * f.unmeasured.toNat + 64 * f.late.toNat + 128 * f.unconfirmed.toNat)

/-- Byte 2 of a sheet record: species code in bits 0 to 3 (0Fh and bit 4 set when absent), lane in bits 6 and 7. -/
def speciesLaneByte (r : SheetRecord) : Byte :=
  b8 ((match r.species with
    | none => 31
    | some c => c % 16) + 64 * Lane.code r.lane)

/-- A sheet record in 7 bytes (R189). A class that is absent is 8, PENDING. -/
def sheetBytes (r : SheetRecord) : List Byte :=
  b16 r.number ++
    [speciesLaneByte r, optByte r.thickClass,
     (match r.cls with
      | none => 8
      | some c => b8 c.code.val),
     b8 (faultCode r.fault + 16 * r.status.code), r.flags.byte]

/-- A record of READ INTAKE in 9 bytes (R192). -/
def intakeBytes (e : IntakeEntry) : List Byte :=
  b16 e.sheet.number ++
    [b8 (Slot.code e.sheet.slot + 16 * e.sheet.status.code), optByte (e.sheet.cls.map (·.code.val)),
     e.sheet.flags.byte, b8 (faultCode e.sheet.fault), b8 e.sheet.gapsAfter] ++ b16 e.age

/-- A tracking entry in 12 bytes (R189). -/
def trackBytes (e : TrackEntry) : List Byte :=
  sheetBytes e.sheet ++ optWord e.sheet.moisture ++ b16 e.distance ++ [b8 (stackNibble e.stack + 16 * e.drop.code)]

/-- A ply in 8 bytes (R189). -/
def plyBytes (p : Ply) : List Byte := sheetBytes p.sheet ++ [b8 (p.stack.val + 16 * p.role.code)]

/-- A panel record (R189). -/
def panelBytes (p : PanelRecord) : List Byte :=
  b16 p.number ++ [b8 (Line.code p.line), b8 p.status.code, b8 p.plies.length] ++ p.plies.flatMap plyBytes

/-- A cache entry in 58 bytes (R192). -/
def entryBytes (e : CacheEntry) : List Byte :=
  match e.body with
  | .species owner code c =>
    [b8 (2 * e.locked.toNat + 4 * owner.isNone.toNat)] ++ b16 (owner.getD 0) ++ [b8 code] ++ b16 c.cell
      ++ [0xFF, 0xFF, 0xFF, 0xFF] ++ c.content.toList ++ zeros 32
  | .path origin index p =>
    [b8 (1 + 2 * e.locked.toNat)] ++ b16 origin ++ [b8 index] ++ b16 p.thickCell ++ b16 p.lim1Cell ++ b16 p.lim2Cell
      ++ p.thick.toList ++ p.lim1.toList ++ p.lim2.toList

/-- A path buffer entry in 76 bytes (R192). -/
def bufferBytes (e : BufferEntry) : List Byte :=
  b16 e.origin ++ [b8 e.code, b8 e.index] ++ b16 e.species.cell ++ b16 e.path.thickCell ++ b16 e.path.lim1Cell
    ++ b16 e.path.lim2Cell ++ e.species.content.toList ++ e.path.thick.toList ++ e.path.lim1.toList ++ e.path.lim2.toList

/-- The answer body of PROBE PATH (R192). -/
def probeBytes (r : ProbeReport) : List Byte :=
  [b8 (faultCode r.fault), b8 r.speciesSource.code] ++ optWord r.speciesCell ++ [optByte r.index, b8 r.pathSource.code]
    ++ optWord r.thickCell ++ optWord r.limitOrigin ++ [b8 r.accesses]

/-- The answer body of LOCK PATHS (R192). -/
def lockBytes (rs : List LockResult) : List Byte := b8 rs.length :: rs.map fun r => b8 r.code

/-! ## Answer statuses and frames (R178, R185) -/

/-- The answer statuses (R178). -/
inductive Status where
  | ok | accepted | overrun | mismatch | empty | busy | badRequest | badValue | wrongState | inUse | notOwner
  | queueFull | wrongLevel
  deriving DecidableEq, Repr

def Status.code : Status → Byte
  | .ok => 0x00
  | .accepted => 0x01
  | .overrun => 0x02
  | .mismatch => 0x03
  | .empty => 0x04
  | .busy => 0x10
  | .badRequest => 0x11
  | .badValue => 0x12
  | .wrongState => 0x13
  | .inUse => 0x14
  | .notOwner => 0x15
  | .queueFull => 0x16
  | .wrongLevel => 0x17

/-- The CRC word's two bytes, high byte first (R175). -/
def crcBytes (w : BitVec 16) : List Byte := [w.extractLsb' 8 8, w.extractLsb' 0 8]

/-- An answer frame: lead, length, code, tag, status, body, CRC over length to body (R178, R185). -/
def answerFrame (code tag : Byte) (st : Status) (body : List Byte) : List Byte :=
  let covered := b8 body.length :: code :: tag :: st.code :: body
  0xA5 :: covered ++ crcBytes (crcWord covered)

end Sys2Proof.Machine
end

