-- ==== Sys2Proof/Machine/Flags.lean ====
section
/-!
DEFINITION. The notice flags and their numbers (R179, R190), a port's NOTICE line (R181), and the sheet flags a grading
adds (section 2.4).
-/

namespace Sys2Proof.Machine

/-- The notices of R179. -/
inductive Notice where
  | intakeOverrun | laneDesync | recordExpired | unmeasuredSheet | gradeLate | ruleFault | trackOverflow
  | dropAbandoned | missedLanding | stackFull | stackEmpty | stackFault | encoderStall | estop
  | panelReady (line : Line) | panelDropped (line : Line) | lineStopped (line : Line) | lineStarved (line : Line)
  | drawDone (line : Line) | feederFault (line : Line)
  deriving DecidableEq, Repr

/-- A notice of a line: flag `n` for line A, `n + 6` for line B (R190). -/
def ofLine (n : Nat) : Line → Nat
  | .a => n
  | .b => n + 6

/-- The flag numbers of R190. -/
def Notice.number : Notice → Nat
  | .intakeOverrun => 0
  | .laneDesync => 1
  | .recordExpired => 2
  | .unmeasuredSheet => 3
  | .gradeLate => 4
  | .ruleFault => 5
  | .trackOverflow => 6
  | .dropAbandoned => 7
  | .missedLanding => 8
  | .stackFull => 9
  | .stackEmpty => 10
  | .stackFault => 11
  | .encoderStall => 12
  | .estop => 13
  | .panelReady l => ofLine 14 l
  | .panelDropped l => ofLine 15 l
  | .lineStopped l => ofLine 16 l
  | .lineStarved l => ofLine 17 l
  | .drawDone l => ofLine 18 l
  | .feederFault l => ofLine 19 l

/-- The word with only the notice's flag set. -/
def Notice.bit (n : Notice) : BitVec 32 := 1#32 <<< n.number

/-- Flags 0 to 25 name notices; 26 to 31 name none (R179). -/
def namedFlags : BitVec 32 := 0x03FFFFFF#32

/-- The NOTICE output: asserted exactly when set and mask share a set flag (R181). -/
def PortState.noticeLine (p : PortState) : Bool := p.notices &&& p.mask != 0

/-- The set left by an ACK NOTICES: each named flag cleared, ESTOP only while E-STOP is not in force (R180). -/
def acknowledged (set mask : BitVec 32) (estop : Bool) : BitVec 32 :=
  let clearing := if estop then mask &&& ~~~(Notice.estop.bit) else mask
  set &&& ~~~clearing

/-- The flags a grading adds join the record's flags (R36). -/
def SheetFlags.adding (f : SheetFlags) (overdry noMoisture : Bool) : SheetFlags :=
  { f with overdry := f.overdry || overdry, noMoisture := f.noMoisture || noMoisture }

end Sys2Proof.Machine
end

