-- ==== Sys2Proof/Machine/Ops.lean ====
section
/-!
DEFINITION. The named operations every meaning is written over: the accessors of the state's repeated parts, table
memory (R42), raising a notice (R179), forming an answer (R178), and how a request is received, checked by its port and
answered (R176, R177). A block has no exception entry: a refused request is an answer, a fault of the mill is a notice
and state.
-/

namespace Sys2Proof.Machine

/-- What a command answers. -/
abbrev Result := Host.Outcome State Fault Refusal

/-! ## Accessors -/

def PerLane.get {α : Type} (p : PerLane α) : Lane → α
  | .lane1 => p.lane1
  | .lane2 => p.lane2

def PerLane.set {α : Type} (p : PerLane α) (l : Lane) (x : α) : PerLane α :=
  match l with
  | .lane1 => { p with lane1 := x }
  | .lane2 => { p with lane2 := x }

def PerLine.get {α : Type} (p : PerLine α) : Line → α
  | .a => p.a
  | .b => p.b

def PerLine.set {α : Type} (p : PerLine α) (l : Line) (x : α) : PerLine α :=
  match l with
  | .a => { p with a := x }
  | .b => { p with b := x }

def PerPort.get {α : Type} (p : PerPort α) : Port → α
  | .pg => p.pg
  | .pa => p.pa
  | .pb => p.pb

def PerPort.set {α : Type} (p : PerPort α) (q : Port) (x : α) : PerPort α :=
  match q with
  | .pg => { p with pg := x }
  | .pa => { p with pa := x }
  | .pb => { p with pb := x }

def PerSlot.get {α : Type} (p : PerSlot α) : Slot → α
  | .slot0 => p.slot0
  | .slot1 => p.slot1

def PerSlot.set {α : Type} (p : PerSlot α) (k : Slot) (x : α) : PerSlot α :=
  match k with
  | .slot0 => { p with slot0 := x }
  | .slot1 => { p with slot1 := x }

/-- The other line. -/
def otherLine : Line → Line
  | .a => .b
  | .b => .a

/-- The other root slot. -/
def otherSlot : Slot → Slot
  | .slot0 => .slot1
  | .slot1 => .slot0

/-- The port that owns a line: PA for A, PB for B (R177). -/
def ownPort : Line → Port
  | .a => .pa
  | .b => .pb

/-- S0 to S9 in order. -/
def allStacks : List StackId := [0, 1, 2, 3, 4, 5, 6, 7, 8, 9]

def State.lane (s : State) (l : Lane) : IntakeLane := s.intake.lanes.get l

def State.setLane (s : State) (l : Lane) (x : IntakeLane) : State :=
  { s with intake := { s.intake with lanes := s.intake.lanes.set l x } }

def State.setIntake (s : State) (x : Intake) : State := { s with intake := x }

def State.job (s : State) (u : Lane) : Option GradingJob := s.grading.get u

def State.setJob (s : State) (u : Lane) (x : Option GradingJob) : State :=
  { s with grading := s.grading.set u x }

def State.setTables (s : State) (x : Tables) : State := { s with tables := x }

def State.cache (s : State) (u : Lane) : RuleCache := s.caches.get u

def State.setCache (s : State) (u : Lane) (x : RuleCache) : State := { s with caches := s.caches.set u x }

def State.setTracking (s : State) (x : Tracking) : State := { s with tracking := x }

def State.setQueue (s : State) (q : List TrackEntry) : State :=
  s.setTracking { s.tracking with queue := q }

def State.setRouting (s : State) (x : Routing) : State := { s with routing := x }

def State.stack (s : State) (k : StackId) : Stack := s.sk.stack[k]

def State.setStack (s : State) (k : StackId) (x : Stack) : State :=
  { s with sk := { s.sk with stack := s.sk.stack.set k.val x k.isLt } }

def State.setSk (s : State) (x : Stacks) : State := { s with sk := x }

def State.line (s : State) (l : Line) : LineState := s.lines.line.get l

def State.setLine (s : State) (l : Line) (x : LineState) : State :=
  { s with lines := { s.lines with line := s.lines.line.set l x } }

def State.setLines (s : State) (x : Lines) : State := { s with lines := x }

def State.port (s : State) (p : Port) : PortState := s.ports.get p

def State.setPort (s : State) (p : Port) (x : PortState) : State := { s with ports := s.ports.set p x }

def State.setPins (s : State) (x : Pins) : State := { s with pins := x }

/-- E-STOP is in force: ESTOP_N is asserted and RESET_N is not held (R179, R183). -/
def State.estop (s : State) : Bool := s.pins.estop && !s.pins.resetHeld

/-- `f` applied `n` times. -/
def iterate {α : Type} (f : α → α) : Nat → α → α
  | 0, x => x
  | n + 1, x => iterate f n (f x)

/-- A counter of 1 to 65535 advanced by one (R4, R168). -/
def advanceCounter (n : Nat) : Nat := if n < Config.maxNumber then n + 1 else 1

/-! ## Table memory (R42) -/

/-- What an unlisted byte reads as: the reset content, zero (R42). -/
def Memory.default : Byte := 0

/-- The byte at an address. -/
def Memory.read : Memory → Nat → Byte
  | [], _ => Memory.default
  | (a, b) :: m, x => if a = x then b else Memory.read m x

/-- The memory with one byte written; the canonical form is kept. -/
def Memory.write : Memory → Nat → Byte → Memory
  | [], x, v => if v = Memory.default then [] else [(x, v)]
  | (a, b) :: m, x, v =>
    if x < a then (if v = Memory.default then (a, b) :: m else (x, v) :: (a, b) :: m)
    else if x = a then (if v = Memory.default then m else (a, v) :: m)
    else (a, b) :: Memory.write m x v

/-- The memory with consecutive bytes written from an address up. -/
def Memory.writeBytes (m : Memory) (x : Nat) : List Byte → Memory
  | [] => m
  | v :: vs => Memory.writeBytes (Memory.write m x v) (x + 1) vs

/-- Every address is above `lo` and they rise strictly; no byte is the default (helper of `Memory.wf`). -/
def Memory.risesFrom : Nat → Memory → Bool
  | _, [] => true
  | lo, (a, b) :: m => decide (lo ≤ a) && b != Memory.default && Memory.risesFrom (a + 1) m

/-- The canonical form: addresses strictly rising, within the 2048 cells of R42, no byte equal to the default. -/
def Memory.wf (m : Memory) : Bool :=
  Memory.risesFrom 0 m && m.all fun e => decide (e.1 < Config.cellCount * Config.cellBytes)

/-- A cell read whole (R42). -/
def Memory.cell (m : Memory) (n : Nat) : Cell16 :=
  let f := fun k => Memory.read m (Config.cellBytes * n + k)
  #v[f 0, f 1, f 2, f 3, f 4, f 5, f 6, f 7, f 8, f 9, f 10, f 11, f 12, f 13, f 14, f 15]

/-- A cell written whole (R42). -/
def Memory.setCell (m : Memory) (n : Nat) (x : Cell16) : Memory :=
  Memory.writeBytes m (Config.cellBytes * n) x.toList

/-! ## Notices and answers -/

/-- A notice raised: its flag set in all three notice sets in one event (R179). -/
def State.raise (s : State) (n : Notice) : State :=
  { s with ports :=
    { pg := { s.ports.pg with notices := s.ports.pg.notices ||| n.bit },
      pa := { s.ports.pa with notices := s.ports.pa.notices ||| n.bit },
      pb := { s.ports.pb with notices := s.ports.pb.notices ||| n.bit } } }

/-- A notice raised if a condition holds. -/
def State.raiseIf (s : State) (cond : Bool) (n : Notice) : State := if cond then s.raise n else s

/-- A frame handed to the transmitter: sent, or waiting while another is sent, or discarded at 8 waiting (R178). -/
def PortState.send (p : PortState) (frame : List Byte) : PortState :=
  match p.sending with
  | none => { p with sending := some frame }
  | some _ => if p.waiting.length < Config.txRoom then { p with waiting := p.waiting ++ [frame] } else p

/-- An answer formed on a port (R178). -/
def State.answer (s : State) (p : Port) (code tag : Byte) (st : Status) (body : List Byte) : State :=
  s.setPort p ((s.port p).send (answerFrame code tag st body))

/-- A complete frame leaves the receiver HUNTING with the next byte (R174). -/
def State.hunt (s : State) (p : Port) : State :=
  s.setPort p { s.port p with receiver := .hunting }

/-! ## Requests (R176, R177) -/

/-- What a block makes of a request it takes or refuses: the state after, the answer's status and body. -/
structure Reply where
  st     : State
  status : Status
  body   : List Byte

/-- A request refused: nothing changes, no body (R178). -/
def refuse (s : State) (st : Status) : Reply := { st := s, status := st, body := [] }

/-- A request answered OK. -/
def okReply (s : State) (body : List Byte) : Reply := { st := s, status := .ok, body := body }

/-- Whether the port's check 3 refuses a line request NOT_OWNER (R177): the body carries a line field that names A or
B, and the port is not that line's own. -/
def notOwner (p : Port) (body : List Byte) : Bool :=
  match body with
  | [] => false
  | b :: _ =>
    match lineOf b.toNat with
    | none => false
    | some l => ownPort l != p

/-- A frame received on port `p` that carries a request answered in the event that takes it (R176, R177). While
RESET_N is held its bytes are discarded (R183). -/
def serve (code : Byte) (p : Port) (tag : Byte) (block : State → Reply) (s : State) : Result :=
  if s.pins.resetHeld then .next s
  else
    let t := s.hunt p
    if (t.port p).pending.isSome then .next (t.answer p code tag .busy [])
    else
      let r := block t
      .next (r.st.answer p code tag r.status r.body)

/-- The same for a line request, with the port's check of the owner (R177). -/
def serveLine (code : Byte) (p : Port) (tag : Byte) (body : List Byte) (block : State → Reply) (s : State) : Result :=
  serve code p tag (fun t => if notOwner p body then refuse t .notOwner else block t) s

/-- An event of the field, of a timer or of a block; nothing is taken while RESET_N is held. -/
def event (f : State → State) (s : State) : Result :=
  .next (if s.pins.resetHeld then s else f s)

end Sys2Proof.Machine
end

