-- ==== Sys2Proof/Machine/Rules.lean ====
section
/-!
DEFINITION. Walks of the rule tables (R52, R53), the thickness class of stage 2 (R27), and the rule caches: lookups,
formation, replacement, locks, modes and purges (R64 to R81).
-/

namespace Sys2Proof.Machine

/-! ## Walks (R52, R53) -/

/-- The cell whose read a walk waits for. -/
def Walk.next : Walk → Nat
  | .species c => c
  | .thickness c => c
  | .limits1 _ _ c => c
  | .limits2 _ _ _ _ c => c

/-- A species walk begun: the checks made before its access (R52, 1 to 3). -/
def beginSpecies (d : Option Descriptor) (code : Nat) : Except RuleFault Walk :=
  match d with
  | none => .error .noRoot
  | some d =>
    if ¬ code < d.count then .error .speciesRange
    else if ¬ d.origin + code ≤ 2047 then .error .address
    else .ok (.species (d.origin + code))

/-- A path walk begun: the check made before its first access (R53, 1). -/
def beginPath (content : Cell16) (k : Nat) : Except RuleFault Walk :=
  if ¬ content.thickOrigin + k ≤ 2047 then .error .address
  else .ok (.thickness (content.thickOrigin + k))

/-- What a read makes of a walk. -/
inductive WalkEnd where
  | more (w : Walk)
  | species (c : SpeciesCopy)
  | path (p : PathCopy)
  | fault (f : RuleFault)
  deriving DecidableEq, Repr

/-- A walk whose waiting read has been granted and read `x` (R52, 4 and 5; R53, 2 to 6). -/
def Walk.feed (w : Walk) (x : Cell16) : WalkEnd :=
  match w with
  | .species c =>
    if ¬ x.isSpecies then .fault .format
    else if ¬ x.valid then .fault .speciesInvalid
    else .species { cell := c, content := x }
  | .thickness c =>
    if ¬ x.isThickness then .fault .format
    else if ¬ x.valid then .fault .thicknessInvalid
    else if ¬ x.limitOrigin + 1 ≤ 2047 then .fault .address
    else .more (.limits1 c x x.limitOrigin)
  | .limits1 tc t c =>
    if ¬ x.isLimits1 then .fault .format
    else .more (.limits2 tc t c x (c + 1))
  | .limits2 tc t lc l1 c =>
    if ¬ x.isLimits2 then .fault .format
    else .path { thickCell := tc, lim1Cell := lc, lim2Cell := c, thick := t, lim1 := l1, lim2 := x }

/-- The class count and class step are such that classes exist (R27 test 2, R77). -/
def classesExist (content : Cell16) : Bool :=
  1 ≤ content.classCount && content.classCount ≤ 8 && content.classStep != 0

/-- The thickness class of a record's thickness under a species content (R27). -/
def thicknessClass (thickness : Option Nat) (content : Cell16) : Except RuleFault Nat :=
  match thickness with
  | none => .error .noThickness
  | some t =>
    if ¬ classesExist content then .error .format
    else if t < content.classBase then .error .thicknessRange
    else if ¬ (t - content.classBase) / content.classStep < content.classCount then .error .thicknessRange
    else .ok ((t - content.classBase) / content.classStep)

/-! ## Tags and lookups (R64 to R66, R73) -/

/-- The tag of a cache entry (R63). -/
def CacheBody.tag : CacheBody → EntryTag
  | .species none code _ => .shared code
  | .species (some o) code _ => .species o code
  | .path o k _ => .path o k

/-- The cells a cache entry was copied from (R63). -/
def CacheBody.sources : CacheBody → List Nat
  | .species _ _ c => [c.cell]
  | .path _ _ p => [p.thickCell, p.lim1Cell, p.lim2Cell]

/-- The cells a path buffer entry was copied from (R73). -/
def BufferEntry.sources (e : BufferEntry) : List Nat :=
  [e.species.cell, e.path.thickCell, e.path.lim1Cell, e.path.lim2Cell]

/-- The species entry a walk forms, tagged by the shared and isolated indications (R64). -/
def speciesBody (d : Descriptor) (code : Nat) (c : SpeciesCopy) : CacheBody :=
  .species (if c.content.shared && !d.isolated then none else some d.origin) code c

/-- The path entry a walk forms: tagged with the thickness table origin it began from and the class (R63). -/
def pathBody (content : Cell16) (k : Nat) (p : PathCopy) : CacheBody := .path content.thickOrigin k p

/-- The species copy of the entry of a tag, if one is present. -/
def findSpecies (es : List CacheEntry) (owner : Option Nat) (code : Nat) : Option SpeciesCopy :=
  es.findSome? fun e =>
    match e.body with
    | .species o c copy => if o = owner ∧ c = code then some copy else none
    | .path _ _ _ => none

/-- The path copy of the entry of a tag, if one is present. -/
def findPath (es : List CacheEntry) (origin k : Nat) : Option PathCopy :=
  es.findSome? fun e =>
    match e.body with
    | .species _ _ _ => none
    | .path o i copy => if o = origin ∧ i = k then some copy else none

/-- A lookup of the species level (R65; R73 in OFF, where the newer buffer entry is hit first). -/
def RuleCache.lookupSpecies (x : RuleCache) (d : Descriptor) (code : Nat) : Option SpeciesCopy :=
  if ¬ code < d.count then none
  else match x.mode with
    | .off => (x.buffer.reverse.find? fun e => e.origin == d.origin && e.code == code).map (·.species)
    | _ =>
      match findSpecies x.entries (some d.origin) code with
      | some c => some c
      | none => if d.isolated then none else findSpecies x.entries none code

/-- A lookup of the path level (R66; R73 in OFF). -/
def RuleCache.lookupPath (x : RuleCache) (d : Descriptor) (code : Nat) (content : Cell16) (k : Nat) : Option PathCopy :=
  match x.mode with
  | .off => (x.buffer.find? fun e => e.origin == d.origin && e.code == code && e.index == k).map (·.path)
  | _ => findPath x.entries content.thickOrigin k

/-! ## Forming entries (R67 to R69, R74, R76) -/

/-- The list without its first entry that satisfies `p`. -/
def dropFirst {α : Type} (p : α → Bool) : List α → List α
  | [] => []
  | x :: xs => if p x then xs else x :: dropFirst p xs

def RuleCache.has (x : RuleCache) (t : EntryTag) : Bool := x.entries.any fun e => decide (e.body.tag = t)

def RuleCache.hasLocked (x : RuleCache) (t : EntryTag) : Bool :=
  x.entries.any fun e => e.locked && decide (e.body.tag = t)

def RuleCache.lockedCount (x : RuleCache) : Nat := x.entries.countP (·.locked)

def RuleCache.unlockedCount (x : RuleCache) : Nat := x.entries.countP (!·.locked)

/-- The room for unlocked entries (R69). -/
def RuleCache.room (x : RuleCache) : Nat :=
  match x.mode with
  | .split => Config.splitRoom
  | _ => Config.cacheRoom

/-- An unlocked entry formed by a grading's walk: kept out by an entry of its tag (R68), into a full room after the
earliest-formed unlocked entry is removed (R69); nothing in OFF (R67). -/
def RuleCache.form (x : RuleCache) (b : CacheBody) : RuleCache :=
  match x.mode with
  | .off => x
  | _ =>
    if x.has b.tag then x
    else
      let es := if x.unlockedCount < x.room then x.entries else dropFirst (!·.locked) x.entries
      { x with entries := es ++ [{ body := b, locked := false }] }

/-- A path buffer entry formed; the older of two is removed to make space (R74). -/
def RuleCache.formBuffer (x : RuleCache) (e : BufferEntry) : RuleCache :=
  let es := if x.buffer.length < Config.bufferRoom then x.buffer else x.buffer.drop 1
  { x with buffer := es ++ [e] }

/-- What the end of a LOCK PATHS walk does to the cache, by the rows of R76. Once SPLIT has been left it forms nothing
(R78); that it removes nothing either, not even an unlocked entry of the tag, is the model's choice (assumption 31). -/
def RuleCache.lockEntry (x : RuleCache) (b : CacheBody) : RuleCache :=
  match x.mode with
  | .split =>
    if x.hasLocked b.tag then x
    else
      let es := x.entries.filter fun e => decide (e.body.tag ≠ b.tag)
      if x.lockedCount < Config.splitRoom then { x with entries := es ++ [{ body := b, locked := true }] }
      else { x with entries := es }
  | _ => x

/-! ## Modes and purges (R71, R79, R80) -/

/-- A change of mode (R71). -/
def RuleCache.setMode (x : RuleCache) (m : CacheMode) : RuleCache :=
  match x.mode, m with
  | .normal, .normal => x
  | .off, .off => x
  | .split, .split => x
  | .normal, .off => { mode := .off, entries := [], buffer := [] }
  | .split, .off => { mode := .off, entries := [], buffer := [] }
  | .split, .normal => { x with mode := .normal, entries := x.entries.map fun e => { e with locked := false } }
  | .normal, .split =>
    { x with mode := .split, entries := iterate (dropFirst (!·.locked)) (x.unlockedCount - Config.splitRoom) x.entries }
  | .off, .normal => { mode := .normal, entries := [], buffer := [] }
  | .off, .split => { mode := .split, entries := [], buffer := [] }

/-- The entries a PURGE CACHE leaves (R79). -/
def RuleCache.purged (x : RuleCache) (keepLocked : Bool) : RuleCache :=
  { x with entries := x.entries.filter fun e => keepLocked && e.locked, buffer := [] }

/-- The purge by an edited cell: every entry and buffer entry copied from it, locked ones too (R80). -/
def RuleCache.purgedOf (x : RuleCache) (n : Nat) : RuleCache :=
  { x with entries := x.entries.filter fun e => !e.body.sources.contains n,
           buffer := x.buffer.filter fun e => !e.sources.contains n }

/-- Whether a scope names a unit's cache. -/
def Scope.names : Scope → Lane → Bool
  | .gu1, .lane1 => true
  | .gu1, .lane2 => false
  | .gu2, .lane1 => false
  | .gu2, .lane2 => true
  | .both, _ => true

/-- `f` applied to the caches a scope names. -/
def State.onCaches (s : State) (scope : Scope) (f : RuleCache → RuleCache) : State :=
  { s with caches :=
    { lane1 := if scope.names .lane1 then f s.caches.lane1 else s.caches.lane1,
      lane2 := if scope.names .lane2 then f s.caches.lane2 else s.caches.lane2 } }

end Sys2Proof.Machine
end

