-- ==== Sys2Proof/Machine/Grading.lean ====
section
/-!
DEFINITION. The grading units: the computation of a result (R29 to R35), the worklist and the begin of a grading (R23,
R24), its stages (R26 to R28), delivery (R36), abandonment (R37), the slots in use (R39), and the access of a walk that
the arbiter grants a unit (R50, GU_WALK_READ).
-/

namespace Sys2Proof.Machine

/-! ## The computation (R29 to R35) -/

/-- The result of a grading (R35). -/
structure GradeResult where
  cls        : SheetClass
  status     : GradingStatus
  fault      : Option RuleFault
  overdry    : Bool
  noMoisture : Bool
  thickClass : Option Nat
  deriving DecidableEq, Repr

/-- A grading ended by a rule fault (R29). -/
def faultResult (f : RuleFault) (k : Option Nat) : GradeResult :=
  { cls := .regrade, status := .faulted, fault := some f, overdry := false, noMoisture := false, thickClass := k }

/-- Kinds 1 OPEN KNOT, 2 SPLIT and 3 HOLE are open (R31). -/
def Defect.isOpen (d : Defect) : Bool := d.kind == 1 || d.kind == 2 || d.kind == 3

/-- A defect's score: size times weight, halved with the half dropped in the EDGE zone (R31). -/
def Defect.score (lim1 : Cell16) (d : Defect) : Nat :=
  match d.zone with
  | .field => d.size * lim1.weight d.kind
  | .edge => d.size * lim1.weight d.kind / 2

/-- S, the defect score of the sheet, held at 65535 (R31). -/
def defectScore (lim1 : Cell16) (ds : List Defect) : Nat :=
  min ((ds.map (Defect.score lim1)).sum) Config.maxNumber

/-- O, the open count (R31). -/
def openCount (ds : List Defect) : Nat := ds.countP Defect.isOpen

/-- Lopen, the largest size among the open defects (R31). -/
def openSize (ds : List Defect) : Nat := ((ds.filter Defect.isOpen).map (·.size)).foldl max 0

/-- D, the defect density over the area, held at 65535 (R32). -/
def defectDensity (score area : Nat) : Nat := min (score * 1000000 / area) Config.maxNumber

/-- A grade's limits admit the three figures (R33). -/
def GradeLimits.admits (g : GradeLimits) (density count size : Nat) : Bool :=
  density ≤ g.density && count ≤ g.openCount && size ≤ g.openSize

/-- The smallest grade whose limits admit the figures, counting from `first`; one past the last if none does (R33). -/
def firstGrade (density count size : Nat) : Nat → List GradeLimits → Nat
  | first, [] => first
  | first, g :: gs => if g.admits density count size then first else firstGrade density count size (first + 1) gs

/-- The grade 1 to 6 before adjustment (stages 5 to 7, R31 to R33). -/
def computedGrade (r : SheetRecord) (p : PathCopy) : Nat :=
  let score := defectScore p.lim1 r.defects
  let density := defectDensity score (r.width.getD 0 * r.length.getD 0)
  firstGrade density (openCount r.defects) (openSize r.defects) 1 (gradeLimits p.lim1 p.lim2)

/-- Stage 8: the adjustments in their order (R34). -/
def adjustedGrade (g : Nat) (overdry omitted noMoisture : Bool) : Nat :=
  let g := if overdry then min (g + 1) 6 else g
  let g := if omitted then max g 4 else g
  if noMoisture then max g 3 else g

/-- The class of a grade (R34). -/
def gradeClass : Nat → SheetClass
  | 0 => .g1
  | 1 => .g1
  | 2 => .g2
  | 3 => .g3
  | 4 => .g4
  | 5 => .g5
  | _ => .g6

/-- What a record with a path copy is graded: the defect code check and stages 4 to 8 (R29 to R35). -/
def computeResult (r : SheetRecord) (k : Nat) (p : PathCopy) : GradeResult :=
  if r.flags.badDefect then
    { cls := .regrade, status := .faulted, fault := none, overdry := false, noMoisture := false, thickClass := some k }
  else
    let wet := match r.moisture with
      | none => false
      | some m => decide (p.thick.redry < m)
    let overdry := match r.moisture with
      | none => false
      | some m => decide (m < p.thick.overdry)
    if wet then
      { cls := .redry, status := .graded, fault := none, overdry := false, noMoisture := false, thickClass := some k }
    else
      let g := adjustedGrade (computedGrade r p) overdry r.flags.defectsOmitted r.moisture.isNone
      { cls := gradeClass g, status := .graded, fault := none, overdry := overdry, noMoisture := r.moisture.isNone,
        thickClass := some k }

/-- The record with a result stored (R36). -/
def SheetRecord.withResult (r : SheetRecord) (g : GradeResult) : SheetRecord :=
  { r with cls := some g.cls, status := g.status, fault := g.fault, flags := r.flags.adding g.overdry g.noMoisture,
           thickClass := g.thickClass }

/-! ## Stages (R26 to R28) -/

/-- Where the stages come to without another access: a walk to wait for, or the result. -/
inductive GradeNext where
  | wait (species : Option SpeciesCopy) (k : Option Nat) (w : Walk)
  | done (g : GradeResult)
  deriving DecidableEq, Repr

/-- Stage 3 (R28). -/
def stage3 (x : RuleCache) (d : Descriptor) (r : SheetRecord) (c : SpeciesCopy) (k : Nat) : GradeNext :=
  match x.lookupPath d (r.species.getD 0) c.content k with
  | some p => .done (computeResult r k p)
  | none =>
    match beginPath c.content k with
    | .error f => .done (faultResult f (some k))
    | .ok w => .wait (some c) (some k) w

/-- Stage 2 and on (R27). -/
def stage2 (x : RuleCache) (d : Descriptor) (r : SheetRecord) (c : SpeciesCopy) : GradeNext :=
  match thicknessClass r.thickness c.content with
  | .error f => .done (faultResult f none)
  | .ok k => stage3 x d r c k

/-- Stage 1 and on (R26). -/
def stage1 (x : RuleCache) (d : Descriptor) (r : SheetRecord) : GradeNext :=
  match x.lookupSpecies d (r.species.getD 0) with
  | some c => stage2 x d r c
  | none =>
    match beginSpecies (some d) (r.species.getD 0) with
    | .error f => .done (faultResult f none)
    | .ok w => .wait none none w

/-! ## The worklist and the course of a grading (R23 to R25, R36) -/

/-- The list with `f` applied to its first element that satisfies `p`. -/
def updateFirst {α : Type} (p : α → Bool) (f : α → α) : List α → List α
  | [] => []
  | x :: xs => if p x then f x :: xs else x :: updateFirst p f xs

/-- A tracking entry on the worklist of unit `u`: WAITING and PENDING (R23). -/
def TrackEntry.onWorklist (u : Lane) (e : TrackEntry) : Bool :=
  decide (e.sheet.lane = u) && decide (e.sheet.status = .waiting) && e.sheet.cls.isNone

/-- An intake record on the worklist: WAITING (R23). -/
def IntakeEntry.onWorklist (e : IntakeEntry) : Bool := decide (e.sheet.status = .waiting)

/-- How many records stand on the worklist of unit `u`. -/
def worklistLength (u : Lane) (s : State) : Nat :=
  s.tracking.queue.countP (TrackEntry.onWorklist u) + (s.lane u).queue.countP IntakeEntry.onWorklist

/-- The oldest record on the worklist, and the state with its status GRADING (R23, R24): WAITING records in tracking
stand before those in intake. -/
def takeOldest (u : Lane) (s : State) : Option (SheetRecord × State) :=
  match s.tracking.queue.find? (TrackEntry.onWorklist u) with
  | some e =>
    some (e.sheet, s.setQueue (updateFirst (TrackEntry.onWorklist u)
      (fun e => { e with sheet := { e.sheet with status := .grading } }) s.tracking.queue))
  | none =>
    match (s.lane u).queue.find? IntakeEntry.onWorklist with
    | some e =>
      some (e.sheet, s.setLane u { s.lane u with
        queue := updateFirst IntakeEntry.onWorklist
          (fun e => { e with sheet := { e.sheet with status := .grading } }) (s.lane u).queue })
    | none => none

/-- The record in grading, numbered `n`, while it lies in its intake queue. -/
def IntakeEntry.inGrading (n : Nat) (e : IntakeEntry) : Bool :=
  decide (e.sheet.number = n) && decide (e.sheet.status = .grading)

/-- The record in grading, numbered `n`, while it lies in tracking PENDING. -/
def TrackEntry.inGrading (u : Lane) (n : Nat) (e : TrackEntry) : Bool :=
  decide (e.sheet.lane = u) && decide (e.sheet.number = n) && decide (e.sheet.status = .grading) && e.sheet.cls.isNone

/-- The record in grading, if it can still take a result (R36, R37). -/
def recordInGrading (u : Lane) (n : Nat) (s : State) : Option SheetRecord :=
  match (s.lane u).queue.find? (IntakeEntry.inGrading n) with
  | some e => some e.sheet
  | none => (s.tracking.queue.find? (TrackEntry.inGrading u n)).map (·.sheet)

/-- A result delivered where its record stands, or discarded; a delivered FAULTED result raises RULE_FAULT (R36). -/
def deliver (u : Lane) (n : Nat) (g : GradeResult) (s : State) : State :=
  if (s.lane u).queue.any (IntakeEntry.inGrading n) then
    (s.setLane u { s.lane u with
      queue := updateFirst (IntakeEntry.inGrading n) (fun e => { e with sheet := e.sheet.withResult g })
        (s.lane u).queue }).raiseIf (decide (g.status = .faulted)) .ruleFault
  else if s.tracking.queue.any (TrackEntry.inGrading u n) then
    (s.setQueue (updateFirst (TrackEntry.inGrading u n) (fun e => { e with sheet := e.sheet.withResult g })
      s.tracking.queue)).raiseIf (decide (g.status = .faulted)) .ruleFault
  else s

/-- What the stages give a unit that begins a record under the descriptor of its stamped slot (R24, R26). -/
def beginStages (u : Lane) (r : SheetRecord) (s : State) : Descriptor × GradeNext :=
  match s.tables.roots.get r.slot with
  | none => (⟨0, 0, false⟩, .done (faultResult .noRoot none))
  | some d => (d, stage1 (s.cache u) d r)

/-- An idle unit begins the oldest record on its worklist, and goes on to the next as long as gradings complete
without an access (R24, R25). `fuel` is the length of the worklist, which each round shortens. -/
def gradeOn (u : Lane) : Nat → State → State
  | 0, s => s
  | fuel + 1, s =>
    match s.job u with
    | some _ => s
    | none =>
      match takeOldest u s with
      | none => s
      | some (r, t) =>
        match beginStages u r t with
        | (d, .wait c k w) =>
          t.setJob u (some { number := r.number, round := r.round, code := r.species.getD 0, slotHeld := some r.slot,
                             descriptor := d, species := c, thickClass := k, walk := w, abandoned := false })
        | (_, .done g) => gradeOn u fuel (deliver u r.number g t)

/-- A unit that may begin does so (R24). -/
def gradeNext (u : Lane) (s : State) : State := gradeOn u (worklistLength u s) s

/-- The unit returns to IDLE and begins the next record (R36, R37). -/
def finishGrading (u : Lane) (s : State) : State := gradeNext u (s.setJob u none)

/-- The stages went on: wait for the walk, or complete (R25). -/
def advance (u : Lane) (j : GradingJob) (next : GradeNext) (s : State) : State :=
  match next with
  | .wait c k w => s.setJob u (some { j with species := c, thickClass := k, walk := w })
  | .done g => finishGrading u (deliver u j.number g s)

/-- What a path walk's end forms: an entry, or in OFF a path buffer entry of the unit's own copies (R67, R72, R74). -/
def formPath (j : GradingJob) (p : PathCopy) (x : RuleCache) : RuleCache :=
  match j.species, j.thickClass with
  | some c, some k =>
    match x.mode with
    | .off => x.formBuffer { origin := j.descriptor.origin, code := j.code, index := k, species := c, path := p }
    | _ => x.form (pathBody c.content k p)
  | _, _ => x

/-- The unit's waiting read has been granted and read `x` (R25, R37, R52 to R54, R67). -/
def unitRead (u : Lane) (j : GradingJob) (x : Cell16) (s : State) : State :=
  match j.walk.feed x with
  | .more w => s.setJob u (some { j with walk := w })
  | .fault f =>
    if j.abandoned then finishGrading u s else advance u j (.done (faultResult f j.thickClass)) s
  | .species c =>
    let t := s.setCache u ((s.cache u).form (speciesBody j.descriptor j.code c))
    if j.abandoned then finishGrading u t
    else match recordInGrading u j.number t with
      | none => finishGrading u t
      | some r => advance u j (stage2 (t.cache u) j.descriptor r c) t
  | .path p =>
    let t := s.setCache u (formPath j p (s.cache u))
    if j.abandoned then finishGrading u t
    else match recordInGrading u j.number t with
      | none => finishGrading u t
      | some r => advance u j (.done (computeResult r (j.thickClass.getD 0) p)) t

/-! ## Abandonment and slots in use (R37, R39) -/

/-- Record `r` is the one that job `j` was begun for: of its number, and of the same round of the sheet counter, since a
number is given again after 65535 (R4, assumption 21). -/
def GradingJob.isFor (j : GradingJob) (r : SheetRecord) : Bool := decide (j.number = r.number) && decide (j.round = r.round)

/-- Record `r` can no longer take a result: if it is the record in grading, or that of an abandoned grading still in
flight, its grading is abandoned. A discarded record gives up its slot now; one whose class was fixed at its decision
point when the resolution in flight ends (R37, R39, assumption 12). -/
def State.abandon (s : State) (r : SheetRecord) (discarded : Bool) : State :=
  match s.job r.lane with
  | none => s
  | some j =>
    if j.isFor r = true ∧ r.status = .grading ∧ (r.cls = none ∨ j.abandoned = true) then
      s.setJob r.lane (some { j with abandoned := true, slotHeld := if discarded then none else j.slotHeld })
    else s

/-- The gradings as the records of a list are discarded or leave the part: those of them still in flight are abandoned and
hold no slot (R37, R39). Nothing else of the state changes. -/
def State.abandonAll (s : State) (rs : List SheetRecord) : State :=
  rs.foldl (fun s r => s.abandon r true) s

/-- A WAITING record that can still be graded holds its slot in use (R39). -/
def SheetRecord.holdsUngraded (k : Slot) (r : SheetRecord) : Bool :=
  decide (r.slot = k) && decide (r.status = .waiting) && r.cls.isNone

/-- A root slot is in use (R39). -/
def slotInUse (k : Slot) (s : State) : Bool :=
  s.intake.lanes.lane1.queue.any (fun e => e.sheet.holdsUngraded k)
    || s.intake.lanes.lane2.queue.any (fun e => e.sheet.holdsUngraded k)
    || s.tracking.queue.any (fun e => e.sheet.holdsUngraded k)
    || decide (s.grading.lane1.bind (·.slotHeld) = some k)
    || decide (s.grading.lane2.bind (·.slotHeld) = some k)

/-! ## The arbiter (R50) -/

/-- The cycle GU1, GU2, PORT from after the last grant. -/
def cycleAfter : Requester → List Requester
  | .gu1 => [.gu2, .port, .gu1]
  | .gu2 => [.port, .gu1, .gu2]
  | .port => [.gu1, .gu2, .port]

/-- Whether a requester has an access waiting: a unit while its walk is in flight, the port path while its queue holds
a request. -/
def isWaiting (s : State) : Requester → Bool
  | .gu1 => s.grading.lane1.isSome
  | .gu2 => s.grading.lane2.isSome
  | .port => !s.tables.portPath.isEmpty

/-- The requester the arbiter grants next. -/
def arbiterNext (s : State) : Option Requester := (cycleAfter s.tables.lastGrant).find? (isWaiting s)

/-- A unit as a requester. -/
def unitRequester : Lane → Requester
  | .lane1 => .gu1
  | .lane2 => .gu2

/-- The last grant recorded. -/
def State.granted (s : State) (r : Requester) : State := s.setTables { s.tables with lastGrant := r }

/-- The access of a cell at its grant: the cell as it stands; a cell number R42 does not give is a fault
(assumption 19). -/
def accessCell (s : State) (n : Nat) : Except Fault Cell16 :=
  if n < Config.cellCount then .ok (s.tables.mem.cell n) else .error (.noSuchCell n)

/-- GU_WALK_READ: if the arbiter's next grant is this unit's, its walk's read is made (R50, R53). -/
def execGuWalkRead (u : Lane) (s : State) : Result :=
  if s.pins.resetHeld ∨ arbiterNext s ≠ some (unitRequester u) then .next s
  else match s.job u with
    | none => .next s
    | some j =>
      match accessCell s j.walk.next with
      | .error f => .fault f
      | .ok x => .next (unitRead u j x (s.granted (unitRequester u)))

end Sys2Proof.Machine
end

