-- ==== Sys2Proof/Machine/Draws.lean ====
section
/-!
DEFINITION. What drops, picks, draws and lines share: panel closes (R168, R169), entering OFF (R141), the ends of a step
(R143, R146, R152), selection of a stack (R158), the stack top's answers (R125, R131, R132), and how one event at the
stacks is settled: DRAIN closes, grant checks, then the selections it calls for (R118, R125, R159, R160).
-/

namespace Sys2Proof.Machine

/-! ## Panel closes (R168, R169) -/

/-- The panel record a close forms from the open panel (R168). -/
def closingRecord (x : LineState) (l : Line) (status : PanelStatus) : PanelRecord :=
  { number := x.panelCounter, line := l, status := status, plies := x.openPanel }

/-- The line after a close whose record joins the queue (R169). -/
def LineState.panelQueued (x : LineState) (l : Line) (status : PanelStatus) : LineState :=
  { x with openPanel := [], panelCounter := advanceCounter x.panelCounter,
           panelQueue := x.panelQueue ++ [closingRecord x l status] }

/-- The line after a close whose record is discarded at a full queue (R169). -/
def LineState.panelDropped (x : LineState) : LineState :=
  { x with openPanel := [], panelCounter := advanceCounter x.panelCounter }

/-- A close of the open panel (R169): nothing is formed from no plies; with a place the record joins the queue and
PANEL_READY is raised if `ready`; with none it is dropped with PANEL_DROPPED (only an ABANDONED close meets that), and the
records of its plies are discarded (R39). -/
def closePanelRecord (l : Line) (status : PanelStatus) (ready : Bool) (s : State) : State :=
  let x := s.line l
  if x.openPanel.isEmpty then s
  else if x.panelQueue.length < Config.panelQueueRoom then
    (s.setLine l (x.panelQueued l status)).raiseIf ready (.panelReady l)
  else ((s.abandonAll (x.openPanel.map (·.sheet))).setLine l x.panelDropped).raise (.panelDropped l)

/-- A line's own fields on entering OFF (R141). -/
def LineState.turnedOff (x : LineState) : LineState :=
  { x with mode := .off, exec := .hold, pointer := 0, counters := Vector.replicate 16 none, latch := false,
           activity := .idle, fault := none, step := none, draw := none, pickTimer := none, starveTimer := none,
           starveNoted := false, pickReq := none, emptied := false }

/-- A line enters OFF; its open panel is closed as ABANDONED (R141, R142, R169). -/
def enterOff (l : Line) (s : State) : State :=
  closePanelRecord l .abandoned true (s.setLine l (s.line l).turnedOff)

/-! ## Ends of a step and of a draw -/

/-- No step, no draw, no timer: the line stands idle where it is (R145, R165). -/
def LineState.stood (x : LineState) : LineState :=
  { x with activity := .idle, step := none, draw := none, pickTimer := none, starveTimer := none, starveNoted := false,
           pickReq := none, emptied := false }

/-- Where exec stands after a completion (R143, R146). -/
def execAfter (exec : Exec) (m : Manner) (stop : Bool) : Exec :=
  match m with
  | .walk => if stop then .hold else exec
  | .step => .hold
  | .once => .hold

/-- Where the pointer stands after a completion: `next` unless the manner is ONCE (R146). -/
def pointerAfter (pointer next : Fin 16) (m : Manner) : Fin 16 :=
  match m with
  | .once => pointer
  | _ => next

/-- The step in progress completes: the pointer goes to `next` by the manner; `stop` is PANEL END's after STOP (R143,
R146). -/
def completeStep (l : Line) (next : Fin 16) (stop : Bool) (s : State) : State :=
  let x := s.line l
  let m := x.step.getD .walk
  (s.setLine l { x.stood with pointer := pointerAfter x.pointer next m, exec := execAfter x.exec m stop }).raiseIf
    (stop && decide (m ≠ .once)) (.lineStopped l)

/-- A sequencer fault, or a DIRECT fault (R152, R164, R166). -/
def faultLine (l : Line) (kind : LineFault) (s : State) : State :=
  (s.setLine l { (s.line l).stood with activity := .fault, fault := some kind, exec := .hold }).raise (.lineStopped l)

/-- The result of a DIRECT draw reported: last draw result and DRAW_DONE; a draw of a PLY step reports none (R167). -/
def reportDraw (l : Line) (r : DrawResult) (s : State) : State :=
  match (s.line l).draw with
  | some d =>
    match d.origin with
    | .direct => (s.setLine l { s.line l with lastDraw := some r }).raise (.drawDone l)
    | .ply => s
  | none => s

/-! ## The stack top's answers (R125, R131, R132) -/

/-- The stack top is free (R125). -/
def Stack.free (x : Stack) : Bool := x.reservations == 0 && x.falling.isEmpty && x.holder.isNone

/-- The stack is OPEN or DRAIN (R118). -/
def Stack.serving (x : Stack) : Bool :=
  match x.state with
  | .opened => true
  | .drain => true
  | .closed => false
  | .faulted => false

/-- The grade 1 to 5 of a class G1 to G5. -/
def drawGrade : SheetClass → Option (Fin 5)
  | .g1 => some 0
  | .g2 => some 1
  | .g3 => some 2
  | .g4 => some 3
  | .g5 => some 4
  | .g6 => none
  | .redry => none
  | .regrade => none

/-- The grade, counted from 0, of the inventory's top record, if it is of class G1 to G5. -/
def Stack.topGrade (x : Stack) : Option (Fin 5) := x.inventory.head?.bind fun r => r.cls.bind drawGrade

/-- The top record may be drawn with a grade set (R132, R158). -/
def Stack.topIn (x : Stack) (g : GradeSet) : Bool := x.topGrade.any fun i => g.getLsbD i.val

/-- A line is granted a stack top and its pick begins (R132, R161). -/
def beginPick (l : Line) (k : StackId) (s : State) : State :=
  let x := s.stack k
  let y := s.line l
  (s.setStack k { x with holder := some l, lastGrant := some l, waiters := x.waiters.set l none }).setLine l
    { y with activity := .picking, draw := y.draw.map (fun d => { d with stack := some k }), pickReq := some k,
             pickTimer := some 0, starveTimer := none, starveNoted := false }

/-- A line joins the waiters of a stack top (R131, R158). -/
def joinWaiters (l : Line) (k : StackId) (g : GradeSet) (s : State) : State :=
  let x := s.stack k
  let y := s.line l
  (s.setStack k { x with waiters := x.waiters.set l (some g) }).setLine l
    { y with activity := .waitingTop, draw := y.draw.map (fun d => { d with stack := some k }), starveTimer := none,
             starveNoted := false }

/-- A line's ask of a stack top (R131): refused, granted at once as to a sole waiter, or registered. A line refused, or
not granted because the top record fails the check of R132, is left to reselect; a selection asks no such stack. -/
def ask (l : Line) (k : StackId) (g : GradeSet) (s : State) : State :=
  let x := s.stack k
  if ¬ x.serving ∨ ¬ x.access.get l then s
  else if x.free && !s.estop then (if x.topIn g then beginPick l k s else s)
  else joinWaiters l k g s

/-- A line leaves the waiters of a stack (R131). -/
def leaveWaiters (l : Line) (k : StackId) (s : State) : State :=
  s.setStack k { s.stack k with waiters := (s.stack k).waiters.set l none }

/-- The line leaves the waiters of the stack it waits on, if it waits. -/
def withdrawLine (l : Line) (s : State) : State :=
  match (s.line l).activity, (s.line l).draw.bind (·.stack) with
  | .waitingTop, some k => leaveWaiters l k s
  | _, _ => s

/-! ## Selection (R158, R160) -/

/-- A stack is a candidate for a draw of line `l` (R158). -/
def isCandidate (l : Line) (d : Draw) (x : Stack) : Bool :=
  x.serving && x.access.get l && x.topIn d.grades

/-- `i` ranks before `j` by the preference: CONSERVE the worse grade, BEST the better (R158). -/
def ranksBefore (p : Preference) (i j : Fin 5) : Bool :=
  match p with
  | .conserve => decide (j < i)
  | .best => decide (i < j)

/-- The first-ranked of a list of stacks in number order: a later stack must rank strictly before (R158). -/
def firstRanked (p : Preference) (grade : StackId → Fin 5) : List StackId → Option StackId
  | [] => none
  | k :: ks =>
    match firstRanked p grade ks with
    | none => some k
    | some j => if ranksBefore p (grade j) (grade k) then some j else some k

/-- The candidates of a draw, in stack order. -/
def candidates (l : Line) (d : Draw) (s : State) : List StackId :=
  allStacks.filter fun k => isCandidate l d (s.stack k)

/-- The stack a selection asks: the first-ranked free candidate, or else the first-ranked one (R158). -/
def selectedStack (l : Line) (d : Draw) (s : State) : Option StackId :=
  let grade := fun k => ((s.stack k).topGrade).getD 0
  match firstRanked d.pref grade ((candidates l d s).filter fun k => (s.stack k).free && !s.estop) with
  | some k => some k
  | none => firstRanked d.pref grade (candidates l d s)

/-- No candidate: a starvation begins, or goes on (R160). -/
def starve (l : Line) (s : State) : State :=
  let y := s.line l
  match y.activity with
  | .starved => s
  | _ => s.setLine l { y with activity := .starved, draw := y.draw.map (fun d => { d with stack := none }),
                              starveTimer := some 0, starveNoted := false }

/-- A selection for the line's draw (R158). -/
def select (l : Line) (s : State) : State :=
  match (s.line l).draw with
  | none => s
  | some d =>
    match selectedStack l d s with
    | some k => ask l k d.grades s
    | none => starve l s

/-- A line told to reselect does so if its draw is to go on; a draw of a PLY step under exec HOLD ends (R145, R159,
R163). -/
def reselect (l : Line) (s : State) : State :=
  match (s.line l).mode, (s.line l).exec with
  | .run, .hold => s.setLine l (s.line l).stood
  | _, _ => select l s

/-! ## One event at the stacks -/

/-- An event at the stacks in the making: the state, the lines withdrawn or refused so far (told to reselect), and the
lines to which a landing, a pick, a state change or an access change has been announced (R118, R159, R160). -/
structure StackEvent where
  st    : State
  told  : PerLine Bool
  heard : PerLine Bool

/-- An event at the stacks that has changed only the state so far. -/
def StackEvent.of (s : State) : StackEvent := { st := s, told := ⟨false, false⟩, heard := ⟨false, false⟩ }

/-- The event announced to both lines. -/
def StackEvent.announce (e : StackEvent) : StackEvent := { e with heard := ⟨true, true⟩ }

/-- The event announced to the lines in a stack's access mask (R160). -/
def StackEvent.announceTo (e : StackEvent) (m : PerLine Bool) : StackEvent :=
  { e with heard := ⟨e.heard.a || m.a, e.heard.b || m.b⟩ }

/-- Every waiter of a stack withdrawn and told to reselect (R118). -/
def StackEvent.withdrawAll (e : StackEvent) (k : StackId) : StackEvent :=
  let x := e.st.stack k
  { st := e.st.setStack k { x with waiters := ⟨none, none⟩ },
    told := ⟨e.told.a || x.waiters.a.isSome, e.told.b || x.waiters.b.isSome⟩, heard := e.heard }

/-- A stack's state set: a change is announced, and one to CLOSED or FAULTED withdraws the waiters (R118). -/
def StackEvent.setState (e : StackEvent) (k : StackId) (new : StackState) : StackEvent :=
  if (e.st.stack k).state = new then e
  else
    let e1 := { e with st := e.st.setStack k { e.st.stack k with state := new } }.announce
    match new with
    | .opened => e1
    | .drain => e1
    | .closed => e1.withdrawAll k
    | .faulted => e1.withdrawAll k

/-- A stack in DRAIN with nothing left or bound for it closes with STACK_EMPTY (R118). -/
def StackEvent.drainClose (e : StackEvent) (k : StackId) : StackEvent :=
  let x := e.st.stack k
  if x.state = .drain ∧ x.inventory = [] ∧ x.allocated = 0 then
    let e1 := e.setState k .closed
    { e1 with st := e1.st.raise .stackEmpty }
  else e

/-- The order in which the waiting lines are offered a stack top (R132). -/
def offerOrder (p : PickPriority) (last : Option Line) : List Line :=
  match p, last with
  | .fixedA, _ => [.a, .b]
  | .fixedB, _ => [.b, .a]
  | .rotating, some .a => [.b, .a]
  | .rotating, some .b => [.a, .b]
  | .rotating, none => [.a, .b]

/-- The offer to a list of lines: a waiter whose grade set holds the top record's grade is granted; one that is not is
withdrawn and told to reselect, and the next is offered (R132). -/
def StackEvent.offer (k : StackId) : List Line → StackEvent → StackEvent
  | [], e => e
  | l :: ls, e =>
    match (e.st.stack k).waiters.get l with
    | none => StackEvent.offer k ls e
    | some g =>
      if (e.st.stack k).topIn g then { e with st := beginPick l k e.st }
      else StackEvent.offer k ls { st := leaveWaiters l k e.st, told := e.told.set l true, heard := e.heard }

/-- The grant check of R125. -/
def StackEvent.grantCheck (e : StackEvent) (k : StackId) : StackEvent :=
  let x := e.st.stack k
  if x.free && x.serving && !e.st.estop then StackEvent.offer k (offerOrder e.st.sk.priority x.lastGrant) e else e

/-- Whether a line selects again at the end of the event: it was told to, or it is STARVED and heard of the event
(R159, R160). -/
def StackEvent.selects (e : StackEvent) (l : Line) : Bool :=
  e.told.get l || (e.heard.get l && decide ((e.st.line l).activity = .starved))

/-- The end of the event: the lines concerned select again; where both do, the manual leaves the order open
(assumption 9). -/
def StackEvent.settle (e : StackEvent) : State :=
  match e.selects .a, e.selects .b with
  | false, false => e.st
  | true, false => reselect .a e.st
  | false, true => reselect .b e.st
  | true, true =>
    let t := { e.st with choices := e.st.choices + 1 }
    if Config.lineAFirst e.st.choices then reselect .b (reselect .a t) else reselect .a (reselect .b t)

/-! ## Ends of a pick (R134, R161) -/

/-- The pick in flight of a line: the stack it holds (R165). -/
def heldStack (x : LineState) : Option StackId :=
  match x.activity with
  | .picking => x.draw.bind (·.stack)
  | .stopping => x.draw.bind (·.stack)
  | _ => none

/-- A line's pick is over: PICK_REQ withdrawn, the timer stopped, and no signal can have been given together with it
(R161). -/
def LineState.unpicked (x : LineState) : LineState := { x with pickReq := none, pickTimer := none, emptied := false }

/-- A pick's end at the stack top and the output: the holder is cleared, PICK_REQ withdrawn, the timer stopped (R134,
R161). -/
def clearPick (l : Line) (k : StackId) (s : State) : State :=
  (s.setStack k { s.stack k with holder := none }).setLine l (s.line l).unpicked

/-- The top record of the held stack moved into the open panel as its newest ply (R162, R134). -/
def movePly (l : Line) (k : StackId) (s : State) : State :=
  match (s.stack k).inventory, (s.line l).draw with
  | r :: rest, some d =>
    (s.setStack k { s.stack k with inventory := rest }).setLine l
      { s.line l with openPanel := (s.line l).openPanel ++ [{ sheet := r, stack := k, role := d.role }] }
  | _, _ => s

/-- The draw ends with its sheet (R162). -/
def finishDraw (l : Line) (s : State) : State :=
  let x := s.line l
  match x.activity with
  | .stopping => enterOff l (reportDraw l .done s)
  | _ =>
    match x.draw.map (·.origin) with
    | some Origin.ply => completeStep l (x.pointer + 1) false s
    | _ =>
      let t := reportDraw l .done s
      t.setLine l (t.line l).stood

/-- PICK_DONE with a pick in flight (R134, R162). -/
def pickDoneOn (l : Line) (k : StackId) (s : State) : State :=
  let t := finishDraw l (movePly l k (clearPick l k s))
  (((StackEvent.of t).announceTo (t.stack k).access).drainClose k |>.grantCheck k).settle

/-- A stray feeder signal (R165). -/
def straySignal (l : Line) (s : State) : State := s.raise (.feederFault l)

/-- PICK_DONE in the millisecond in which a PICK_EMPTY ended the line's last pick and its next one began: given together
with that PICK_EMPTY for the pick that has ended it is stray, and otherwise it answers the pick in flight. The manual does
not say when two signals are together, so which it is is a free value (R165, assumption 30). -/
def pickDoneAfterEmpty (l : Line) (k : StackId) (s : State) : State :=
  let t := { s with choices := s.choices + 1 }.setLine l { s.line l with emptied := false }
  if Config.signalsTogether s.choices then straySignal l t else pickDoneOn l k t

/-- PICK_DONE (R162, R165). -/
def execPickDone (l : Line) (s : State) : Result :=
  event (fun s =>
    match heldStack (s.line l) with
    | none => straySignal l s
    | some k => if (s.line l).emptied then pickDoneAfterEmpty l k s else pickDoneOn l k s) s

/-- The line's own outcome of a PICK_EMPTY: the line enters OFF, or is told to reselect (R163). -/
def emptyHanded (l : Line) (e : StackEvent) : StackEvent :=
  match (e.st.line l).activity with
  | .stopping => { e with st := enterOff l (reportDraw l .aborted e.st) }
  | _ => { e with told := e.told.set l true }

/-- A line that a PICK_EMPTY leaves with its next pick in flight is marked so (assumption 30). -/
def markEmptied (l : Line) (s : State) : State :=
  match (s.line l).activity with
  | .picking => s.setLine l { s.line l with emptied := true }
  | _ => s

/-- PICK_EMPTY with a pick in flight (R134, R163). -/
def pickEmptyOn (l : Line) (k : StackId) (s : State) : State :=
  markEmptied l (emptyHanded l ((StackEvent.of ((clearPick l k s).raise .stackFault)).setState k .faulted)).settle

/-- PICK_EMPTY (R163, R165). -/
def execPickEmpty (l : Line) (s : State) : Result :=
  event (fun s =>
    match heldStack (s.line l) with
    | none => straySignal l s
    | some k => pickEmptyOn l k s) s

/-- The line's outcome of a pick that timed out (R164). -/
def timedOutLine (l : Line) (s : State) : State :=
  match (s.line l).activity with
  | .stopping => enterOff l (reportDraw l .aborted s)
  | _ => faultLine l .feederTimeout (reportDraw l .aborted s)

/-- The pick timer runs out with the pick in flight (R134, R164). -/
def pickTimeoutOn (l : Line) (k : StackId) (s : State) : State :=
  ((StackEvent.of (timedOutLine l ((clearPick l k s).raise (.feederFault l)))).grantCheck k).settle

/-- The pick timer has reached the pick limit. -/
def pickTimeoutDue (l : Line) (s : State) : Bool :=
  (s.line l).pickTimer.any fun t => decide (s.lines.pickLimit ≤ t)

/-- A pick that is due to time out does. -/
def timeOutPick (l : Line) (s : State) : State :=
  match heldStack (s.line l) with
  | none => s
  | some k => if pickTimeoutDue l s then pickTimeoutOn l k s else s

/-- PICK_TIMEOUT (R164). -/
def execPickTimeout (l : Line) (s : State) : Result := event (timeOutPick l) s

/-- The starve timer has reached a limit other than 0, and the starvation has not been noticed (R160). -/
def starveDue (l : Line) (s : State) : Bool :=
  decide ((s.line l).activity = .starved) && !(s.line l).starveNoted && s.lines.starveLimit != 0
    && (s.line l).starveTimer.any fun t => decide (s.lines.starveLimit ≤ t)

/-- A starvation that is due to be noticed is (R160). -/
def noticeStarved (l : Line) (s : State) : State :=
  if starveDue l s then
    (s.setLine l { s.line l with starveTimer := none, starveNoted := true }).raise (.lineStarved l)
  else s

/-- LINE_STARVED (R160). -/
def execLineStarved (l : Line) (s : State) : Result := event (noticeStarved l) s

end Sys2Proof.Machine
end

