-- ==== Sys2Proof/Machine/Lines.lean ====
section
/-!
DEFINITION. Layup sequencers and the requests of a line (chapters 8 and 9): modes (R141, R142), exec and the pointer (R143
to R147), the steps (R148 to R152), pattern memory (R139, R140), status (R154), and the DIRECT and panel requests (R166,
R167, R171, R172).
-/

namespace Sys2Proof.Machine

/-! ## Steps (R148 to R152) -/

/-- A draw begun: OVERLENGTH on a panel of 24 plies, or a selection (R148, R158, R166). -/
def beginDraw (l : Line) (d : Draw) (s : State) : State :=
  let t := s.setLine l { s.line l with draw := some d }
  if Config.panelPlies ≤ (s.line l).openPanel.length then faultLine l .overlength (reportDraw l .aborted t)
  else select l t

/-- The latch of a line set: an AWAITING line clears it at once and its AWAIT completes (R151). -/
def signalLatch (l : Line) (s : State) : State :=
  let x := s.line l
  match x.activity with
  | .awaiting => completeStep l (x.pointer + 1) false s
  | _ => s.setLine l { x with latch := true }

/-- The loop counter of the step at the pointer, and where a REPEAT goes, by the rows of R149. -/
def loopOutcome (pointer target : Fin 16) (count : Nat) (counter : Option Nat) : Option Nat × Fin 16 :=
  if count = 0 then (counter, target)
  else match counter with
    | none => (some (count - 1), target)
    | some 0 => (none, pointer + 1)
    | some (n + 1) => (some n, target)

/-- A REPEAT step (R149). -/
def loopStep (l : Line) (target : Fin 16) (count : Fin 64) (s : State) : State :=
  let x := s.line l
  let out := loopOutcome x.pointer target count.val x.counters[x.pointer]
  completeStep l out.2 false
    (s.setLine l { x with counters := x.counters.set x.pointer.val out.1 x.pointer.isLt })

/-- Where a PANEL END sends the pointer by its after field (R146). -/
def afterPointer (pointer : Fin 16) : After → Fin 16
  | .next => pointer + 1
  | .restart => 0
  | .stop => pointer + 1

/-- A PANEL END whose close is made completes (R146, R150, R169). -/
def finishPanelEnd (l : Line) (notice : Bool) (after : After) (s : State) : State :=
  completeStep l (afterPointer (s.line l).pointer after) (decide (after = .stop))
    (closePanelRecord l .complete notice s)

/-- The close of a PANEL END can be made: the queue has a place, or there are no plies (R150). -/
def LineState.canClose (x : LineState) : Bool :=
  x.openPanel.isEmpty || decide (x.panelQueue.length < Config.panelQueueRoom)

/-- A PANEL END step (R150). -/
def panelEndStep (l : Line) (notice : Bool) (after : After) (s : State) : State :=
  if (s.line l).canClose then finishPanelEnd l notice after s
  else s.setLine l { s.line l with activity := .waitRecord }

/-- An AWAIT step (R151). -/
def awaitStep (l : Line) (s : State) : State :=
  let x := s.line l
  if x.latch then completeStep l (x.pointer + 1) false (s.setLine l { x with latch := false })
  else s.setLine l { x with activity := .awaiting }

/-- A PLY step (R148). -/
def plyStep (l : Line) (g : GradeSet) (role : Role) (pref : Preference) (s : State) : State :=
  if g = 0 then faultLine l .badStep s
  else beginDraw l { grades := g, pref := pref, role := role, origin := .ply, stack := none } s

/-- The step at the pointer begun in a manner (R143, R148 to R152). -/
def beginStep (l : Line) (m : Manner) (s : State) : State :=
  let t := s.setLine l { s.line l with step := some m }
  let x := s.line l
  match x.pattern[x.pointer] with
  | .blank _ => faultLine l .blankStep t
  | .ply g role pref => plyStep l g role pref t
  | .loop target count => loopStep l target count t
  | .panelEnd notice after => panelEndStep l notice after t
  | .signal _ => completeStep l (x.pointer + 1) false (signalLatch (otherLine l) t)
  | .await _ => awaitStep l t
  | .unnamed _ _ => faultLine l .badStep t

/-- A line that begins its next step in manner WALK (R143). -/
def stepDue (l : Line) (s : State) : Bool :=
  let x := s.line l
  decide (x.mode = .run) && decide (x.activity = .idle) && x.step.isNone && decide (x.exec = .run) && !s.estop

/-- STEP_BEGIN (R143). -/
def execStepBegin (l : Line) (s : State) : Result :=
  event (fun s => if stepDue l s then beginStep l .walk s else s) s

/-! ## Modes (R141, R142) -/

/-- Whether a change of mode is taken, by the table of R141. -/
def modeTaken (old new : LineMode) (a : Activity) : Bool :=
  match old, new with
  | .off, _ => true
  | .load, _ => true
  | .run, .off => true
  | .run, .load => false
  | .run, .run => true
  | .run, .direct => false
  | .direct, .off => true
  | .direct, .load => decide (a = .idle) || decide (a = .fault)
  | .direct, .run => decide (a = .idle) || decide (a = .fault)
  | .direct, .direct => true

/-- A request for OFF on a line not yet STOPPING (R142). A line that is STOPPING has no step in progress (R137). -/
def goOff (l : Line) (s : State) : State :=
  match (s.line l).activity with
  | .picking => s.setLine l { s.line l with activity := .stopping, exec := .hold, step := none }
  | _ => enterOff l (reportDraw l .cancelled (withdrawLine l s))

/-- A line enters LOAD or DIRECT (R141). -/
def LineState.entersFresh (x : LineState) (m : LineMode) : LineState :=
  { x with mode := m, exec := .hold, pointer := 0, counters := Vector.replicate 16 none }

/-- A line enters a mode it does not hold (R141). -/
def enterMode (l : Line) (m : LineMode) (s : State) : State :=
  match m with
  | .off => goOff l s
  | .load => s.setLine l ((s.line l).entersFresh .load)
  | .direct => s.setLine l ((s.line l).entersFresh .direct)
  | .run => s.setLine l { s.line l with mode := .run, exec := .hold }

/-- SET LINE MODE (R141). -/
def setLineMode (body : List Byte) (s : State) : Reply :=
  if body.length ≠ 2 then refuse s .badRequest
  else match lineOf (byteAt body 0), lineModeOf (byteAt body 1) with
    | some l, some m =>
      let x := s.line l
      if x.activity = .stopping then (if m = .off then okReply s [b8 x.mode.code] else refuse s .wrongState)
      else if m = x.mode then okReply s [b8 x.mode.code]
      else if modeTaken x.mode m x.activity then okReply (enterMode l m s) [b8 x.mode.code]
      else refuse s .wrongState
    | _, _ => refuse s .badValue

def serveSetLineMode (p : Port) (tag : Byte) (body : List Byte) (s : State) : Result :=
  serveLine Code.setLineMode p tag body (setLineMode body) s

/-! ## Exec (R144, R145) -/

/-- Whether a SET LINE EXEC is taken on a line in RUN (R144). -/
def execTaken (x : LineState) (estop : Bool) (e : Exec) : Bool :=
  match e with
  | .run =>
    !estop && decide (x.activity ≠ .fault) && decide (x.activity ≠ .stopping)
      && (decide (x.exec = .run) || decide (x.exec = .hold))
  | .hold => true
  | .step => !estop && decide (x.exec = .hold) && decide (x.activity = .idle) && x.step.isNone
  | .once => !estop && decide (x.exec = .hold) && decide (x.activity = .idle) && x.step.isNone

/-- A wait is stopped at once: no step, no draw, idle where it stands (R145). -/
def stopWait (l : Line) (s : State) : State :=
  let t := withdrawLine l s
  t.setLine l { (t.line l).stood with exec := .hold }

/-- HOLD taken (R145). -/
def holdLine (l : Line) (s : State) : State :=
  match (s.line l).activity with
  | .waitingTop => stopWait l s
  | .starved => stopWait l s
  | .awaiting => stopWait l s
  | .waitRecord => stopWait l s
  | .idle => s.setLine l { s.line l with exec := .hold }
  | .picking => s.setLine l { s.line l with exec := .hold }
  | .stopping => s.setLine l { s.line l with exec := .hold }
  | .fault => s.setLine l { s.line l with exec := .hold }

/-- Exec RUN taken: nothing on a line whose exec is RUN; otherwise exec RUN, and a line with no step in progress begins
the step at its pointer (R144, assumption 14). -/
def runLine (l : Line) (s : State) : State :=
  let x := s.line l
  match x.exec with
  | .run => s
  | _ =>
    let t := s.setLine l { x with exec := .run }
    if x.step.isNone then beginStep l .walk t else t

/-- A SET LINE EXEC that is taken (R144). -/
def setExec (l : Line) (e : Exec) (s : State) : State :=
  match e with
  | .run => runLine l s
  | .hold => holdLine l s
  | .step => beginStep l .step (s.setLine l { s.line l with exec := .step })
  | .once => beginStep l .once (s.setLine l { s.line l with exec := .once })

/-- SET LINE EXEC (R144). -/
def setLineExec (body : List Byte) (s : State) : Reply :=
  if body.length ≠ 2 then refuse s .badRequest
  else match lineOf (byteAt body 0), execOf (byteAt body 1) with
    | some l, some e =>
      let x := s.line l
      if x.mode ≠ .run then refuse s .wrongState
      else if execTaken x s.estop e then okReply (setExec l e s) [b8 x.exec.code]
      else refuse s .wrongState
    | _, _ => refuse s .badValue

def serveSetLineExec (p : Port) (tag : Byte) (body : List Byte) (s : State) : Result :=
  serveLine Code.setLineExec p tag body (setLineExec body) s

/-! ## Pattern memory, pointer, fault, status and signal (R139, R140, R147, R151, R153, R154) -/

/-- Pattern memory with consecutive steps written from step `k`. -/
def writeFrom (v : Vector PatternStep 16) (k : Nat) : List PatternStep → Vector PatternStep 16
  | [] => v
  | x :: xs => writeFrom (v.setIfInBounds k x) (k + 1) xs

/-- WRITE STEPS (R139). -/
def writeSteps (body : List Byte) (s : State) : Reply :=
  let n := byteAt body 2
  if body.length < 3 ∨ body.length ≠ 3 + 4 * n ∨ n < 1 ∨ 16 < n then refuse s .badRequest
  else match lineOf (byteAt body 0) with
    | none => refuse s .badValue
    | some l =>
      if 16 < byteAt body 1 + n then refuse s .badValue
      else match stepsAt body 3 n with
        | none => refuse s .badValue
        | some steps =>
          if (s.line l).mode ≠ .load then refuse s .wrongState
          else okReply (s.setLine l { s.line l with pattern := writeFrom (s.line l).pattern (byteAt body 1) steps }) []

def serveWriteSteps (p : Port) (tag : Byte) (body : List Byte) (s : State) : Result :=
  serveLine Code.writeSteps p tag body (writeSteps body) s

/-- A step with its loop counter, in 5 bytes (R188). -/
def stepBytes (e : PatternStep × Option Nat) : List Byte := e.1.bytes ++ [optByte e.2]

/-- READ STEPS (R140). -/
def readSteps (body : List Byte) (s : State) : Reply :=
  if body.length ≠ 3 then refuse s .badRequest
  else match lineOf (byteAt body 0) with
    | none => refuse s .badValue
    | some l =>
      let first := byteAt body 1
      let n := byteAt body 2
      if n < 1 ∨ 16 < n ∨ 16 < first + n then refuse s .badValue
      else
        let x := s.line l
        okReply s (b8 n :: (((x.pattern.toList.zip x.counters.toList).drop first).take n).flatMap stepBytes)

def serveReadSteps (p : Port) (tag : Byte) (body : List Byte) (s : State) : Result :=
  serve Code.readSteps p tag (readSteps body) s

/-- SET STEP POINTER is taken on the line (R147). -/
def LineState.pointerFree (x : LineState) : Bool :=
  (decide (x.activity = .idle) || decide (x.activity = .fault)) && x.step.isNone
    && (decide (x.mode ≠ .run) || decide (x.exec = .hold))

/-- SET STEP POINTER (R147). -/
def setStepPointer (body : List Byte) (s : State) : Reply :=
  if body.length ≠ 2 then refuse s .badRequest
  else match lineOf (byteAt body 0) with
    | none => refuse s .badValue
    | some l =>
      if h : byteAt body 1 < 16 then
        if (s.line l).pointerFree then
          okReply (s.setLine l { s.line l with pointer := ⟨byteAt body 1, h⟩ }) [b8 (s.line l).pointer.val]
        else refuse s .wrongState
      else refuse s .badValue

def serveSetStepPointer (p : Port) (tag : Byte) (body : List Byte) (s : State) : Result :=
  serveLine Code.setStepPointer p tag body (setStepPointer body) s

/-- A request whose one-byte body names a line: the body length, then the line. -/
def onLine (body : List Byte) (s : State) (f : Line → Reply) : Reply :=
  if body.length ≠ 1 then refuse s .badRequest
  else match lineOf (byteAt body 0) with
    | none => refuse s .badValue
    | some l => f l

/-- CLEAR LINE FAULT (R153). -/
def clearLineFault (body : List Byte) (s : State) : Reply :=
  onLine body s fun l =>
    let x := s.line l
    if x.activity ≠ .fault then refuse s .wrongState
    else okReply (s.setLine l { x with activity := .idle, fault := none }) [b8 (lineFaultCode x.fault)]

def serveClearLineFault (p : Port) (tag : Byte) (body : List Byte) (s : State) : Result :=
  serveLine Code.clearLineFault p tag body (clearLineFault body) s

/-- The stack waited on in WAITING_TOP or held in PICKING (R154); none while STOPPING (assumption 15). -/
def LineState.waitingStack (x : LineState) : Option StackId :=
  match x.activity with
  | .waitingTop => x.draw.bind (·.stack)
  | .picking => x.draw.bind (·.stack)
  | _ => none

/-- The answer body of READ LINE STATUS (R192). -/
def statusBytes (x : LineState) : List Byte :=
  [b8 x.mode.code, b8 x.exec.code, b8 x.pointer.val, b8 x.activity.code, b8 (lineFaultCode x.fault), bBool x.latch,
   b8 (stackNibble x.waitingStack), b8 x.openPanel.length, b8 x.panelQueue.length, b8 (drawResultCode x.lastDraw)]

/-- READ LINE STATUS (R154). -/
def readLineStatus (body : List Byte) (s : State) : Reply :=
  onLine body s fun l => okReply s (statusBytes (s.line l))

def serveReadLineStatus (p : Port) (tag : Byte) (body : List Byte) (s : State) : Result :=
  serve Code.readLineStatus p tag (readLineStatus body) s

/-- SIGNAL LINE (R151). -/
def signalLine (body : List Byte) (s : State) : Reply :=
  onLine body s fun l => okReply (signalLatch l s) [bBool (s.line l).latch]

def serveSignalLine (p : Port) (tag : Byte) (body : List Byte) (s : State) : Result :=
  serve Code.signalLine p tag (signalLine body) s

/-! ## DIRECT draws (R166, R167) -/

/-- DRAW (R166). -/
def draw (body : List Byte) (s : State) : Reply :=
  if body.length ≠ 4 then refuse s .badRequest
  else match lineOf (byteAt body 0), gradesOf (byteAt body 1), prefOf (byteAt body 2), roleOf (byteAt body 3) with
    | some l, some g, some pref, some role =>
      let x := s.line l
      if g = 0 then refuse s .badValue
      else if x.mode ≠ .direct ∨ s.estop ∨ x.activity = .fault ∨ x.activity = .stopping then refuse s .wrongState
      else if x.draw.isSome then refuse s .busy
      else
        { st := beginDraw l { grades := g, pref := pref, role := role, origin := .direct, stack := none } s,
          status := .accepted, body := [] }
    | _, _, _, _ => refuse s .badValue

def serveDraw (p : Port) (tag : Byte) (body : List Byte) (s : State) : Result :=
  serveLine Code.draw p tag body (draw body) s

/-- A DIRECT draw that has not reached its pick is cancelled (R167). -/
def cancelDrawOn (l : Line) (s : State) : State :=
  let t := reportDraw l .cancelled (withdrawLine l s)
  t.setLine l (t.line l).stood

/-- CANCEL DRAW (R167). -/
def cancelDraw (body : List Byte) (s : State) : Reply :=
  onLine body s fun l =>
    let x := s.line l
    if x.mode ≠ .direct ∨ x.draw.isNone ∨ x.activity = .picking ∨ x.activity = .stopping then refuse s .wrongState
    else okReply (cancelDrawOn l s) []

def serveCancelDraw (p : Port) (tag : Byte) (body : List Byte) (s : State) : Result :=
  serveLine Code.cancelDraw p tag body (cancelDraw body) s

/-! ## Panels (R171, R172) -/

/-- CLOSE PANEL (R171). -/
def closePanel (body : List Byte) (s : State) : Reply :=
  onLine body s fun l =>
    let x := s.line l
    if x.mode ≠ .direct ∨ x.draw.isSome ∨ x.activity = .stopping then refuse s .wrongState
    else if x.openPanel.isEmpty then okReply s []
    else if Config.panelQueueRoom ≤ x.panelQueue.length then refuse s .queueFull
    else okReply (closePanelRecord l .complete true s) (b16 x.panelCounter)

def serveClosePanel (p : Port) (tag : Byte) (body : List Byte) (s : State) : Result :=
  serveLine Code.closePanel p tag body (closePanel body) s

/-- A line in WAIT_RECORD whose queue has a place closes its panel into it and completes its PANEL END (R170). -/
def closeWaiting (l : Line) (s : State) : State :=
  let x := s.line l
  match x.activity, x.pattern[x.pointer] with
  | .waitRecord, .panelEnd notice after => finishPanelEnd l notice after s
  | _, _ => s

/-- TAKE PANEL (R172): the record leaves the part with the sheet records of its plies, which so give up their root slots
(assumption 12). -/
def takePanel (body : List Byte) (s : State) : Reply :=
  onLine body s fun l =>
    match (s.line l).panelQueue with
    | [] => refuse s .empty
    | r :: rest =>
      let left := (s.abandonAll (r.plies.map (·.sheet))).setLine l { s.line l with panelQueue := rest }
      okReply (closeWaiting l left) (panelBytes r)

def serveTakePanel (p : Port) (tag : Byte) (body : List Byte) (s : State) : Result :=
  serveLine Code.takePanel p tag body (takePanel body) s

/-- PEEK PANEL (R172). -/
def peekPanel (body : List Byte) (s : State) : Reply :=
  if body.length ≠ 2 then refuse s .badRequest
  else match lineOf (byteAt body 0) with
    | none => refuse s .badValue
    | some l =>
      if 3 < byteAt body 1 then refuse s .badValue
      else match (s.line l).panelQueue[byteAt body 1]? with
        | none => refuse s .empty
        | some r => okReply s (panelBytes r)

def servePeekPanel (p : Port) (tag : Byte) (body : List Byte) (s : State) : Result :=
  serve Code.peekPanel p tag (peekPanel body) s

end Sys2Proof.Machine
end

