-- ==== Sys2Proof/Machine/Intake.lean ====
section
/-!
DEFINITION. Sheet intake (chapter 1): SUBMIT_SHEET, LANE_RESYNC, READ_INTAKE, RECORD_EXPIRED and MERGE_EVENT, with the
handover to tracking (R16, R90).
-/

namespace Sys2Proof.Machine

/-! ## Forming a record (R4 to R6) -/

/-- A value replaced by the nearest end of its range (R5). -/
def clamp (lo hi x : Nat) : Nat := max lo (min hi x)

/-- The defect at offset `off` of a SUBMIT SHEET body, as sent (R186). -/
def defectAt (body : List Byte) (off : Nat) : Defect :=
  { kind := byteAt body off % 8, zone := if (byteAt body off).testBit 3 then .edge else .field,
    size := wordAt body (off + 1) }

/-- `n` defects from offset `off`, as sent. -/
def defectsAt (body : List Byte) (off : Nat) : Nat → List Defect
  | 0 => []
  | n + 1 => defectAt body off :: defectsAt body (off + 3) n

/-- The defect with its size clamped (R5). -/
def Defect.clamped (d : Defect) : Defect := { d with size := clamp 0 2000 d.size }

/-- Whether a value was out of its range (R5). -/
def outside (lo hi x : Nat) : Bool := clamp lo hi x != x

/-- The record SUBMIT SHEET forms (R2, R4 to R6). -/
def submittedRecord (body : List Byte) (lane : Lane) (number round : Nat) (slot : Slot) : SheetRecord :=
  let sent := defectsAt body 12 (byteAt body 3)
  let thickness := optField (wordAt body 4)
  let moisture := optField (wordAt body 6)
  let width := wordAt body 8
  let length := wordAt body 10
  let clampedAny := outside 200 1600 width || outside 400 3200 length || thickness.any (outside 0 9999)
    || moisture.any (outside 0 400) || sent.any (fun d => outside 0 2000 d.size)
  { number := number, lane := lane, slot := slot, species := some (byteAt body 1),
    thickness := thickness.map (clamp 0 9999), moisture := moisture.map (clamp 0 400),
    width := some (clamp 200 1600 width), length := some (clamp 400 3200 length),
    defects := sent.map Defect.clamped,
    flags := { clamped := clampedAny, defectsOmitted := (byteAt body 2).testBit 0,
               badDefect := sent.any (fun d => decide (6 ≤ d.kind)) },
    fault := none, status := .waiting, cls := none, gapsAfter := 0, thickClass := none, round := round }

/-- The list with `f` applied to its last element. -/
def updateLast {α : Type} (f : α → α) : List α → List α
  | [] => []
  | [x] => [f x]
  | x :: y :: xs => x :: updateLast f (y :: xs)

/-! ## SUBMIT SHEET (R3 to R7) -/

/-- An overrun: the gap is charged to the tail record (R7). -/
def overrun (lane : Lane) (s : State) : State :=
  let q := (s.lane lane).queue
  let full := q.getLast?.any fun e => decide (Config.maxGaps ≤ e.sheet.gapsAfter)
  let charge := fun e : IntakeEntry =>
    { e with sheet := { e.sheet with gapsAfter := min Config.maxGaps (e.sheet.gapsAfter + 1) } }
  ((s.setLane lane { s.lane lane with queue := updateLast charge q }).raise .intakeOverrun).raiseIf full .laneDesync

/-- The next sheet number taken: the counter advances, and from 65535 comes round to 1 (R4). -/
def State.countSheet (s : State) : State :=
  let x := s.intake
  s.setIntake { x with counter := advanceCounter x.counter,
                       round := if x.counter < Config.maxNumber then x.round else x.round + 1 }

/-- A record accepted: it joins its lane's queue at the tail, aged 0, and the lane's unit begins it if it may (R4,
R24). -/
def acceptSheet (lane : Lane) (r : SheetRecord) (s : State) : State :=
  let t := s.countSheet
  gradeNext lane (t.setLane lane { t.lane lane with queue := (t.lane lane).queue ++ [{ sheet := r, age := 0 }] })

/-- SUBMIT SHEET at its block: the checks of R3 in their order, then acceptance or overrun. -/
def submitSheet (body : List Byte) (s : State) : Reply :=
  if body.length < 4 ∨ body.length ≠ 12 + 3 * byteAt body 3 then refuse s .badRequest
  else match laneOf (byteAt body 0) with
    | none => refuse s .badValue
    | some lane =>
      if ¬ byteAt body 1 ≤ 15 ∨ ¬ byteAt body 3 ≤ 24 then refuse s .badValue
      else if (s.lane lane).queue.length < Config.intakeCapacity then
        okReply (acceptSheet lane (submittedRecord body lane s.intake.counter s.intake.round s.intake.current) s)
          (b16 s.intake.counter)
      else { st := overrun lane s, status := .overrun, body := [] }

def serveSubmitSheet (p : Port) (tag : Byte) (body : List Byte) (s : State) : Result :=
  serve Code.submitSheet p tag (submitSheet body) s

/-! ## LANE RESYNC and READ INTAKE (R17, R19) -/

/-- A lane emptied: its records are discarded, their gradings abandoned (R17). -/
def resyncLane (lane : Lane) (s : State) : State :=
  (s.abandonAll ((s.lane lane).queue.map (·.sheet))).setLane lane { queue := [], gaps := 0 }

def laneResync (body : List Byte) (s : State) : Reply :=
  if body.length ≠ 1 then refuse s .badRequest
  else match laneOf (byteAt body 0) with
    | none => refuse s .badValue
    | some lane => okReply (resyncLane lane s) [b8 (s.lane lane).queue.length]

def serveLaneResync (p : Port) (tag : Byte) (body : List Byte) (s : State) : Result :=
  serve Code.laneResync p tag (laneResync body) s

def readIntake (body : List Byte) (s : State) : Reply :=
  if body.length ≠ 1 then refuse s .badRequest
  else match laneOf (byteAt body 0) with
    | none => refuse s .badValue
    | some lane =>
      okReply s ([b8 (s.lane lane).gaps, b8 (s.lane lane).queue.length] ++ (s.lane lane).queue.flatMap intakeBytes)

def serveReadIntake (p : Port) (tag : Byte) (body : List Byte) (s : State) : Result :=
  serve Code.readIntake p tag (readIntake body) s

/-! ## Expiry (R9) -/

/-- The head record of a lane expires (R9). -/
def expireHead (lane : Lane) (s : State) : State :=
  match (s.lane lane).queue with
  | [] => s
  | e :: rest =>
    ((s.abandon e.sheet true).setLane lane
      { queue := rest, gaps := min Config.maxGaps ((s.lane lane).gaps + e.sheet.gapsAfter) }).raise .recordExpired

/-- The head record's age has reached the record age limit. -/
def expiryDue (lane : Lane) (s : State) : Bool :=
  (s.lane lane).queue.head?.any fun e => decide (s.intake.ageLimit ≤ e.age)

/-- RECORD_EXPIRED (R9). -/
def execRecordExpired (lane : Lane) (s : State) : Result :=
  event (fun s => if expiryDue lane s then expireHead lane s else s) s

/-! ## Merge events (R12 to R16) -/

/-- A record for a sheet that has none (R13). -/
def unmeasuredRecord (lane : Lane) (number round : Nat) (slot : Slot) : SheetRecord :=
  { number := number, lane := lane, slot := slot, species := none, thickness := none, moisture := none, width := none,
    length := none, defects := [], flags := { unmeasured := true }, fault := none, status := .graded,
    cls := some .regrade, gapsAfter := 0, thickClass := none, round := round }

/-- The run-out count raised by one, held at 65535 (R114). -/
def State.countRunOut (s : State) : State :=
  s.setRouting { s.routing with runOut := min Config.maxNumber (s.routing.runOut + 1) }

/-- A new tracking entry (R90). -/
def joiningEntry (r : SheetRecord) : TrackEntry :=
  { sheet := r, distance := 0, stack := none, drop := .noDrop, decided := false }

/-- The handover to tracking: the record joins the queue, or is discarded and counted; TRACK_OVERFLOW tells of a full
queue, and nothing of a FAULTED one (R16, R90, R98, assumption 13). -/
def handOver (r : SheetRecord) (s : State) : State :=
  match s.tracking.state with
  | .faulted => (s.abandon r true).countRunOut
  | .running =>
    if s.tracking.queue.length < Config.trackCapacity then s.setQueue (s.tracking.queue ++ [joiningEntry r])
    else ((s.abandon r true).countRunOut).raise .trackOverflow

/-- MERGE_EVENT at intake: the three rows of R12. -/
def mergeLane (lane : Lane) (s : State) : State :=
  let x := s.lane lane
  if 0 < x.gaps then
    handOver (unmeasuredRecord lane s.intake.counter s.intake.round s.intake.current)
      ((s.countSheet).setLane lane { x with gaps := x.gaps - 1 })
  else match x.queue with
    | e :: rest => handOver e.sheet (s.setLane lane { queue := rest, gaps := e.sheet.gapsAfter })
    | [] =>
      handOver (unmeasuredRecord lane s.intake.counter s.intake.round s.intake.current)
        ((s.countSheet).raise .unmeasuredSheet)

def execMergeEvent (lane : Lane) (s : State) : Result := event (mergeLane lane) s

end Sys2Proof.Machine
end

