-- ==== Sys2Proof/Machine/Routing.lean ====
section
/-!
DEFINITION. Routing and allocation (chapter 6): the decision (R108 to R110), WRITE_ROUTE, SWAP_GROUP, READ_ROUTES,
READ_RUNOUT and CLEAR_RUNOUT.
-/

namespace Sys2Proof.Machine

/-! ## The decision (R108 to R110) -/

/-- The sum that is held within the capacity: inventory count plus allocated count (R109). -/
def Stack.bound (x : Stack) : Nat := x.inventory.length + x.allocated

/-- A stack may be taken at a decision (R109). -/
def Stack.eligible (x : Stack) : Bool := decide (x.state = .opened) && decide (x.bound < x.capacity)

/-- The two choices of a class in their order (R108). -/
def routeChoices (c : SheetClass) (s : State) : List (Option StackId) :=
  let r := s.routing.routes[c.code]
  if s.routing.swaps[r.group] then [r.alternate, r.primary] else [r.primary, r.alternate]

/-- The stack a decision takes: the first choice that is eligible (R108). -/
def decideStack (c : SheetClass) (s : State) : Option StackId :=
  ((routeChoices c s).filterMap id).find? fun k => (s.stack k).eligible

/-- A stack taken at a decision: its allocated count rises, and STACK_FULL tells of one now full (R110). -/
def allocate (k : StackId) (s : State) : State :=
  let x := s.stack k
  (s.setStack k { x with allocated := x.allocated + 1 }).raiseIf (decide (x.bound + 1 = x.capacity)) .stackFull

/-! ## Requests -/

/-- WRITE ROUTE (R105). -/
def writeRoute (body : List Byte) (s : State) : Reply :=
  if body.length ≠ 3 then refuse s .badRequest
  else match classOf (byteAt body 0), stackOrNone (byteAt body 1 % 16), stackOrNone (byteAt body 1 / 16),
      groupOf (byteAt body 2) with
    | some c, some p, some a, some g =>
      okReply (s.setRouting { s.routing with
        routes := s.routing.routes.set c.val { primary := p, alternate := a, group := g } c.isLt }) []
    | _, _, _, _ => refuse s .badValue

def serveWriteRoute (p : Port) (tag : Byte) (body : List Byte) (s : State) : Result :=
  serve Code.writeRoute p tag (writeRoute body) s

/-- SWAP GROUP (R106). -/
def swapGroup (body : List Byte) (s : State) : Reply :=
  if body.length ≠ 2 then refuse s .badRequest
  else match groupOf (byteAt body 0), yesNo (byteAt body 1) with
    | some g, some on =>
      okReply (s.setRouting { s.routing with swaps := s.routing.swaps.set g.val on g.isLt }) [bBool s.routing.swaps[g]]
    | _, _ => refuse s .badValue

def serveSwapGroup (p : Port) (tag : Byte) (body : List Byte) (s : State) : Result :=
  serve Code.swapGroup p tag (swapGroup body) s

/-- The two bytes of a route (R192). -/
def Route.bytes (r : Route) : List Byte :=
  [b8 (stackNibble r.primary + 16 * stackNibble r.alternate), b8 r.group.val]

/-- The swap states, bit g for group g (R192). -/
def swapByte (v : Vector Bool 4) : Byte := b8 (v[0].toNat + 2 * v[1].toNat + 4 * v[2].toNat + 8 * v[3].toNat)

/-- READ ROUTES (R107). -/
def readRoutes (body : List Byte) (s : State) : Reply :=
  if body.length ≠ 0 then refuse s .badRequest
  else okReply s (s.routing.routes.toList.flatMap Route.bytes ++ [swapByte s.routing.swaps])

def serveReadRoutes (p : Port) (tag : Byte) (body : List Byte) (s : State) : Result :=
  serve Code.readRoutes p tag (readRoutes body) s

/-- READ RUNOUT (R114). -/
def readRunout (body : List Byte) (s : State) : Reply :=
  if body.length ≠ 0 then refuse s .badRequest else okReply s (b16 s.routing.runOut)

def serveReadRunout (p : Port) (tag : Byte) (body : List Byte) (s : State) : Result :=
  serve Code.readRunout p tag (readRunout body) s

/-- CLEAR RUNOUT (R115). -/
def clearRunout (body : List Byte) (s : State) : Reply :=
  if body.length ≠ 0 then refuse s .badRequest
  else okReply (s.setRouting { s.routing with runOut := 0 }) (b16 s.routing.runOut)

def serveClearRunout (p : Port) (tag : Byte) (body : List Byte) (s : State) : Result :=
  serve Code.clearRunout p tag (clearRunout body) s

end Sys2Proof.Machine
end

