-- ==== Sys2Proof/Machine/Stacks.lean ====
section
/-!
DEFINITION. Stacks (chapter 7): the stack requests (R119 to R122, R124), LANDING (R128) and MISSED_LANDING (R129).
-/

namespace Sys2Proof.Machine

/-! ## Stack states (R119, R120) -/

/-- A request whose one-byte body names a stack: the body length, then the stack code (R119, R120). -/
def onStack (body : List Byte) (s : State) (f : StackId → Reply) : Reply :=
  if body.length ≠ 1 then refuse s .badRequest
  else match stackOf (byteAt body 0) with
    | none => refuse s .badValue
    | some k => f k

/-- OPEN STACK (R119). -/
def openStack (body : List Byte) (s : State) : Reply :=
  onStack body s fun k =>
    if (s.stack k).state = .faulted then refuse s .wrongState
    else okReply (((StackEvent.of s).setState k .opened).settle) [b8 (s.stack k).state.code]

def serveOpenStack (p : Port) (tag : Byte) (body : List Byte) (s : State) : Result :=
  serve Code.openStack p tag (openStack body) s

/-- DRAIN STACK (R119). -/
def drainStack (body : List Byte) (s : State) : Reply :=
  onStack body s fun k =>
    if (s.stack k).state = .faulted then refuse s .wrongState
    else okReply ((((StackEvent.of s).setState k .drain).drainClose k).settle) [b8 (s.stack k).state.code]

def serveDrainStack (p : Port) (tag : Byte) (body : List Byte) (s : State) : Result :=
  serve Code.drainStack p tag (drainStack body) s

/-- CLOSE STACK (R119). -/
def closeStack (body : List Byte) (s : State) : Reply :=
  onStack body s fun k =>
    if (s.stack k).state = .faulted then refuse s .wrongState
    else okReply (((StackEvent.of s).setState k .closed).settle) [b8 (s.stack k).state.code]

def serveCloseStack (p : Port) (tag : Byte) (body : List Byte) (s : State) : Result :=
  serve Code.closeStack p tag (closeStack body) s

/-- CLEAR STACK FAULT (R120). -/
def clearStackFault (body : List Byte) (s : State) : Reply :=
  onStack body s fun k =>
    if (s.stack k).state ≠ .faulted then refuse s .wrongState
    else okReply (((StackEvent.of s).setState k .closed).settle) []

def serveClearStackFault (p : Port) (tag : Byte) (body : List Byte) (s : State) : Result :=
  serve Code.clearStackFault p tag (clearStackFault body) s

/-- CLEAR STACK: the records of the inventory are discarded (R120, R39). -/
def clearStack (body : List Byte) (s : State) : Reply :=
  onStack body s fun k =>
    let x := s.stack k
    if x.state ≠ .closed ∨ x.holder.isSome then refuse s .wrongState
    else okReply ((s.abandonAll x.inventory).setStack k { x with inventory := [] }) (b16 x.inventory.length)

def serveClearStack (p : Port) (tag : Byte) (body : List Byte) (s : State) : Result :=
  serve Code.clearStack p tag (clearStack body) s

/-! ## Capacity and access (R121, R122) -/

/-- SET STACK CAPACITY (R121). -/
def setStackCapacity (body : List Byte) (s : State) : Reply :=
  if body.length ≠ 3 then refuse s .badRequest
  else match stackOf (byteAt body 0) with
    | none => refuse s .badValue
    | some k =>
      let x := s.stack k
      let c := wordAt body 1
      if c < 1 ∨ 400 < c ∨ c < x.bound then refuse s .badValue
      else okReply (s.setStack k { x with capacity := c }) (b16 x.capacity)

def serveSetStackCapacity (p : Port) (tag : Byte) (body : List Byte) (s : State) : Result :=
  serve Code.setStackCapacity p tag (setStackCapacity body) s

/-- A line taken out of the access mask that waits there is withdrawn and told to reselect (R122). -/
def StackEvent.removeLine (e : StackEvent) (k : StackId) (l : Line) : StackEvent :=
  let x := e.st.stack k
  if !x.access.get l && (x.waiters.get l).isSome then
    { st := leaveWaiters l k e.st, told := e.told.set l true, heard := e.heard }
  else e

/-- The access mask of a stack set (R122, R160). -/
def changeAccess (k : StackId) (m : PerLine Bool) (s : State) : State :=
  let e := (StackEvent.of (s.setStack k { s.stack k with access := m })).announce
  ((e.removeLine k .a).removeLine k .b).settle

/-- SET STACK ACCESS (R122). -/
def setStackAccess (body : List Byte) (s : State) : Reply :=
  if body.length ≠ 2 then refuse s .badRequest
  else match stackOf (byteAt body 0), accessOf (byteAt body 1) with
    | some k, some m => okReply (changeAccess k m s) [accessByte (s.stack k).access]
    | _, _ => refuse s .badValue

def serveSetStackAccess (p : Port) (tag : Byte) (body : List Byte) (s : State) : Result :=
  serve Code.setStackAccess p tag (setStackAccess body) s

/-! ## READ STACK (R124, R192) -/

/-- The place of a falling record in READ STACK: sheet number and time falling, or zeros (R192). -/
def fallingBytes : Option Falling → List Byte
  | none => zeros 4
  | some f => b16 f.sheet.number ++ b16 f.timer

/-- The answer body of READ STACK (R192). -/
def stackBytes (x : Stack) (offset count : Nat) : List Byte :=
  let listed := (x.inventory.drop offset).take count
  [b8 x.state.code] ++ b16 x.capacity ++ [accessByte x.access] ++ b16 x.inventory.length
    ++ [b8 x.allocated, b8 x.reservations, b8 x.falling.length]
    ++ fallingBytes x.falling[0]? ++ fallingBytes x.falling[1]?
    ++ [lineByte x.holder, accessByte ⟨x.waiters.a.isSome, x.waiters.b.isSome⟩, lineByte x.lastGrant, b8 listed.length]
    ++ listed.flatMap sheetBytes

/-- READ STACK (R124). -/
def readStack (body : List Byte) (s : State) : Reply :=
  if body.length ≠ 4 then refuse s .badRequest
  else match stackOf (byteAt body 0) with
    | none => refuse s .badValue
    | some k =>
      if 399 < wordAt body 1 ∨ 16 < byteAt body 3 then refuse s .badValue
      else okReply s (stackBytes (s.stack k) (wordAt body 1) (byteAt body 3))

def serveReadStack (p : Port) (tag : Byte) (body : List Byte) (s : State) : Result :=
  serve Code.readStack p tag (readStack body) s

/-! ## Landings (R128, R129) -/

/-- The oldest falling record pushed onto the inventory; the allocated count falls by one (R128, R129). -/
def pushFalling (k : StackId) (unconfirmed : Bool) (s : State) : State :=
  let x := s.stack k
  match x.falling with
  | [] => s
  | f :: rest =>
    let r := { f.sheet with flags := { f.sheet.flags with unconfirmed := f.sheet.flags.unconfirmed || unconfirmed } }
    s.setStack k { x with falling := rest, inventory := r :: x.inventory, allocated := x.allocated - 1 }

/-- A landing (R128): announced to the lines of the access mask (R160), then the grant check of R125. -/
def landOn (k : StackId) (s : State) : State :=
  (((StackEvent.of (pushFalling k false s)).announceTo (s.stack k).access).grantCheck k).settle

/-- LANDING (R128). -/
def execLanding (k : StackId) (s : State) : Result := event (landOn k) s

/-- The oldest falling record has reached the landing limit (R129). -/
def missedDue (k : StackId) (s : State) : Bool :=
  (s.stack k).falling.head?.any fun f => decide (s.sk.landingLimit ≤ f.timer)

/-- A falling record that has reached the landing limit is pushed UNCONFIRMED and the stack faults (R129). -/
def missLanding (k : StackId) (s : State) : State :=
  if missedDue k s then
    let t := ((pushFalling k true s).raise .missedLanding).raise .stackFault
    ((StackEvent.of t).setState k .faulted).settle
  else s

/-- MISSED_LANDING (R129). -/
def execMissedLanding (k : StackId) (s : State) : Result := event (missLanding k) s

end Sys2Proof.Machine
end

