-- ==== Sys2Proof/Machine/Tracking.lean ====
section
/-!
DEFINITION. Conveyor tracking (chapter 5): ENCODER_COUNT, the threshold events DECISION_POINT, APPROACH, GATE and
RUN_OUT (R89 to R96), CONV_RUN and the stall timer (R97, R98), TRACK_CLEAR and READ_TRACKING.
-/

namespace Sys2Proof.Machine

/-! ## Thresholds (R89) -/

/-- The gate distance of a stack. -/
def Geometry.gate (g : Geometry) (k : StackId) : Nat := g.gates[k]

/-- An entry stands at its decision point, not yet taken. -/
def decisionDue (g : Geometry) (e : TrackEntry) : Bool :=
  !e.decided && decide (e.drop = .noDrop) && e.distance == g.decision

/-- An ALLOCATED entry stands at its approach point: its gate distance minus the window. -/
def approachDue (g : Geometry) (e : TrackEntry) : Bool :=
  decide (e.drop = .allocated) && e.stack.any fun k => e.distance + g.window == g.gate k

/-- A RESERVED entry stands at its gate. -/
def gateDue (g : Geometry) (e : TrackEntry) : Bool :=
  decide (e.drop = .reserved) && e.stack.any fun k => e.distance == g.gate k

/-- An entry with no drop ahead stands at the run-out. -/
def runOutDue (g : Geometry) (e : TrackEntry) : Bool :=
  (decide (e.drop = .noDrop) || decide (e.drop = .abandoned)) && e.distance == g.runOut

/-! ## The events of an entry. `p` picks the entry: the oldest that satisfies it. -/

/-- The sheet record of an entry decided while PENDING: REGRADE with LATE (R91). -/
def SheetRecord.madeLate (r : SheetRecord) : SheetRecord :=
  { r with cls := some .regrade, flags := { r.flags with late := true } }

/-- The class an entry is routed by (R91). -/
def TrackEntry.fixedClass (e : TrackEntry) : SheetClass := e.sheet.cls.getD .regrade

/-- The entry after its decision, with the stack routing chose or none (R91). -/
def TrackEntry.decidedBy (e : TrackEntry) (stack : Option StackId) : TrackEntry :=
  { e with sheet := if e.sheet.cls.isNone then e.sheet.madeLate else e.sheet, stack := stack,
           drop := if stack.isSome then .allocated else .noDrop, decided := true }

/-- The decision point of the oldest entry that satisfies `p` (R91, R108). -/
def takeDecision (p : TrackEntry → Bool) (s : State) : State :=
  match s.tracking.queue.find? p with
  | none => s
  | some e =>
    let choice := decideStack e.fixedClass s
    let late := e.sheet.cls.isNone
    let t := (if late then s.abandon e.sheet false else s).setQueue
      (updateFirst p (fun e => e.decidedBy choice) s.tracking.queue)
    let u := t.raiseIf late .gradeLate
    match choice with
    | none => u
    | some k => allocate k u

/-- The approach of the oldest entry that satisfies `p`: it reserves its stack top (R93, R126). -/
def takeApproach (p : TrackEntry → Bool) (s : State) : State :=
  match (s.tracking.queue.find? p).bind (·.stack) with
  | none => s
  | some k =>
    let t := s.setQueue (updateFirst p (fun e => { e with drop := .reserved }) s.tracking.queue)
    t.setStack k { t.stack k with reservations := (t.stack k).reservations + 1 }

/-- The stack top fires a drop offered to it (R94). -/
def firesDrop (k : StackId) (s : State) : Bool :=
  (s.stack k).holder.isNone && (s.stack k).serving && !s.estop
    && decide ((s.stack k).falling.length < Config.fallingCapacity)

/-- The gate fires: one pulse of GATEn, the reservation released, the record falling (R94, R127). -/
def fireDrop (p : TrackEntry → Bool) (e : TrackEntry) (k : StackId) (s : State) : State :=
  let x := s.stack k
  let t := (s.setQueue (dropFirst p s.tracking.queue)).setStack k
    { x with reservations := x.reservations - 1, falling := x.falling ++ [{ sheet := e.sheet, timer := 0 }] }
  t.setSk { t.sk with gatePulses := t.sk.gatePulses.set k.val (t.sk.gatePulses[k] + 1) k.isLt }

/-- The drop is abandoned: reservation and allocation released, DROP_ABANDONED raised (R95); the stack in DRAIN may
close and the freed top be offered (R118, R125). -/
def abandonDrop (p : TrackEntry → Bool) (k : StackId) (s : State) : State :=
  let x := s.stack k
  let t := (s.setQueue (updateFirst p (fun e => { e with drop := .abandoned }) s.tracking.queue)).setStack k
    { x with reservations := x.reservations - 1, allocated := x.allocated - 1 }
  (((StackEvent.of (t.raise .dropAbandoned)).drainClose k).grantCheck k).settle

/-- The gate of the oldest entry that satisfies `p` (R94, R95). -/
def takeGate (p : TrackEntry → Bool) (s : State) : State :=
  match s.tracking.queue.find? p with
  | none => s
  | some e =>
    match e.stack with
    | none => s
    | some k => if firesDrop k s then fireDrop p e k s else abandonDrop p k s

/-- The run-out of the oldest entry that satisfies `p`: its record is discarded (R96). Where the walk of its abandoned
grading is still in flight, the walk goes on and the discard ends the record's hold of its root slot (R39, assumption 12). -/
def takeRunOut (p : TrackEntry → Bool) (s : State) : State :=
  match s.tracking.queue.find? p with
  | none => s
  | some e => ((s.abandon e.sheet true).setQueue (dropFirst p s.tracking.queue)).countRunOut

/-- Tracking is RUNNING. -/
def State.tracks (s : State) : Bool := decide (s.tracking.state = .running)

/-- A threshold event commanded for a sheet: taken by the oldest entry of that sheet number for which it is due; in
FAULTED none is taken (R98). -/
def commanded (due : Geometry → TrackEntry → Bool) (take : (TrackEntry → Bool) → State → State) (n : Nat) (s : State) :
    State :=
  if s.tracks then take (fun e => decide (e.sheet.number = n) && due s.tracking.geometry e) s else s

/-- DECISION_POINT (R91). -/
def execDecisionPoint (n : Nat) (s : State) : Result := event (commanded decisionDue takeDecision n) s

/-- APPROACH (R93). -/
def execApproach (n : Nat) (s : State) : Result := event (commanded approachDue takeApproach n) s

/-- GATE (R94, R95). -/
def execGate (n : Nat) (s : State) : Result := event (commanded gateDue takeGate n) s

/-- RUN_OUT (R96). -/
def execRunOut (n : Nat) (s : State) : Result := event (commanded runOutDue takeRunOut n) s

/-! ## The encoder (R88) -/

/-- The four threshold events of R89. -/
inductive Threshold where
  | decision | approach | gate | runOut
  deriving DecidableEq, Repr

/-- The threshold event an entry owes at the present count, if any. -/
def TrackEntry.owes (g : Geometry) (e : TrackEntry) : Option Threshold :=
  if decisionDue g e then some .decision
  else if approachDue g e then some .approach
  else if gateDue g e then some .gate
  else if runOutDue g e then some .runOut
  else none

/-- The entries that owe a threshold event at the present count, oldest first. -/
def owing (s : State) : List TrackEntry := s.tracking.queue.filter fun e => (e.owes s.tracking.geometry).isSome

/-- The threshold event an entry owes is taken. -/
def takeOwedBy (e : TrackEntry) (s : State) : State :=
  let p := fun x => decide (x = e)
  match e.owes s.tracking.geometry with
  | some .decision => takeDecision p s
  | some .approach => takeApproach p s
  | some .gate => takeGate p s
  | some .runOut => takeRunOut p s
  | none => s

/-- A threshold event still owed at the count on which it fell is taken, if there is one; which of several is a free
value (assumptions 4 and 27). -/
def takeOwed (s : State) : State :=
  match owing s with
  | [] => s
  | [e] => takeOwedBy e s
  | e :: f :: es =>
    let l := e :: f :: es
    takeOwedBy (l[Config.owedFirst s.choices % l.length]?.getD e) { s with choices := s.choices + 1 }

/-- Every threshold event owed at the present count: an entry owes at most two, approach and gate (R89). -/
def takeAllOwed (s : State) : State := iterate takeOwed (2 * s.tracking.queue.length) s

/-- The stall timer restarted from 0 if it runs (R97). -/
def Tracking.restartStall (x : Tracking) : Tracking := { x with stallTimer := x.stallTimer.map fun _ => 0 }

/-- Every entry moved by one millimetre (R88). -/
def moveEntries (s : State) : State :=
  let moved := s.tracking.queue.map fun e => { e with distance := e.distance + 1 }
  s.setTracking { s.tracking.restartStall with queue := moved }

/-- ENCODER_COUNT (R88): what the count before still owes is taken first (assumption 4), then every entry moves. -/
def execEncoderCount (s : State) : Result :=
  event (fun s => if s.tracks then moveEntries (takeAllOwed s) else s) s

/-! ## CONV_RUN and the encoder stall (R97, R98) -/

/-- The stall timer started from 0 if tracking is RUNNING, CONV_RUN asserted and the limit not 0 (R97). -/
def startStall (s : State) : State :=
  if s.tracks && s.pins.convRun && s.tracking.stallLimit != 0 then
    s.setTracking { s.tracking with stallTimer := some 0 }
  else s

/-- CONV_RUN_ASSERT (R97). The level is a pin's, so it is followed while RESET_N is held. -/
def execConvRunAssert (s : State) : Result :=
  if s.pins.convRun then .next s
  else
    let t := s.setPins { s.pins with convRun := true }
    .next (if s.pins.resetHeld then t else startStall t)

/-- CONV_RUN_DEASSERT (R97). -/
def execConvRunDeassert (s : State) : Result :=
  let t := s.setPins { s.pins with convRun := false }
  .next (t.setTracking { t.tracking with stallTimer := none })

/-- The stall timer runs and has reached the stall limit (R97). -/
def stallDue (s : State) : Bool :=
  s.tracks && s.tracking.stallTimer.any fun t => s.tracking.stallLimit != 0 && decide (s.tracking.stallLimit ≤ t)

/-- One reservation of the entry's stack released (R98, R100, R126). -/
def releaseReservation (e : TrackEntry) (s : State) : State :=
  match e.drop, e.stack with
  | .reserved, some k => s.setStack k { s.stack k with reservations := (s.stack k).reservations - 1 }
  | _, _ => s

/-- The reservation and the allocation an entry holds released (R100). -/
def releaseClaims (e : TrackEntry) (s : State) : State :=
  match e.drop, e.stack with
  | .allocated, some k => s.setStack k { s.stack k with allocated := (s.stack k).allocated - 1 }
  | .reserved, some k =>
    s.setStack k { s.stack k with reservations := (s.stack k).reservations - 1, allocated := (s.stack k).allocated - 1 }
  | _, _ => s

/-- The stacks on which some entry of the queue holds a reservation. -/
def reservedStacks (q : List TrackEntry) : List StackId :=
  allStacks.filter fun k => q.any fun e => decide (e.drop = .reserved) && decide (e.stack = some k)

/-- The stacks on which some entry of the queue holds an allocation. -/
def allocatedStacks (q : List TrackEntry) : List StackId :=
  allStacks.filter fun k =>
    q.any fun e => (decide (e.drop = .allocated) || decide (e.drop = .reserved)) && decide (e.stack = some k)

/-- An encoder stall (R98): FAULTED, reservations released, entries kept; the freed tops are offered (R125). -/
def takeStall (s : State) : State :=
  let q := s.tracking.queue
  let t := q.foldl (fun s e => releaseReservation e s) s
  let u := t.setTracking { t.tracking with
    state := .faulted, stallTimer := none,
    queue := q.map fun e => if e.drop = .reserved then { e with drop := .allocated } else e }
  ((reservedStacks q).foldl StackEvent.grantCheck (StackEvent.of (u.raise .encoderStall))).settle

/-- ENCODER_STALL (R98). -/
def execEncoderStall (s : State) : Result := event (fun s => if stallDue s then takeStall s else s) s

/-! ## TRACK CLEAR and READ TRACKING (R100, R101) -/

/-- The tracking queue emptied and tracking RUNNING (R100): claims released, gradings abandoned, stacks in DRAIN closed,
freed tops offered. -/
def clearTracking (s : State) : State :=
  let q := s.tracking.queue
  let t := q.foldl (fun s e => releaseClaims e s) (s.abandonAll (q.map (·.sheet)))
  let u := startStall (t.setTracking { t.tracking with state := .running, queue := [] })
  let e := (allocatedStacks q).foldl StackEvent.drainClose (StackEvent.of u)
  ((reservedStacks q).foldl StackEvent.grantCheck e).settle

/-- TRACK CLEAR (R100). -/
def trackClear (body : List Byte) (s : State) : Reply :=
  if body.length ≠ 0 then refuse s .badRequest
  else okReply (clearTracking s) [b8 s.tracking.queue.length, b8 s.tracking.state.code]

def serveTrackClear (p : Port) (tag : Byte) (body : List Byte) (s : State) : Result :=
  serve Code.trackClear p tag (trackClear body) s

/-- READ TRACKING (R101): up to 8 entries from the start position. -/
def readTracking (body : List Byte) (s : State) : Reply :=
  if body.length ≠ 1 then refuse s .badRequest
  else if 31 < byteAt body 0 then refuse s .badValue
  else
    let q := s.tracking.queue
    let listed := (q.drop (byteAt body 0)).take 8
    okReply s ([b8 s.tracking.state.code, b8 q.length, b8 listed.length] ++ listed.flatMap trackBytes)

def serveReadTracking (p : Port) (tag : Byte) (body : List Byte) (s : State) : Result :=
  serve Code.readTracking p tag (readTracking body) s

end Sys2Proof.Machine
end

