-- ==== Sys2Proof/Machine/Parameters.lean ====
section
/-!
DEFINITION. The parameters (R182, R190): their values, ranges and owners, and what a change applies at once (R10, R87,
R99, R130, R133, R157).
-/

namespace Sys2Proof.Machine

/-- The parameters of the part (section 10.5). -/
inductive Param where
  | ageLimit | decision | window | gate (stack : StackId) | runOut | stallLimit | landingLimit | priority | pickLimit
  | starveLimit
  deriving DecidableEq, Repr

/-- The parameter an id names (R190). -/
def paramOf (id : Nat) : Option Param :=
  if id = 0x01 then some .ageLimit
  else if id = 0x10 then some .decision
  else if id = 0x11 then some .window
  else if id = 0x1C then some .runOut
  else if id = 0x1D then some .stallLimit
  else if id = 0x20 then some .landingLimit
  else if id = 0x21 then some .priority
  else if id = 0x30 then some .pickLimit
  else if id = 0x31 then some .starveLimit
  else if 0x12 ≤ id then (stackOf (id - 0x12)).map .gate
  else none

/-- The parameter's value as it stands. -/
def Param.value (q : Param) (s : State) : Nat :=
  match q with
  | .ageLimit => s.intake.ageLimit
  | .decision => s.tracking.geometry.decision
  | .window => s.tracking.geometry.window
  | .gate k => s.tracking.geometry.gate k
  | .runOut => s.tracking.geometry.runOut
  | .stallLimit => s.tracking.stallLimit
  | .landingLimit => s.sk.landingLimit
  | .priority => s.sk.priority.code
  | .pickLimit => s.lines.pickLimit
  | .starveLimit => s.lines.starveLimit

/-- The least and the greatest value of a parameter (R10, R86, R99, R130, R133, R157). -/
def Param.range : Param → Nat × Nat
  | .ageLimit => (100, 60000)
  | .decision => (100, 20000)
  | .window => (0, 2000)
  | .gate _ => (100, 30000)
  | .runOut => (100, 32000)
  | .stallLimit => (0, 5000)
  | .landingLimit => (50, 2000)
  | .priority => (0, 2)
  | .pickLimit => (200, 20000)
  | .starveLimit => (0, 60000)

def Param.inRange (q : Param) (v : Nat) : Bool := decide (q.range.1 ≤ v) && decide (v ≤ q.range.2)

/-! ## The geometry (R86, R87) -/

/-- A geometry as a whole is valid (R86). -/
def Geometry.valid (g : Geometry) : Bool :=
  (g.gates.toList.zip (g.gates.toList.drop 1)).all (fun p => decide (p.1 < p.2))
    && g.gates.toList.all (fun x => decide (g.decision + g.window < x))
    && decide (g.gate 9 < g.runOut)

/-- The geometry with one gate distance changed. -/
def Geometry.withGate (g : Geometry) (k : StackId) (v : Nat) : Geometry :=
  { g with gates := g.gates.set k.val v k.isLt }

/-- The geometry replaced. -/
def State.setGeometry (s : State) (g : Geometry) : State := s.setTracking { s.tracking with geometry := g }

/-- The geometry with one value changed, if the parameter is a geometry parameter. -/
def Param.geometry (q : Param) (v : Nat) (g : Geometry) : Option Geometry :=
  match q with
  | .decision => some { g with decision := v }
  | .window => some { g with window := v }
  | .gate k => some (g.withGate k v)
  | .runOut => some { g with runOut := v }
  | .ageLimit => none
  | .stallLimit => none
  | .landingLimit => none
  | .priority => none
  | .pickLimit => none
  | .starveLimit => none

/-! ## What a change applies at once -/

/-- The head record of a lane expires if it is due. -/
def expireDue (lane : Lane) (s : State) : State := if expiryDue lane s then expireHead lane s else s

/-- Every record of a lane that is due expires, oldest first (R10). -/
def expireAll (lane : Lane) (s : State) : State := iterate (expireDue lane) (s.lane lane).queue.length s

/-- A new record age limit (R10): lane 1 and lane 2, each oldest first. -/
def setAgeLimit (v : Nat) (s : State) : State :=
  expireAll .lane2 (expireAll .lane1 (s.setIntake { s.intake with ageLimit := v }))

/-- A new stall limit (R97, R99). -/
def setStallLimit (v : Nat) (s : State) : State :=
  let t := s.setTracking { s.tracking with stallLimit := v }
  if v = 0 then t.setTracking { t.tracking with stallTimer := none }
  else if s.tracking.stallLimit = 0 then startStall t
  else if stallDue t then takeStall t
  else t

/-- The falling records of a stack that are due are settled, oldest first (R129, R130). -/
def settleFalling (s : State) (k : StackId) : State := iterate (missLanding k) (s.stack k).falling.length s

/-- A new landing limit (R130); the stacks in number order (assumption 20). -/
def setLandingLimit (v : Nat) (s : State) : State :=
  allStacks.foldl settleFalling (s.setSk { s.sk with landingLimit := v })

/-- A new pick limit (R157, R164); line A before line B (assumption 20). -/
def setPickLimit (v : Nat) (s : State) : State :=
  timeOutPick .b (timeOutPick .a (s.setLines { s.lines with pickLimit := v }))

/-- A new starve limit (R157, R160); line A before line B (assumption 20). -/
def setStarveLimit (v : Nat) (s : State) : State :=
  noticeStarved .b (noticeStarved .a (s.setLines { s.lines with starveLimit := v }))

/-- A parameter set to a value it may take (R182). -/
def Param.apply (q : Param) (v : Nat) (s : State) : State :=
  match q with
  | .ageLimit => setAgeLimit v s
  | .stallLimit => setStallLimit v s
  | .landingLimit => setLandingLimit v s
  | .priority => s.setSk { s.sk with priority := (priorityOf v).getD .rotating }
  | .pickLimit => setPickLimit v s
  | .starveLimit => setStarveLimit v s
  | .decision => s.setGeometry { s.tracking.geometry with decision := v }
  | .window => s.setGeometry { s.tracking.geometry with window := v }
  | .gate k => s.setGeometry (s.tracking.geometry.withGate k v)
  | .runOut => s.setGeometry { s.tracking.geometry with runOut := v }

/-- SET PARAMETER (R182; R87 for the geometry). -/
def setParameter (body : List Byte) (s : State) : Reply :=
  if body.length ≠ 3 then refuse s .badRequest
  else match paramOf (byteAt body 0) with
    | none => refuse s .badValue
    | some q =>
      let v := wordAt body 1
      let done := okReply (q.apply v s) (b16 (q.value s))
      if ¬ q.inRange v then refuse s .badValue
      else match q.geometry v s.tracking.geometry with
        | none => done
        | some g =>
          if ¬ s.tracking.queue.isEmpty then refuse s .wrongState
          else if ¬ g.valid then refuse s .badValue
          else done

def serveSetParameter (p : Port) (tag : Byte) (body : List Byte) (s : State) : Result :=
  serve Code.setParameter p tag (setParameter body) s

/-- GET PARAMETER (R182). -/
def getParameter (body : List Byte) (s : State) : Reply :=
  if body.length ≠ 1 then refuse s .badRequest
  else match paramOf (byteAt body 0) with
    | none => refuse s .badValue
    | some q => okReply s (b16 (q.value s))

def serveGetParameter (p : Port) (tag : Byte) (body : List Byte) (s : State) : Result :=
  serve Code.getParameter p tag (getParameter body) s

end Sys2Proof.Machine
end

