-- ==== Sys2Proof/Machine/TableRequests.lean ====
section
/-!
DEFINITION. The requests of the rule tables and the rule caches: the port path queue and its accesses (R51,
PORT_ACCESS_GRANT), the cell requests (R55 to R58), PROBE PATH (R59, R60), LOCK PATHS (R75 to R78), the root slot requests
(R47 to R49), SET CACHE MODE, PURGE CACHE and READ CACHE (R70, R79, R82).
-/

namespace Sys2Proof.Machine

/-! ## PROBE PATH (R59, R60) -/

/-- Where a probe comes to without another access. -/
inductive ProbeNext where
  | wait (run : ProbeRun)
  | done (report : ProbeReport)
  deriving DecidableEq, Repr

/-- Step 3 of a probe (R59). A path level that does not resolve has path source none (R60, assumption 29). -/
def probePathLevel (x : RuleCache) (a : ProbeArgs) (d : Descriptor) (r : ProbeReport) (c : SpeciesCopy) (k : Nat) :
    ProbeNext :=
  match if a.useCache then x.lookupPath d a.code c.content k else none with
  | some p => .done { r with pathSource := .cache, thickCell := some p.thickCell, limitOrigin := some p.lim1Cell }
  | none =>
    match beginPath c.content k with
    | .error f => .done { r with fault := some f }
    | .ok w => .wait { descriptor := d, report := r, walk := w }

/-- Steps 2 and 3 of a probe (R59). -/
def probeClass (x : RuleCache) (a : ProbeArgs) (d : Descriptor) (r : ProbeReport) (c : SpeciesCopy) : ProbeNext :=
  match thicknessClass a.thickness c.content with
  | .error f => .done { r with fault := some f }
  | .ok k => probePathLevel x a d { r with index := some k } c k

/-- A probe taken: its descriptor copy and its first lookup (R51, R59). -/
def probeBegin (x : RuleCache) (a : ProbeArgs) (root : Option Descriptor) : ProbeNext :=
  match root with
  | none => .done { fault := some .noRoot }
  | some d =>
    match if a.useCache then x.lookupSpecies d a.code else none with
    | some c => probeClass x a d { speciesSource := .cache, speciesCell := some c.cell } c
    | none =>
      match beginSpecies (some d) a.code with
      | .error f => .done { fault := some f }
      | .ok w => .wait { descriptor := d, report := {}, walk := w }

/-- The report of a probe whose walk has read its next cell (R60). -/
def ProbeReport.reading (r : ProbeReport) (w : Walk) : ProbeReport :=
  match w with
  | .species c => { r with speciesCell := some c, accesses := r.accesses + 1 }
  | .thickness c => { r with thickCell := some c, accesses := r.accesses + 1 }
  | .limits1 _ _ c => { r with limitOrigin := some c, accesses := r.accesses + 1 }
  | .limits2 _ _ _ _ _ => { r with accesses := r.accesses + 1 }

/-- A probe whose waiting read has been granted and read `cell`; `x` is its unit's cache as it stands (R59, R60).
That a walk of the path level which ends with a fault reports path source none is the model's choice (assumption 29). -/
def probeFeed (x : RuleCache) (a : ProbeArgs) (run : ProbeRun) (cell : Cell16) : ProbeNext :=
  let r := run.report.reading run.walk
  match run.walk.feed cell with
  | .more w => .wait { run with report := r, walk := w }
  | .fault f => .done { r with fault := some f }
  | .species c => probeClass x a run.descriptor { r with speciesSource := .walk } c
  | .path _ => .done { r with pathSource := .walk }

/-! ## LOCK PATHS (R75 to R78) -/

/-- Where a LOCK PATHS comes to without another access. -/
inductive LockNext where
  | wait (run : LockRun)
  | done (results : List LockResult)
  deriving DecidableEq, Repr

/-- The paths to come are begun in order; those whose species walk faults before any access end at once (R52, R76). -/
def lockOn (d : Option Descriptor) : List LockResult → List (Nat × Nat) → LockNext
  | rs, [] => .done rs
  | rs, (code, index) :: rest =>
    match beginSpecies d code with
    | .error f => lockOn d (rs ++ [.fault f]) rest
    | .ok w =>
      .wait { descriptor := d.getD ⟨0, 0, false⟩, results := rs, code := code, index := index, rest := rest,
              species := none, walk := w }

/-- The path in work ends with a result, and the next ones are begun. -/
def LockRun.ends (run : LockRun) (r : LockResult) : LockNext :=
  lockOn (some run.descriptor) (run.results ++ [r]) run.rest

/-- The path level of the path in work is begun, after the tests R77 makes in place of stage 2. -/
def LockRun.beginPathLevel (run : LockRun) (c : SpeciesCopy) : LockNext :=
  if ¬ classesExist c.content then run.ends (.fault .format)
  else if ¬ run.index < c.content.classCount then run.ends (.fault .thicknessRange)
  else match beginPath c.content run.index with
    | .error f => run.ends (.fault f)
    | .ok w => .wait { run with species := some c, walk := w }

/-- LOCKED: both entries of the path's tags are present, locked (R77); in a mode other than SPLIT, NOT_LOCKED (R78). -/
def lockResult (x : RuleCache) (species path : EntryTag) : LockResult :=
  if x.mode = .split ∧ x.hasLocked species ∧ x.hasLocked path then .locked else .notLocked

/-- A LOCK PATHS whose waiting read has been granted and read `cell`, with the cache it forms in (R76, R77). -/
def lockFeed (x : RuleCache) (run : LockRun) (cell : Cell16) : RuleCache × LockNext :=
  match run.walk.feed cell with
  | .more w => (x, .wait { run with walk := w })
  | .fault f => (x, run.ends (.fault f))
  | .species c => (x.lockEntry (speciesBody run.descriptor run.code c), run.beginPathLevel c)
  | .path p =>
    match run.species with
    | none => (x, run.ends .notLocked)
    | some c =>
      let b := pathBody c.content run.index p
      let y := x.lockEntry b
      (y, run.ends (lockResult y (speciesBody run.descriptor run.code c).tag b.tag))

/-! ## The port path queue (R51) -/

/-- The request at the head is answered and leaves the queue; its port has no request pending any more (R176). -/
def answerHead (q : PathRequest) (rest : List PathRequest) (st : Status) (body : List Byte) (s : State) : State :=
  let t := s.setTables { s.tables with portPath := rest }
  (t.setPort q.port { t.port q.port with pending := none }).answer q.port q.code q.tag st body

/-- The work of the request at the head goes on with another access to wait for. -/
def keepHead (q : PathRequest) (rest : List PathRequest) (w : TableWork) (s : State) : State :=
  s.setTables { s.tables with portPath := { q with work := w } :: rest }

/-- A PROBE PATH or LOCK PATHS that has reached the head is taken; one that needs no access is answered, and the next
reaches the head (R51). `fuel` is the length of the queue. -/
def takeHead : Nat → State → State
  | 0, s => s
  | fuel + 1, s =>
    match s.tables.portPath with
    | [] => s
    | q :: rest =>
      match q.work with
      | .probe a none =>
        match probeBegin (s.cache a.unit) a (s.tables.roots.get a.slot) with
        | .wait run => keepHead q rest (.probe a (some run)) s
        | .done r => takeHead fuel (answerHead q rest .ok (probeBytes r) s)
      | .lock a none =>
        let t := s.setCache a.unit ((s.cache a.unit).setMode .split)
        match lockOn (s.tables.roots.get a.slot) [] a.paths with
        | .wait run => keepHead q rest (.lock a (some run)) t
        | .done rs => takeHead fuel (answerHead q rest .ok (lockBytes rs) t)
      | .probe _ (some _) => s
      | .lock _ (some _) => s
      | .write _ _ => s
      | .read _ => s
      | .replace _ _ _ _ => s
      | .invalidate _ _ => s

/-- The head is answered and the next request reaches the head. -/
def leaveHead (q : PathRequest) (rest : List PathRequest) (st : Status) (body : List Byte) (s : State) : State :=
  takeHead rest.length (answerHead q rest st body s)

/-- A request that passed its checks joins the queue at its tail and stays its port's pending request (R51). -/
def joinPath (q : PathRequest) (s : State) : State :=
  let t := s.setPort q.port { s.port q.port with pending := some { code := q.code, tag := q.tag } }
  takeHead (s.tables.portPath.length + 1) (t.setTables { t.tables with portPath := t.tables.portPath ++ [q] })

/-- A table request received: refused, BUSY, or handed to the port path (R51, R176, R177). -/
def serveTable (code : Byte) (p : Port) (tag : Byte) (check : Except Status TableWork) (s : State) : Result :=
  if s.pins.resetHeld then .next s
  else
    let t := s.hunt p
    if (t.port p).pending.isSome then .next (t.answer p code tag .busy [])
    else match check with
      | .error st => .next (t.answer p code tag st [])
      | .ok w => .next (joinPath { port := p, code := code, tag := tag, work := w } t)

/-! ## Accesses of the port path (R50, R51) -/

/-- The cell the request at the head waits to access. -/
def TableWork.cell : TableWork → Option Nat
  | .write n _ => some n
  | .read n => some n
  | .replace n _ _ _ => some n
  | .invalidate n _ => some n
  | .probe _ run => run.map (·.walk.next)
  | .lock _ run => run.map (·.walk.next)

/-- A cell of table memory replaced whole. -/
def State.writeCell (s : State) (n : Nat) (x : Cell16) : State :=
  s.setTables { s.tables with mem := s.tables.mem.setCell n x }

/-- A cell edited, with the purge of the copies made from it in a scope (R57, R58, R80). -/
def State.editCell (s : State) (n : Nat) (x : Cell16) (scope : Scope) : State :=
  (s.writeCell n x).onCaches scope fun c => c.purgedOf n

/-- The access of the request at the head, granted, on the cell content `x` as it stands (R55 to R59, R76). -/
def pathAccess (q : PathRequest) (rest : List PathRequest) (x : Cell16) (s : State) : State :=
  match q.work with
  | .write n content => leaveHead q rest .ok [] (s.writeCell n content)
  | .read _ => leaveHead q rest .ok x.toList s
  | .replace n expected new scope =>
    if x = expected then leaveHead q rest .ok [] (s.editCell n new scope)
    else leaveHead q rest .mismatch x.toList s
  | .invalidate n scope =>
    if x.isSpecies || x.isThickness then leaveHead q rest .ok [bBool x.valid] (s.editCell n x.invalidated scope)
    else leaveHead q rest .wrongLevel [] s
  | .probe a (some run) =>
    match probeFeed (s.cache a.unit) a run x with
    | .wait run => keepHead q rest (.probe a (some run)) s
    | .done r => leaveHead q rest .ok (probeBytes r) s
  | .lock a (some run) =>
    match lockFeed (s.cache a.unit) run x with
    | (c, .wait run) => keepHead q rest (.lock a (some run)) (s.setCache a.unit c)
    | (c, .done rs) => leaveHead q rest .ok (lockBytes rs) (s.setCache a.unit c)
  | .probe _ none => s
  | .lock _ none => s

/-- PORT_ACCESS_GRANT: if the arbiter's next grant is the port path's, its access is made (R50, R51). -/
def execPortAccessGrant (s : State) : Result :=
  if s.pins.resetHeld ∨ arbiterNext s ≠ some .port then .next s
  else match s.tables.portPath with
    | [] => .next s
    | q :: rest =>
      match q.work.cell with
      | none => .next s
      | some n =>
        match accessCell s n with
        | .error f => .fault f
        | .ok x => .next (pathAccess q rest x (s.granted .port))

/-! ## Cell requests (R55 to R58) -/

/-- The cell number at the start of a body names a cell. -/
def cellOk (body : List Byte) : Bool := wordAt body 0 < Config.cellCount

def checkWriteCell (body : List Byte) : Except Status TableWork :=
  if body.length ≠ 18 then .error .badRequest
  else if ¬ cellOk body ∨ ¬ tagOk body 2 then .error .badValue
  else .ok (.write (wordAt body 0) (cellAt body 2))

/-- WRITE CELL (R55). -/
def serveWriteCell (p : Port) (tag : Byte) (body : List Byte) (s : State) : Result :=
  serveTable Code.writeCell p tag (checkWriteCell body) s

def checkReadCell (body : List Byte) : Except Status TableWork :=
  if body.length ≠ 2 then .error .badRequest
  else if ¬ cellOk body then .error .badValue
  else .ok (.read (wordAt body 0))

/-- READ CELL (R56). -/
def serveReadCell (p : Port) (tag : Byte) (body : List Byte) (s : State) : Result :=
  serveTable Code.readCell p tag (checkReadCell body) s

def checkReplaceCell (body : List Byte) : Except Status TableWork :=
  if body.length ≠ 35 then .error .badRequest
  else if ¬ cellOk body ∨ ¬ tagOk body 2 ∨ ¬ tagOk body 18 then .error .badValue
  else match scopeOf (byteAt body 34) with
    | none => .error .badValue
    | some scope => .ok (.replace (wordAt body 0) (cellAt body 2) (cellAt body 18) scope)

/-- REPLACE CELL (R57). -/
def serveReplaceCell (p : Port) (tag : Byte) (body : List Byte) (s : State) : Result :=
  serveTable Code.replaceCell p tag (checkReplaceCell body) s

def checkInvalidateCell (body : List Byte) : Except Status TableWork :=
  if body.length ≠ 3 then .error .badRequest
  else if ¬ cellOk body then .error .badValue
  else match scopeOf (byteAt body 2) with
    | none => .error .badValue
    | some scope => .ok (.invalidate (wordAt body 0) scope)

/-- INVALIDATE CELL (R58). -/
def serveInvalidateCell (p : Port) (tag : Byte) (body : List Byte) (s : State) : Result :=
  serveTable Code.invalidateCell p tag (checkInvalidateCell body) s

/-- A thickness a PROBE PATH may give: absent, or 0 to 9999 (R59). -/
def probeThickness (n : Nat) : Option (Option Nat) :=
  if n = 0xFFFF then some none else if n ≤ 9999 then some (some n) else none

def checkProbePath (body : List Byte) : Except Status TableWork :=
  if body.length ≠ 6 then .error .badRequest
  else if ¬ byteAt body 1 ≤ 15 then .error .badValue
  else match slotOf (byteAt body 0), probeThickness (wordAt body 2), unitOf (byteAt body 4), yesNo (byteAt body 5) with
    | some slot, some thickness, some unit, some useCache =>
      .ok (.probe { slot := slot, code := byteAt body 1, thickness := thickness, unit := unit, useCache := useCache } none)
    | _, _, _, _ => .error .badValue

/-- PROBE PATH (R59). -/
def serveProbePath (p : Port) (tag : Byte) (body : List Byte) (s : State) : Result :=
  serveTable Code.probePath p tag (checkProbePath body) s

/-- `n` paths of a LOCK PATHS body from offset `off`: species code, then thickness index (R191). -/
def pathsAt (body : List Byte) (off : Nat) : Nat → List (Nat × Nat)
  | 0 => []
  | n + 1 => (byteAt body off, byteAt body (off + 1)) :: pathsAt body (off + 2) n

def checkLockPaths (body : List Byte) : Except Status TableWork :=
  if body.length < 3 ∨ body.length ≠ 3 + 2 * byteAt body 2 then .error .badRequest
  else
    let paths := pathsAt body 3 (byteAt body 2)
    if byteAt body 2 < 1 ∨ 8 < byteAt body 2 ∨ paths.any (fun p => decide (15 < p.1) || decide (7 < p.2)) then
      .error .badValue
    else match unitOf (byteAt body 0), slotOf (byteAt body 1) with
      | some unit, some slot => .ok (.lock { unit := unit, slot := slot, paths := paths } none)
      | _, _ => .error .badValue

/-- LOCK PATHS (R75). -/
def serveLockPaths (p : Port) (tag : Byte) (body : List Byte) (s : State) : Result :=
  serveTable Code.lockPaths p tag (checkLockPaths body) s

/-! ## Root slots (R47 to R49) -/

/-- The descriptor a WRITE ROOT body gives, or none for an absent slot (R47, R191). -/
def descriptorAt (body : List Byte) : Option Descriptor :=
  if (byteAt body 1).testBit 0 then
    some { origin := wordAt body 2, count := byteAt body 4, isolated := (byteAt body 1).testBit 1 }
  else none

/-- A present descriptor whose species count is outside 1 to 16 (R47, check 3). -/
def badCount (d : Option Descriptor) : Bool := d.any fun d => decide (d.count < 1) || decide (16 < d.count)

/-- A root slot's content replaced whole. -/
def State.setRoot (s : State) (k : Slot) (d : Option Descriptor) : State :=
  s.setTables { s.tables with roots := s.tables.roots.set k d }

/-- WRITE ROOT (R47). -/
def writeRoot (body : List Byte) (s : State) : Reply :=
  if body.length ≠ 5 then refuse s .badRequest
  else match slotOf (byteAt body 0) with
    | none => refuse s .badValue
    | some k =>
      if badCount (descriptorAt body) then refuse s .badValue
      else if s.intake.current = k ∨ slotInUse k s then refuse s .inUse
      else okReply (s.setRoot k (descriptorAt body)) []

def serveWriteRoot (p : Port) (tag : Byte) (body : List Byte) (s : State) : Result :=
  serve Code.writeRoot p tag (writeRoot body) s

/-- CHANGEOVER (R48). -/
def changeover (body : List Byte) (s : State) : Reply :=
  let k := otherSlot s.intake.current
  if body.length ≠ 0 then refuse s .badRequest
  else if (s.tables.roots.get k).isNone then refuse s .wrongState
  else okReply (s.setIntake { s.intake with current := k }) [b8 k.code]

def serveChangeover (p : Port) (tag : Byte) (body : List Byte) (s : State) : Result :=
  serve Code.changeover p tag (changeover body) s

/-- The four bytes of a root slot in READ ROOTS (R192); the fields an absent descriptor has not are free (assumption
11). -/
def rootBytes (k : Slot) (d : Option Descriptor) (inUse : Bool) : List Byte :=
  match d with
  | some d => b8 (1 + 2 * d.isolated.toNat + 4 * inUse.toNat) :: b16 d.origin ++ [b8 d.count]
  | none =>
    let free := Config.absentRootByte k.code
    [(free 0 &&& 2) ||| b8 (4 * inUse.toNat), free 1, free 2, free 3]

/-- READ ROOTS (R49). -/
def readRoots (body : List Byte) (s : State) : Reply :=
  if body.length ≠ 0 then refuse s .badRequest
  else okReply s (rootBytes .slot0 s.tables.roots.slot0 (slotInUse .slot0 s)
    ++ rootBytes .slot1 s.tables.roots.slot1 (slotInUse .slot1 s) ++ [b8 s.intake.current.code])

def serveReadRoots (p : Port) (tag : Byte) (body : List Byte) (s : State) : Result :=
  serve Code.readRoots p tag (readRoots body) s

/-! ## Cache requests (R70, R79, R82) -/

/-- A byte for each cache: a value of the cache, or FFh where the scope does not name it (R192). -/
def scopedByte (s : State) (scope : Scope) (u : Lane) (f : RuleCache → Nat) : Byte :=
  if scope.names u then b8 (f (s.cache u)) else 0xFF

/-- SET CACHE MODE (R70). -/
def setCacheMode (body : List Byte) (s : State) : Reply :=
  if body.length ≠ 2 then refuse s .badRequest
  else match scopeOf (byteAt body 0), cacheModeOf (byteAt body 1) with
    | some scope, some m =>
      let old := fun c : RuleCache => c.mode.code
      okReply (s.onCaches scope fun c => c.setMode m) [scopedByte s scope .lane1 old, scopedByte s scope .lane2 old]
    | _, _ => refuse s .badValue

def serveSetCacheMode (p : Port) (tag : Byte) (body : List Byte) (s : State) : Result :=
  serve Code.setCacheMode p tag (setCacheMode body) s

/-- PURGE CACHE (R79). -/
def purgeCache (body : List Byte) (s : State) : Reply :=
  if body.length ≠ 2 then refuse s .badRequest
  else match scopeOf (byteAt body 0), yesNo (byteAt body 1) with
    | some scope, some keep =>
      let removed := fun c : RuleCache => c.entries.length - (c.purged keep).entries.length
      let buffered := fun c : RuleCache => c.buffer.length
      okReply (s.onCaches scope fun c => c.purged keep)
        [scopedByte s scope .lane1 removed, scopedByte s scope .lane1 buffered,
         scopedByte s scope .lane2 removed, scopedByte s scope .lane2 buffered]
    | _, _ => refuse s .badValue

def servePurgeCache (p : Port) (tag : Byte) (body : List Byte) (s : State) : Result :=
  serve Code.purgeCache p tag (purgeCache body) s

/-- The items READ CACHE lists from a start position: up to three (R82). -/
def RuleCache.listed (c : RuleCache) (start : Nat) : List (List Byte) :=
  match c.mode with
  | .off => ((c.buffer.drop start).take 3).map bufferBytes
  | .normal => ((c.entries.drop start).take 3).map entryBytes
  | .split => ((c.entries.drop start).take 3).map entryBytes

/-- READ CACHE (R82). -/
def readCache (body : List Byte) (s : State) : Reply :=
  if body.length ≠ 2 then refuse s .badRequest
  else match unitOf (byteAt body 0) with
    | none => refuse s .badValue
    | some u =>
      if 15 < byteAt body 1 then refuse s .badValue
      else
        let c := s.cache u
        let items := c.listed (byteAt body 1)
        okReply s ([b8 c.mode.code, b8 c.entries.length, b8 c.lockedCount, b8 c.buffer.length, b8 items.length]
          ++ items.flatten)

def serveReadCache (p : Port) (tag : Byte) (body : List Byte) (s : State) : Result :=
  serve Code.readCache p tag (readCache body) s

end Sys2Proof.Machine
end

