-- ==== Sys2Proof/Machine/Ports.lean ====
section
/-!
DEFINITION. Station ports (chapter 10): the notice requests (R180, R181), frames and bytes received (R174 to R177), the
transmitter (R178), the emergency stop (R135, R155, R165, R179) and reset (R183).
-/

namespace Sys2Proof.Machine

/-! ## Notice requests (R180, R181) -/

/-- READ NOTICES (R180). -/
def readNotices (p : Port) (body : List Byte) (s : State) : Reply :=
  if body.length ≠ 0 then refuse s .badRequest
  else okReply s (b32 (s.port p).notices ++ b32 (s.port p).mask ++ [bBool s.estop])

def serveReadNotices (p : Port) (tag : Byte) (body : List Byte) (s : State) : Result :=
  serve Code.readNotices p tag (readNotices p body) s

/-- ACK NOTICES (R180). -/
def ackNotices (p : Port) (body : List Byte) (s : State) : Reply :=
  if body.length ≠ 4 then refuse s .badRequest
  else
    let left := acknowledged (s.port p).notices (maskAt body 0) s.estop
    okReply (s.setPort p { s.port p with notices := left }) (b32 left)

def serveAckNotices (p : Port) (tag : Byte) (body : List Byte) (s : State) : Result :=
  serve Code.ackNotices p tag (ackNotices p body) s

/-- SET NOTICE MASK (R181). -/
def setNoticeMask (p : Port) (body : List Byte) (s : State) : Reply :=
  if body.length ≠ 4 then refuse s .badRequest
  else okReply (s.setPort p { s.port p with mask := maskAt body 0 }) (b32 (s.port p).mask)

def serveSetNoticeMask (p : Port) (tag : Byte) (body : List Byte) (s : State) : Result :=
  serve Code.setNoticeMask p tag (setNoticeMask p body) s

/-! ## Frames (R175 to R177) -/

/-- A frame with a code that names no request is answered BAD_REQUEST, or BUSY (R177). -/
def refuseUnknown (p : Port) (code tag : Byte) (s : State) : Result :=
  serve code p tag (fun t => refuse t .badRequest) s

/-- A frame whose CRC word agrees is dealt with by its code (R176, R177, R185). -/
def frameReceived (p : Port) (code tag : Byte) (body : List Byte) (s : State) : Result :=
  if code = Code.readNotices then serveReadNotices p tag body s
  else if code = Code.ackNotices then serveAckNotices p tag body s
  else if code = Code.setNoticeMask then serveSetNoticeMask p tag body s
  else if code = Code.setParameter then serveSetParameter p tag body s
  else if code = Code.getParameter then serveGetParameter p tag body s
  else if code = Code.submitSheet then serveSubmitSheet p tag body s
  else if code = Code.laneResync then serveLaneResync p tag body s
  else if code = Code.readIntake then serveReadIntake p tag body s
  else if code = Code.writeCell then serveWriteCell p tag body s
  else if code = Code.readCell then serveReadCell p tag body s
  else if code = Code.replaceCell then serveReplaceCell p tag body s
  else if code = Code.invalidateCell then serveInvalidateCell p tag body s
  else if code = Code.writeRoot then serveWriteRoot p tag body s
  else if code = Code.changeover then serveChangeover p tag body s
  else if code = Code.readRoots then serveReadRoots p tag body s
  else if code = Code.probePath then serveProbePath p tag body s
  else if code = Code.setCacheMode then serveSetCacheMode p tag body s
  else if code = Code.lockPaths then serveLockPaths p tag body s
  else if code = Code.purgeCache then servePurgeCache p tag body s
  else if code = Code.readCache then serveReadCache p tag body s
  else if code = Code.trackClear then serveTrackClear p tag body s
  else if code = Code.readTracking then serveReadTracking p tag body s
  else if code = Code.writeRoute then serveWriteRoute p tag body s
  else if code = Code.swapGroup then serveSwapGroup p tag body s
  else if code = Code.readRoutes then serveReadRoutes p tag body s
  else if code = Code.readRunout then serveReadRunout p tag body s
  else if code = Code.clearRunout then serveClearRunout p tag body s
  else if code = Code.openStack then serveOpenStack p tag body s
  else if code = Code.drainStack then serveDrainStack p tag body s
  else if code = Code.closeStack then serveCloseStack p tag body s
  else if code = Code.clearStackFault then serveClearStackFault p tag body s
  else if code = Code.clearStack then serveClearStack p tag body s
  else if code = Code.setStackCapacity then serveSetStackCapacity p tag body s
  else if code = Code.setStackAccess then serveSetStackAccess p tag body s
  else if code = Code.readStack then serveReadStack p tag body s
  else if code = Code.setLineMode then serveSetLineMode p tag body s
  else if code = Code.setLineExec then serveSetLineExec p tag body s
  else if code = Code.writeSteps then serveWriteSteps p tag body s
  else if code = Code.readSteps then serveReadSteps p tag body s
  else if code = Code.setStepPointer then serveSetStepPointer p tag body s
  else if code = Code.clearLineFault then serveClearLineFault p tag body s
  else if code = Code.readLineStatus then serveReadLineStatus p tag body s
  else if code = Code.signalLine then serveSignalLine p tag body s
  else if code = Code.draw then serveDraw p tag body s
  else if code = Code.cancelDraw then serveCancelDraw p tag body s
  else if code = Code.closePanel then serveClosePanel p tag body s
  else if code = Code.takePanel then serveTakePanel p tag body s
  else if code = Code.peekPanel then servePeekPanel p tag body s
  else refuseUnknown p code tag s

/-- A complete frame: received if its CRC word agrees, discarded silently otherwise (R175). -/
def frameComplete (p : Port) (code tag : Byte) (body : List Byte) (crc : BitVec 16) (s : State) : Result :=
  if s.pins.resetHeld then .next s
  else if crc = requestCrc code tag body then frameReceived p code tag body s
  else .next (s.hunt p)

/-! ## Bytes (R174) -/

/-- A byte received while HUNTING (R174). -/
def huntByte (b : Byte) : Receiver := if b = 0xA5 then .receiving [] 0 else .hunting

/-- The two bytes of a received CRC word at offset `k` of a frame's bytes. -/
def crcAt (bytes : List Byte) (k : Nat) : BitVec 16 := BitVec.ofNat 16 (wordAt bytes k)

/-- The receiver left as it is now. -/
def State.receive (s : State) (p : Port) (r : Receiver) : State := s.setPort p { s.port p with receiver := r }

/-- A byte taken into the frame whose bytes after the lead byte are `bytes` (R174). -/
def frameByte (p : Port) (bytes : List Byte) (b : Byte) (s : State) : Result :=
  let all := bytes ++ [b]
  let n := byteAt all 0
  if Config.maxBody < n then .next (s.receive p .hunting)
  else if all.length < n + 5 then .next (s.receive p (.receiving all 0))
  else frameComplete p (b8 (byteAt all 1)) (b8 (byteAt all 2)) ((all.drop 3).take n) (crcAt all (n + 3)) s

/-- A byte on RX (R174); bytes are discarded while RESET_N is held (R183). -/
def receiveByte (p : Port) (b : Byte) (s : State) : Result :=
  if s.pins.resetHeld then .next s
  else match (s.port p).receiver with
    | .hunting => .next (s.receive p (huntByte b))
    | .receiving bytes gap =>
      if Config.byteGapLimit < gap then .next (s.receive p (huntByte b)) else frameByte p bytes b s

/-- Bytes on RX, one after the other with no gap between them (R174). -/
def receiveBytes (p : Port) : List Byte → State → Result
  | [], s => .next s
  | b :: bs, s =>
    match receiveByte p b s with
    | .next t => receiveBytes p bs t
    | .fault f => .fault f
    | .refused r => .refused r

/-- The bytes of a request frame, in the order in which they are sent (R175, R185). -/
def frameBytes (code tag : Byte) (body : List Byte) (crc : BitVec 16) : List Byte :=
  0xA5 :: b8 body.length :: code :: tag :: body ++ crcBytes crc

/-- The port is in the middle of a frame: RECEIVING, with no more than 50 ms since its last byte (R174). -/
def State.midFrame (s : State) (p : Port) : Bool :=
  match (s.port p).receiver with
  | .hunting => false
  | .receiving _ gap => decide (gap ≤ Config.byteGapLimit)

/-- The bytes of a whole frame on RX. In the middle of another frame they are that frame's data, counted by its length;
otherwise they are the frame, and `taken` is what becomes of it (R174, assumption 3). -/
def onLink (p : Port) (bytes : List Byte) (taken : State → Result) (s : State) : Result :=
  if s.midFrame p then receiveBytes p bytes s else taken s

/-- More than 50 ms have passed since the last byte of a partial frame (R174). -/
def gapDue (x : PortState) : Bool :=
  match x.receiver with
  | .hunting => false
  | .receiving _ gap => decide (Config.byteGapLimit < gap)

/-- BYTE_GAP_TIMEOUT (R174). -/
def execByteGapTimeout (p : Port) (s : State) : Result :=
  event (fun s => if gapDue (s.port p) then s.hunt p else s) s

/-! ## The transmitter (R178) -/

/-- The frame being sent has been sent: the oldest waiting one follows (R178). -/
def PortState.sent (x : PortState) : PortState :=
  match x.sending with
  | none => x
  | some _ => { x with sending := x.waiting.head?, waiting := x.waiting.tail }

/-- ANSWER_SENT (R178). -/
def execAnswerSent (p : Port) (s : State) : Result := event (fun s => s.setPort p (s.port p).sent) s

/-! ## The emergency stop (R135, R155, R165, R179) -/

/-- A pick in flight aborted at its stack top: the holder is cleared, the inventory unchanged (R135). -/
def abortPick (l : Line) (s : State) : State :=
  match heldStack (s.line l) with
  | none => s
  | some k => clearPick l k s

/-- A line's response to the assertion of ESTOP_N (R155, R165). -/
def estopLine (l : Line) (s : State) : State :=
  let t := withdrawLine l (abortPick l s)
  match (s.line l).activity, (s.line l).mode with
  | .fault, _ => s
  | .stopping, _ => enterOff l (reportDraw l .aborted t)
  | _, .run => t.setLine l { (t.line l).stood with exec := .hold }
  | _, .direct =>
    if (s.line l).draw.isSome then
      let u := reportDraw l .aborted t
      u.setLine l (u.line l).stood
    else s
  | _, .off => s
  | _, .load => s

/-- The assertion of ESTOP_N: E-STOP in force, ESTOP raised, both lines stopped (R135, R155, R165, R179). -/
def assertEstop (s : State) : State :=
  let t := s.setPins { s.pins with estop := true }
  if s.pins.resetHeld then t else estopLine .b (estopLine .a (t.raise .estop))

/-- ESTOP_ASSERT (R179): an edge, so nothing while asserted already. -/
def execEstopAssert (s : State) : Result := .next (if s.pins.estop then s else assertEstop s)

/-- ESTOP_RELEASE (R179). -/
def execEstopRelease (s : State) : Result := .next (s.setPins { s.pins with estop := false })

/-! ## Reset (R183) -/

/-- RESET_N: every block, port and parameter returns to its reset state; the other input levels are the pins' own, and
commands that wait go on waiting (R20, R41, R61, R83, R103, R116, R136, R156, R173, R183). -/
def execResetN (s : State) : Result :=
  .next { State.reset with
    pins := { s.pins with resetHeld := true }, choices := s.choices, pending := s.pending }

/-- The release of RESET_N: ESTOP is raised if ESTOP_N is asserted, and the stall timer starts if CONV_RUN is (R97, R103,
R183). -/
def releaseReset (s : State) : State :=
  startStall ((s.setPins { s.pins with resetHeld := false }).raiseIf s.pins.estop .estop)

/-- RESET_N_RELEASE (R183). -/
def execResetNRelease (s : State) : Result := .next (if s.pins.resetHeld then releaseReset s else s)

end Sys2Proof.Machine
end

