-- ==== Sys2Proof/Machine/Reception.lean ====
section
/-!
DEFINITION. Reception (R174 to R177): what each request command, a frame of an unknown code, a frame with a CRC word that
disagrees and a single byte do at the receiver of their port.
-/

namespace Sys2Proof.Machine

/-- A request frame with a CRC word that agrees comes on RX; `taken` is its meaning once it is received (R174 to R176). -/
def receiveRequest (code : Byte) (p : Port) (tag : Byte) (body : List Byte) (taken : State → Result) (s : State) :
    Result :=
  onLink p (frameBytes code tag body (requestCrc code tag body)) taken s

/-! ## Notices and ports (chapter 10) -/

def execReadNotices (p : Port) (tag : Byte) (body : List Byte) (s : State) : Result :=
  receiveRequest Code.readNotices p tag body (serveReadNotices p tag body) s

def execAckNotices (p : Port) (tag : Byte) (body : List Byte) (s : State) : Result :=
  receiveRequest Code.ackNotices p tag body (serveAckNotices p tag body) s

def execSetNoticeMask (p : Port) (tag : Byte) (body : List Byte) (s : State) : Result :=
  receiveRequest Code.setNoticeMask p tag body (serveSetNoticeMask p tag body) s

/-! ## Parameters (chapter 10) -/

def execSetParameter (p : Port) (tag : Byte) (body : List Byte) (s : State) : Result :=
  receiveRequest Code.setParameter p tag body (serveSetParameter p tag body) s

def execGetParameter (p : Port) (tag : Byte) (body : List Byte) (s : State) : Result :=
  receiveRequest Code.getParameter p tag body (serveGetParameter p tag body) s

/-! ## Sheet intake (chapter 1) -/

def execSubmitSheet (p : Port) (tag : Byte) (body : List Byte) (s : State) : Result :=
  receiveRequest Code.submitSheet p tag body (serveSubmitSheet p tag body) s

def execLaneResync (p : Port) (tag : Byte) (body : List Byte) (s : State) : Result :=
  receiveRequest Code.laneResync p tag body (serveLaneResync p tag body) s

def execReadIntake (p : Port) (tag : Byte) (body : List Byte) (s : State) : Result :=
  receiveRequest Code.readIntake p tag body (serveReadIntake p tag body) s

/-! ## Rule tables and caches (chapters 3 and 4) -/

def execWriteCell (p : Port) (tag : Byte) (body : List Byte) (s : State) : Result :=
  receiveRequest Code.writeCell p tag body (serveWriteCell p tag body) s

def execReadCell (p : Port) (tag : Byte) (body : List Byte) (s : State) : Result :=
  receiveRequest Code.readCell p tag body (serveReadCell p tag body) s

def execReplaceCell (p : Port) (tag : Byte) (body : List Byte) (s : State) : Result :=
  receiveRequest Code.replaceCell p tag body (serveReplaceCell p tag body) s

def execInvalidateCell (p : Port) (tag : Byte) (body : List Byte) (s : State) : Result :=
  receiveRequest Code.invalidateCell p tag body (serveInvalidateCell p tag body) s

def execProbePath (p : Port) (tag : Byte) (body : List Byte) (s : State) : Result :=
  receiveRequest Code.probePath p tag body (serveProbePath p tag body) s

def execLockPaths (p : Port) (tag : Byte) (body : List Byte) (s : State) : Result :=
  receiveRequest Code.lockPaths p tag body (serveLockPaths p tag body) s

def execWriteRoot (p : Port) (tag : Byte) (body : List Byte) (s : State) : Result :=
  receiveRequest Code.writeRoot p tag body (serveWriteRoot p tag body) s

def execChangeover (p : Port) (tag : Byte) (body : List Byte) (s : State) : Result :=
  receiveRequest Code.changeover p tag body (serveChangeover p tag body) s

def execReadRoots (p : Port) (tag : Byte) (body : List Byte) (s : State) : Result :=
  receiveRequest Code.readRoots p tag body (serveReadRoots p tag body) s

def execSetCacheMode (p : Port) (tag : Byte) (body : List Byte) (s : State) : Result :=
  receiveRequest Code.setCacheMode p tag body (serveSetCacheMode p tag body) s

def execPurgeCache (p : Port) (tag : Byte) (body : List Byte) (s : State) : Result :=
  receiveRequest Code.purgeCache p tag body (servePurgeCache p tag body) s

def execReadCache (p : Port) (tag : Byte) (body : List Byte) (s : State) : Result :=
  receiveRequest Code.readCache p tag body (serveReadCache p tag body) s

/-! ## Conveyor tracking (chapter 5) -/

def execTrackClear (p : Port) (tag : Byte) (body : List Byte) (s : State) : Result :=
  receiveRequest Code.trackClear p tag body (serveTrackClear p tag body) s

def execReadTracking (p : Port) (tag : Byte) (body : List Byte) (s : State) : Result :=
  receiveRequest Code.readTracking p tag body (serveReadTracking p tag body) s

/-! ## Routing and allocation (chapter 6) -/

def execWriteRoute (p : Port) (tag : Byte) (body : List Byte) (s : State) : Result :=
  receiveRequest Code.writeRoute p tag body (serveWriteRoute p tag body) s

def execSwapGroup (p : Port) (tag : Byte) (body : List Byte) (s : State) : Result :=
  receiveRequest Code.swapGroup p tag body (serveSwapGroup p tag body) s

def execReadRoutes (p : Port) (tag : Byte) (body : List Byte) (s : State) : Result :=
  receiveRequest Code.readRoutes p tag body (serveReadRoutes p tag body) s

def execReadRunout (p : Port) (tag : Byte) (body : List Byte) (s : State) : Result :=
  receiveRequest Code.readRunout p tag body (serveReadRunout p tag body) s

def execClearRunout (p : Port) (tag : Byte) (body : List Byte) (s : State) : Result :=
  receiveRequest Code.clearRunout p tag body (serveClearRunout p tag body) s

/-! ## Stacks (chapter 7) -/

def execOpenStack (p : Port) (tag : Byte) (body : List Byte) (s : State) : Result :=
  receiveRequest Code.openStack p tag body (serveOpenStack p tag body) s

def execDrainStack (p : Port) (tag : Byte) (body : List Byte) (s : State) : Result :=
  receiveRequest Code.drainStack p tag body (serveDrainStack p tag body) s

def execCloseStack (p : Port) (tag : Byte) (body : List Byte) (s : State) : Result :=
  receiveRequest Code.closeStack p tag body (serveCloseStack p tag body) s

def execClearStackFault (p : Port) (tag : Byte) (body : List Byte) (s : State) : Result :=
  receiveRequest Code.clearStackFault p tag body (serveClearStackFault p tag body) s

def execClearStack (p : Port) (tag : Byte) (body : List Byte) (s : State) : Result :=
  receiveRequest Code.clearStack p tag body (serveClearStack p tag body) s

def execSetStackCapacity (p : Port) (tag : Byte) (body : List Byte) (s : State) : Result :=
  receiveRequest Code.setStackCapacity p tag body (serveSetStackCapacity p tag body) s

def execSetStackAccess (p : Port) (tag : Byte) (body : List Byte) (s : State) : Result :=
  receiveRequest Code.setStackAccess p tag body (serveSetStackAccess p tag body) s

def execReadStack (p : Port) (tag : Byte) (body : List Byte) (s : State) : Result :=
  receiveRequest Code.readStack p tag body (serveReadStack p tag body) s

/-! ## Layup lines (chapters 8 and 9) -/

def execSetLineMode (p : Port) (tag : Byte) (body : List Byte) (s : State) : Result :=
  receiveRequest Code.setLineMode p tag body (serveSetLineMode p tag body) s

def execSetLineExec (p : Port) (tag : Byte) (body : List Byte) (s : State) : Result :=
  receiveRequest Code.setLineExec p tag body (serveSetLineExec p tag body) s

def execWriteSteps (p : Port) (tag : Byte) (body : List Byte) (s : State) : Result :=
  receiveRequest Code.writeSteps p tag body (serveWriteSteps p tag body) s

def execReadSteps (p : Port) (tag : Byte) (body : List Byte) (s : State) : Result :=
  receiveRequest Code.readSteps p tag body (serveReadSteps p tag body) s

def execSetStepPointer (p : Port) (tag : Byte) (body : List Byte) (s : State) : Result :=
  receiveRequest Code.setStepPointer p tag body (serveSetStepPointer p tag body) s

def execClearLineFault (p : Port) (tag : Byte) (body : List Byte) (s : State) : Result :=
  receiveRequest Code.clearLineFault p tag body (serveClearLineFault p tag body) s

def execReadLineStatus (p : Port) (tag : Byte) (body : List Byte) (s : State) : Result :=
  receiveRequest Code.readLineStatus p tag body (serveReadLineStatus p tag body) s

def execSignalLine (p : Port) (tag : Byte) (body : List Byte) (s : State) : Result :=
  receiveRequest Code.signalLine p tag body (serveSignalLine p tag body) s

def execDraw (p : Port) (tag : Byte) (body : List Byte) (s : State) : Result :=
  receiveRequest Code.draw p tag body (serveDraw p tag body) s

def execCancelDraw (p : Port) (tag : Byte) (body : List Byte) (s : State) : Result :=
  receiveRequest Code.cancelDraw p tag body (serveCancelDraw p tag body) s

def execClosePanel (p : Port) (tag : Byte) (body : List Byte) (s : State) : Result :=
  receiveRequest Code.closePanel p tag body (serveClosePanel p tag body) s

def execTakePanel (p : Port) (tag : Byte) (body : List Byte) (s : State) : Result :=
  receiveRequest Code.takePanel p tag body (serveTakePanel p tag body) s

def execPeekPanel (p : Port) (tag : Byte) (body : List Byte) (s : State) : Result :=
  receiveRequest Code.peekPanel p tag body (servePeekPanel p tag body) s

/-! ## Other frames, and bytes (R174, R175, R177) -/

/-- UNKNOWN_CODE: a received frame whose code names no request (R177). -/
def execUnknownCode (p : Port) (code tag : Byte) (body : List Byte) (s : State) : Result :=
  receiveRequest code p tag body (frameReceived p code tag body) s

/-- CRC_DISCARD: a complete frame whose CRC word disagrees (R175). -/
def execCrcDiscard (p : Port) (code tag : Byte) (body : List Byte) (crc : BitVec 16) (s : State) : Result :=
  onLink p (frameBytes code tag body crc) (frameComplete p code tag body crc) s

/-- LEAD_BYTE_WHILE_HUNTING: the byte A5h on RX (R174). Inside a frame it is data. -/
def execLeadByteWhileHunting (p : Port) (s : State) : Result := receiveByte p 0xA5 s

/-- LENGTH_ABOVE_250: the byte `length` on RX, where a frame's length byte is due (R174). -/
def execLengthAbove250 (p : Port) (length : Byte) (s : State) : Result := receiveByte p length s

end Sys2Proof.Machine
end

