-- ==== Sys2Proof/Machine/Timers.lean ====
section
/-!
DEFINITION. What the part does while no command waits: its timers advance by one millisecond, and the events that are
then due wait in the command queue (assumptions 2 and 17).
-/

namespace Sys2Proof.Machine

/-! ## One millisecond (R4, R9, R97, R127, R157, R160, R174) -/

/-- A running timer advanced. -/
def tickTimer (t : Option Nat) : Option Nat := t.map (· + 1)

def IntakeLane.tick (x : IntakeLane) : IntakeLane := { x with queue := x.queue.map fun e => { e with age := e.age + 1 } }

def Stack.tick (x : Stack) : Stack := { x with falling := x.falling.map fun f => { f with timer := f.timer + 1 } }

/-- The starve timer tells no times apart beyond the largest starve limit (assumption 17); a signal that comes later is not
given together with one taken before (assumption 30). -/
def LineState.tick (x : LineState) : LineState :=
  { x with pickTimer := tickTimer x.pickTimer, starveTimer := x.starveTimer.map fun t => min Config.starveHold (t + 1),
           emptied := false }

/-- The gap of a partial frame tells no times apart beyond 50 ms (assumption 17). -/
def PortState.tick (x : PortState) : PortState :=
  match x.receiver with
  | .hunting => x
  | .receiving bytes gap => { x with receiver := .receiving bytes (min (Config.byteGapLimit + 1) (gap + 1)) }

/-- Every timer of the part advanced by one millisecond. -/
def tick (s : State) : State :=
  { s with
    intake := { s.intake with lanes := ⟨s.intake.lanes.lane1.tick, s.intake.lanes.lane2.tick⟩ },
    tracking := { s.tracking with stallTimer := tickTimer s.tracking.stallTimer },
    sk := { s.sk with stack := s.sk.stack.map Stack.tick },
    lines := { s.lines with line := ⟨s.lines.line.a.tick, s.lines.line.b.tick⟩ },
    ports := ⟨s.ports.pg.tick, s.ports.pa.tick, s.ports.pb.tick⟩ }

/-! ## The events that are due -/

/-- A list of commands, if a condition holds. -/
def dueIf (cond : Bool) (cs : List Instr) : List Instr := if cond then cs else []

/-- The expiries due in a lane (R9). -/
def expiriesDue (lane : Lane) (s : State) : List Instr :=
  List.replicate ((s.lane lane).queue.countP fun e => decide (s.intake.ageLimit ≤ e.age)) (.recordExpired lane)

/-- The missed landings due on a stack (R129). -/
def missesDue (s : State) (k : StackId) : List Instr :=
  List.replicate ((s.stack k).falling.countP fun f => decide (s.sk.landingLimit ≤ f.timer)) (.missedLanding k)

/-- The access the arbiter grants next (R50). -/
def grantDue (s : State) : List Instr :=
  match arbiterNext s with
  | none => []
  | some .gu1 => [.guWalkRead .lane1]
  | some .gu2 => [.guWalkRead .lane2]
  | some .port => [.portAccessGrant]

/-- The steps that begin (R143); of two, which is first is a free value (assumption 9). -/
def beginsDue (s : State) : List Instr :=
  match stepDue .a s, stepDue .b s with
  | false, false => []
  | true, false => [.stepBegin .a]
  | false, true => [.stepBegin .b]
  | true, true =>
    if Config.lineAFirst s.choices then [.stepBegin .a, .stepBegin .b] else [.stepBegin .b, .stepBegin .a]

/-- Every event due, as the commands that take them. -/
def dueCommands (s : State) : List Instr :=
  expiriesDue .lane1 s ++ expiriesDue .lane2 s ++ dueIf (stallDue s) [.encoderStall] ++ allStacks.flatMap (missesDue s)
    ++ dueIf (pickTimeoutDue .a s) [.pickTimeout .a] ++ dueIf (pickTimeoutDue .b s) [.pickTimeout .b]
    ++ dueIf (starveDue .a s) [.lineStarved .a] ++ dueIf (starveDue .b s) [.lineStarved .b]
    ++ dueIf (gapDue (s.port .pg)) [.byteGapTimeout .pg] ++ dueIf (gapDue (s.port .pa)) [.byteGapTimeout .pa]
    ++ dueIf (gapDue (s.port .pb)) [.byteGapTimeout .pb] ++ grantDue s ++ beginsDue s

/-- The threshold events owed at the present count are taken, while tracking runs (R88, assumption 4). -/
def settleOwed (s : State) : State := if s.tracks then takeAllOwed s else s

/-- One idle step: what is owed is taken, a millisecond passes, and the events then due wait to be taken; nothing while
RESET_N is held. -/
def idle (s : State) : State :=
  if s.pins.resetHeld then s
  else
    let t := tick (settleOwed s)
    { t with pending := t.pending ++ dueCommands t, choices := t.choices + 1 }

end Sys2Proof.Machine
end

