-- ==== Sys2Proof/Machine/Dispatch.lean ====
section
/-!
DEFINITION. The dispatch: one arm per command, each one direct call of its meaning.
-/

namespace Sys2Proof.Machine

def exec (i : Instr) (s : State) : Host.Outcome State Fault Refusal :=
  match i with
  | .readNotices port tag body => Sys2Proof.Machine.execReadNotices port tag body s
  | .ackNotices port tag body => Sys2Proof.Machine.execAckNotices port tag body s
  | .setNoticeMask port tag body => Sys2Proof.Machine.execSetNoticeMask port tag body s
  | .setParameter port tag body => Sys2Proof.Machine.execSetParameter port tag body s
  | .getParameter port tag body => Sys2Proof.Machine.execGetParameter port tag body s
  | .submitSheet port tag body => Sys2Proof.Machine.execSubmitSheet port tag body s
  | .laneResync port tag body => Sys2Proof.Machine.execLaneResync port tag body s
  | .readIntake port tag body => Sys2Proof.Machine.execReadIntake port tag body s
  | .recordExpired lane => Sys2Proof.Machine.execRecordExpired lane s
  | .mergeEvent lane => Sys2Proof.Machine.execMergeEvent lane s
  | .guWalkRead unit => Sys2Proof.Machine.execGuWalkRead unit s
  | .portAccessGrant => Sys2Proof.Machine.execPortAccessGrant s
  | .writeCell port tag body => Sys2Proof.Machine.execWriteCell port tag body s
  | .readCell port tag body => Sys2Proof.Machine.execReadCell port tag body s
  | .replaceCell port tag body => Sys2Proof.Machine.execReplaceCell port tag body s
  | .invalidateCell port tag body => Sys2Proof.Machine.execInvalidateCell port tag body s
  | .writeRoot port tag body => Sys2Proof.Machine.execWriteRoot port tag body s
  | .changeover port tag body => Sys2Proof.Machine.execChangeover port tag body s
  | .readRoots port tag body => Sys2Proof.Machine.execReadRoots port tag body s
  | .probePath port tag body => Sys2Proof.Machine.execProbePath port tag body s
  | .setCacheMode port tag body => Sys2Proof.Machine.execSetCacheMode port tag body s
  | .lockPaths port tag body => Sys2Proof.Machine.execLockPaths port tag body s
  | .purgeCache port tag body => Sys2Proof.Machine.execPurgeCache port tag body s
  | .readCache port tag body => Sys2Proof.Machine.execReadCache port tag body s
  | .encoderCount => Sys2Proof.Machine.execEncoderCount s
  | .decisionPoint sheet => Sys2Proof.Machine.execDecisionPoint sheet s
  | .approach sheet => Sys2Proof.Machine.execApproach sheet s
  | .gate sheet => Sys2Proof.Machine.execGate sheet s
  | .runOut sheet => Sys2Proof.Machine.execRunOut sheet s
  | .convRunAssert => Sys2Proof.Machine.execConvRunAssert s
  | .convRunDeassert => Sys2Proof.Machine.execConvRunDeassert s
  | .encoderStall => Sys2Proof.Machine.execEncoderStall s
  | .trackClear port tag body => Sys2Proof.Machine.execTrackClear port tag body s
  | .readTracking port tag body => Sys2Proof.Machine.execReadTracking port tag body s
  | .writeRoute port tag body => Sys2Proof.Machine.execWriteRoute port tag body s
  | .swapGroup port tag body => Sys2Proof.Machine.execSwapGroup port tag body s
  | .readRoutes port tag body => Sys2Proof.Machine.execReadRoutes port tag body s
  | .readRunout port tag body => Sys2Proof.Machine.execReadRunout port tag body s
  | .clearRunout port tag body => Sys2Proof.Machine.execClearRunout port tag body s
  | .openStack port tag body => Sys2Proof.Machine.execOpenStack port tag body s
  | .drainStack port tag body => Sys2Proof.Machine.execDrainStack port tag body s
  | .closeStack port tag body => Sys2Proof.Machine.execCloseStack port tag body s
  | .clearStackFault port tag body => Sys2Proof.Machine.execClearStackFault port tag body s
  | .clearStack port tag body => Sys2Proof.Machine.execClearStack port tag body s
  | .setStackCapacity port tag body => Sys2Proof.Machine.execSetStackCapacity port tag body s
  | .setStackAccess port tag body => Sys2Proof.Machine.execSetStackAccess port tag body s
  | .readStack port tag body => Sys2Proof.Machine.execReadStack port tag body s
  | .landing stack => Sys2Proof.Machine.execLanding stack s
  | .missedLanding stack => Sys2Proof.Machine.execMissedLanding stack s
  | .lineStarved line => Sys2Proof.Machine.execLineStarved line s
  | .pickDone line => Sys2Proof.Machine.execPickDone line s
  | .pickEmpty line => Sys2Proof.Machine.execPickEmpty line s
  | .pickTimeout line => Sys2Proof.Machine.execPickTimeout line s
  | .setLineMode port tag body => Sys2Proof.Machine.execSetLineMode port tag body s
  | .setLineExec port tag body => Sys2Proof.Machine.execSetLineExec port tag body s
  | .writeSteps port tag body => Sys2Proof.Machine.execWriteSteps port tag body s
  | .readSteps port tag body => Sys2Proof.Machine.execReadSteps port tag body s
  | .setStepPointer port tag body => Sys2Proof.Machine.execSetStepPointer port tag body s
  | .clearLineFault port tag body => Sys2Proof.Machine.execClearLineFault port tag body s
  | .readLineStatus port tag body => Sys2Proof.Machine.execReadLineStatus port tag body s
  | .signalLine port tag body => Sys2Proof.Machine.execSignalLine port tag body s
  | .stepBegin line => Sys2Proof.Machine.execStepBegin line s
  | .draw port tag body => Sys2Proof.Machine.execDraw port tag body s
  | .cancelDraw port tag body => Sys2Proof.Machine.execCancelDraw port tag body s
  | .closePanel port tag body => Sys2Proof.Machine.execClosePanel port tag body s
  | .takePanel port tag body => Sys2Proof.Machine.execTakePanel port tag body s
  | .peekPanel port tag body => Sys2Proof.Machine.execPeekPanel port tag body s
  | .unknownCode port code tag body => Sys2Proof.Machine.execUnknownCode port code tag body s
  | .crcDiscard port code tag body crc => Sys2Proof.Machine.execCrcDiscard port code tag body crc s
  | .byteGapTimeout port => Sys2Proof.Machine.execByteGapTimeout port s
  | .answerSent port => Sys2Proof.Machine.execAnswerSent port s
  | .estopAssert => Sys2Proof.Machine.execEstopAssert s
  | .estopRelease => Sys2Proof.Machine.execEstopRelease s
  | .resetN => Sys2Proof.Machine.execResetN s
  | .leadByteWhileHunting port => Sys2Proof.Machine.execLeadByteWhileHunting port s
  | .lengthAbove250 port length => Sys2Proof.Machine.execLengthAbove250 port length s
  | .resetNRelease => Sys2Proof.Machine.execResetNRelease s

end Sys2Proof.Machine
end

