-- ==== Sys2Proof/Safety.lean ====
section
/-!
DEFINITION. The terms claims are made in: the frame a request command is, when a port takes it, what an answer leaves,
which parts a selection may change, and the invariants every step keeps.
-/

namespace Sys2Proof

/-! ## Frames -/

/-- A received frame: the port it came on, its code, its tag and its body (R185). -/
structure Frame where
  port : Port
  code : Byte
  tag  : Byte
  body : List Byte
  deriving DecidableEq, Repr

/-- The frame a command is, if it is a received frame (R175, R185). -/
def Instr.frame : Instr → Option Frame
  | .readNotices p t b => some ⟨p, Code.readNotices, t, b⟩
  | .ackNotices p t b => some ⟨p, Code.ackNotices, t, b⟩
  | .setNoticeMask p t b => some ⟨p, Code.setNoticeMask, t, b⟩
  | .setParameter p t b => some ⟨p, Code.setParameter, t, b⟩
  | .getParameter p t b => some ⟨p, Code.getParameter, t, b⟩
  | .submitSheet p t b => some ⟨p, Code.submitSheet, t, b⟩
  | .laneResync p t b => some ⟨p, Code.laneResync, t, b⟩
  | .readIntake p t b => some ⟨p, Code.readIntake, t, b⟩
  | .writeCell p t b => some ⟨p, Code.writeCell, t, b⟩
  | .readCell p t b => some ⟨p, Code.readCell, t, b⟩
  | .replaceCell p t b => some ⟨p, Code.replaceCell, t, b⟩
  | .invalidateCell p t b => some ⟨p, Code.invalidateCell, t, b⟩
  | .writeRoot p t b => some ⟨p, Code.writeRoot, t, b⟩
  | .changeover p t b => some ⟨p, Code.changeover, t, b⟩
  | .readRoots p t b => some ⟨p, Code.readRoots, t, b⟩
  | .probePath p t b => some ⟨p, Code.probePath, t, b⟩
  | .setCacheMode p t b => some ⟨p, Code.setCacheMode, t, b⟩
  | .lockPaths p t b => some ⟨p, Code.lockPaths, t, b⟩
  | .purgeCache p t b => some ⟨p, Code.purgeCache, t, b⟩
  | .readCache p t b => some ⟨p, Code.readCache, t, b⟩
  | .trackClear p t b => some ⟨p, Code.trackClear, t, b⟩
  | .readTracking p t b => some ⟨p, Code.readTracking, t, b⟩
  | .writeRoute p t b => some ⟨p, Code.writeRoute, t, b⟩
  | .swapGroup p t b => some ⟨p, Code.swapGroup, t, b⟩
  | .readRoutes p t b => some ⟨p, Code.readRoutes, t, b⟩
  | .readRunout p t b => some ⟨p, Code.readRunout, t, b⟩
  | .clearRunout p t b => some ⟨p, Code.clearRunout, t, b⟩
  | .openStack p t b => some ⟨p, Code.openStack, t, b⟩
  | .drainStack p t b => some ⟨p, Code.drainStack, t, b⟩
  | .closeStack p t b => some ⟨p, Code.closeStack, t, b⟩
  | .clearStackFault p t b => some ⟨p, Code.clearStackFault, t, b⟩
  | .clearStack p t b => some ⟨p, Code.clearStack, t, b⟩
  | .setStackCapacity p t b => some ⟨p, Code.setStackCapacity, t, b⟩
  | .setStackAccess p t b => some ⟨p, Code.setStackAccess, t, b⟩
  | .readStack p t b => some ⟨p, Code.readStack, t, b⟩
  | .setLineMode p t b => some ⟨p, Code.setLineMode, t, b⟩
  | .setLineExec p t b => some ⟨p, Code.setLineExec, t, b⟩
  | .writeSteps p t b => some ⟨p, Code.writeSteps, t, b⟩
  | .readSteps p t b => some ⟨p, Code.readSteps, t, b⟩
  | .setStepPointer p t b => some ⟨p, Code.setStepPointer, t, b⟩
  | .clearLineFault p t b => some ⟨p, Code.clearLineFault, t, b⟩
  | .readLineStatus p t b => some ⟨p, Code.readLineStatus, t, b⟩
  | .signalLine p t b => some ⟨p, Code.signalLine, t, b⟩
  | .draw p t b => some ⟨p, Code.draw, t, b⟩
  | .cancelDraw p t b => some ⟨p, Code.cancelDraw, t, b⟩
  | .closePanel p t b => some ⟨p, Code.closePanel, t, b⟩
  | .takePanel p t b => some ⟨p, Code.takePanel, t, b⟩
  | .peekPanel p t b => some ⟨p, Code.peekPanel, t, b⟩
  | .unknownCode p c t b => some ⟨p, c, t, b⟩
  | .crcDiscard _ _ _ _ _ | .recordExpired _ | .mergeEvent _ | .guWalkRead _ | .portAccessGrant | .encoderCount
  | .decisionPoint _ | .approach _ | .gate _ | .runOut _ | .convRunAssert | .convRunDeassert | .encoderStall
  | .landing _ | .missedLanding _ | .lineStarved _ | .pickDone _ | .pickEmpty _ | .pickTimeout _ | .stepBegin _
  | .byteGapTimeout _ | .answerSent _ | .estopAssert | .estopRelease | .resetN | .leadByteWhileHunting _
  | .lengthAbove250 _ _ | .resetNRelease => none

/-- The port a command comes in on or concerns, if any. -/
def Instr.port (i : Instr) : Option Port :=
  match i with
  | .crcDiscard p _ _ _ _ => some p
  | .byteGapTimeout p => some p
  | .answerSent p => some p
  | .leadByteWhileHunting p => some p
  | .lengthAbove250 p _ => some p
  | _ => i.frame.map (·.port)

/-- The line requests (R177). -/
def isLineRequest (code : Byte) : Bool :=
  [Code.setLineMode, Code.setLineExec, Code.writeSteps, Code.setStepPointer, Code.clearLineFault, Code.draw,
   Code.cancelDraw, Code.closePanel, Code.takePanel].contains code

/-- The requests that their own rules say change no state, and that are answered in the event that takes them. -/
def isReadRequest (code : Byte) : Bool :=
  [Code.readNotices, Code.getParameter, Code.readIntake, Code.readRoots, Code.readCache, Code.readTracking,
   Code.readRoutes, Code.readRunout, Code.readStack, Code.readSteps, Code.readLineStatus, Code.peekPanel].contains code

/-- The request bodies of one length, by that length (R191). -/
def fixedLengths : List (Nat × List Byte) :=
  [(0, [Code.readNotices, Code.changeover, Code.readRoots, Code.trackClear, Code.readRoutes, Code.readRunout,
        Code.clearRunout]),
   (1, [Code.getParameter, Code.laneResync, Code.readIntake, Code.readTracking, Code.openStack, Code.drainStack,
        Code.closeStack, Code.clearStackFault, Code.clearStack, Code.clearLineFault, Code.readLineStatus,
        Code.signalLine, Code.cancelDraw, Code.closePanel, Code.takePanel]),
   (2, [Code.readCell, Code.setCacheMode, Code.purgeCache, Code.readCache, Code.swapGroup, Code.setStackAccess,
        Code.setLineMode, Code.setLineExec, Code.setStepPointer, Code.peekPanel]),
   (3, [Code.setParameter, Code.invalidateCell, Code.writeRoute, Code.setStackCapacity, Code.readSteps]),
   (4, [Code.ackNotices, Code.setNoticeMask, Code.readStack, Code.draw]),
   (5, [Code.writeRoot]), (6, [Code.probePath]), (18, [Code.writeCell]), (35, [Code.replaceCell])]

/-- The body length a request's code fixes (R184, R191); none for a request with a list, or an unknown code. -/
def bodyLength (code : Byte) : Option Nat := (fixedLengths.find? fun e => e.2.contains code).map (·.1)

namespace Machine

/-! ## Ports and answers -/

/-- A frame on port `p` is received now: RESET_N is not held, and no partial frame takes its bytes (R174, R183). -/
def Listening (s : State) (p : Port) : Prop := s.pins.resetHeld = false ∧ s.midFrame p = false

/-- Port `p` takes a frame now: it is received, and no request is pending (R174, R176, R183). -/
def Ready (s : State) (p : Port) : Prop := Listening s p ∧ (s.port p).pending = none

/-- The state in which a frame of port `p` has been taken in and its answer formed, and nothing else has changed. -/
def State.answered (s : State) (p : Port) (code tag : Byte) (st : Status) (body : List Byte) : State :=
  (s.hunt p).answer p code tag st body

/-- The state in which a table request of a port has been taken in and waits at the tail of the port path queue, its
port's pending request (R51). -/
def State.queued (s : State) (q : PathRequest) : State :=
  let t := (s.hunt q.port).setTables { s.tables with portPath := s.tables.portPath ++ [q] }
  t.setPort q.port { t.port q.port with pending := some { code := q.code, tag := q.tag } }

/-! ## What a selection may change -/

/-- `y` has the program, the panels and the faults of line `x`: all but its activity, step, draw, timers, PICK_REQ and the
mark of a pick begun at a PICK_EMPTY. -/
def LineState.KeepsProgram (x y : LineState) : Prop :=
  y.mode = x.mode ∧ y.exec = x.exec ∧ y.pointer = x.pointer ∧ y.pattern = x.pattern ∧ y.counters = x.counters
    ∧ y.latch = x.latch ∧ y.fault = x.fault ∧ y.openPanel = x.openPanel ∧ y.panelQueue = x.panelQueue
    ∧ y.panelCounter = x.panelCounter ∧ y.lastDraw = x.lastDraw

/-- `t` differs from `s` at most in what selections, grants and withdrawals write: holders, waiters and last grants of
the stacks; activity, step, draw, timers, PICK_REQ and mark of the lines; the count of free choices. -/
structure SelectsOnly (s t : State) : Prop where
  intake      : t.intake = s.intake
  grading     : t.grading = s.grading
  tables      : t.tables = s.tables
  caches      : t.caches = s.caches
  tracking    : t.tracking = s.tracking
  routing     : t.routing = s.routing
  ports       : t.ports = s.ports
  pins        : t.pins = s.pins
  pending     : t.pending = s.pending
  stackParams : t.sk.landingLimit = s.sk.landingLimit ∧ t.sk.priority = s.sk.priority
    ∧ t.sk.gatePulses = s.sk.gatePulses
  lineParams  : t.lines.pickLimit = s.lines.pickLimit ∧ t.lines.starveLimit = s.lines.starveLimit
  stackFields : ∀ k, (t.stack k).state = (s.stack k).state ∧ (t.stack k).capacity = (s.stack k).capacity
    ∧ (t.stack k).access = (s.stack k).access ∧ (t.stack k).inventory = (s.stack k).inventory
    ∧ (t.stack k).allocated = (s.stack k).allocated ∧ (t.stack k).reservations = (s.stack k).reservations
    ∧ (t.stack k).falling = (s.stack k).falling
  lineFields  : ∀ l, (s.line l).KeepsProgram (t.line l)

/-- No line waits for a stack top and none is starved: no event at the stacks has a line select. -/
def Unwatched (s : State) : Prop :=
  (∀ k, (s.stack k).waiters = ⟨none, none⟩) ∧ ∀ l, (s.line l).activity ≠ .starved

/-! ## Invariants -/

/-- A walk reads only cells that there are, now and at its next reads (R42, R52, R53). -/
def Walk.inside : Walk → Prop
  | .species c => c < Config.cellCount
  | .thickness c => c < Config.cellCount
  | .limits1 _ _ c => c + 1 < Config.cellCount
  | .limits2 _ _ _ _ c => c < Config.cellCount

/-- The work of a request in the port path accesses only cells that there are. -/
def TableWork.inside : TableWork → Prop
  | .write n _ => n < Config.cellCount
  | .read n => n < Config.cellCount
  | .replace n _ _ _ => n < Config.cellCount
  | .invalidate n _ => n < Config.cellCount
  | .probe _ run => ∀ r, run = some r → r.walk.inside
  | .lock _ run => ∀ r, run = some r → r.walk.inside

/-- Table memory is in its canonical form, and no access that waits is of a cell there is not (R42). -/
structure TablesSound (s : State) : Prop where
  memory : s.tables.mem.wf = true
  jobs   : ∀ u j, s.job u = some j → j.walk.inside
  path   : ∀ q, q ∈ s.tables.portPath → q.work.inside

/-- A rule cache holds what its mode lets it hold (R62, R69, R70, R73). -/
structure RuleCache.Sound (x : RuleCache) : Prop where
  offEmpty : x.mode = .off → x.entries = []
  buffer   : x.mode ≠ .off → x.buffer = []
  locks    : x.mode ≠ .split → x.lockedCount = 0
  locked   : x.lockedCount ≤ Config.splitRoom
  unlocked : x.unlockedCount ≤ x.room
  tags     : (x.entries.map fun e => e.body.tag).Nodup
  newer    : x.buffer.length ≤ Config.bufferRoom

/-- Both rule caches hold what their modes let them hold. -/
def CachesSound (s : State) : Prop := ∀ u, (s.cache u).Sound

/-- The intake queues and gap counts, the sheet counter, the tracking queue, the run-out count, the panel queues and
counters, the loop counters, the parameters, the geometry, the waiting answers and the notice sets stay within what the
manual gives them (R1, R2, R84, R86, R114, R137, R168, R178, R179, R182). -/
structure Bounded (s : State) : Prop where
  intake   : ∀ l, (s.lane l).queue.length ≤ Config.intakeCapacity
  gaps     : ∀ l, (s.lane l).gaps ≤ Config.maxGaps
  own      : ∀ l e, e ∈ (s.lane l).queue → e.sheet.lane = l
  charged  : ∀ l e, e ∈ (s.lane l).queue → e.sheet.gapsAfter ≤ Config.maxGaps
  counter  : 1 ≤ s.intake.counter ∧ s.intake.counter ≤ Config.maxNumber
  tracking : s.tracking.queue.length ≤ Config.trackCapacity
  runOut   : s.routing.runOut ≤ Config.maxNumber
  panels   : ∀ l, (s.line l).panelQueue.length ≤ Config.panelQueueRoom
  numbers  : ∀ l, 1 ≤ (s.line l).panelCounter ∧ (s.line l).panelCounter ≤ Config.maxNumber
  loops    : ∀ l (i : Fin 16) n, (s.line l).counters[i] = some n → n ≤ 63
  params   : ∀ q : Param, q.range.1 ≤ q.value s ∧ q.value s ≤ q.range.2
  geometry : s.tracking.geometry.valid = true
  waiting  : ∀ p, (s.port p).waiting.length ≤ Config.txRoom
  notices  : ∀ p, (s.port p).notices &&& ~~~namedFlags = 0

/-- A PROBE PATH or LOCK PATHS at the head of the port path queue has been taken (R51). -/
def HeadTaken (path : List PathRequest) : Prop := ∀ q rest, path = q :: rest → q.work.cell ≠ none

/-- The port path queue and the ports' pending requests agree: each request in the queue is the pending request of its
port, each port has at most one there, and no other request is pending between events (R51, R176). -/
structure PendingSound (s : State) : Prop where
  queued  : ∀ q, q ∈ s.tables.portPath → (s.port q.port).pending = some { code := q.code, tag := q.tag }
  single  : (s.tables.portPath.map (·.port)).Nodup
  waiting : ∀ p, (s.port p).pending ≠ none → ∃ q, q ∈ s.tables.portPath ∧ q.port = p
  taken   : HeadTaken s.tables.portPath

/-- An entry that holds a place in the allocated count of stack `k` (R85). -/
def TrackEntry.claims (k : StackId) (e : TrackEntry) : Bool :=
  (decide (e.drop = .allocated) || decide (e.drop = .reserved)) && decide (e.stack = some k)

/-- An entry that holds an approach reservation on stack `k` (R85). -/
def TrackEntry.reserves (k : StackId) (e : TrackEntry) : Bool := decide (e.drop = .reserved) && decide (e.stack = some k)

/-- The counts of every stack are those of the entries and falling records bound for it, and no stack holds more than its
capacity (R109, R111, R117, R126). -/
structure ClaimsSound (s : State) : Prop where
  allocated : ∀ k, (s.stack k).allocated
    = s.tracking.queue.countP (TrackEntry.claims k) + (s.stack k).falling.length
  reserved  : ∀ k, (s.stack k).reservations = s.tracking.queue.countP (TrackEntry.reserves k)
  falling   : ∀ k, (s.stack k).falling.length ≤ Config.fallingCapacity
  room      : ∀ k, (s.stack k).bound ≤ (s.stack k).capacity
  capacity  : ∀ k, 1 ≤ (s.stack k).capacity ∧ (s.stack k).capacity ≤ 400

/-- A line's own state agrees with its activity (R137, R143, R145, R150, R151, R157, R161, R166, R168). -/
structure LineState.Sound (y : LineState) : Prop where
  output   : y.pickReq = heldStack y
  timer    : y.pickTimer ≠ none ↔ y.activity = .picking ∨ y.activity = .stopping
  drawing  : y.draw ≠ none ↔
    y.activity = .waitingTop ∨ y.activity = .picking ∨ y.activity = .starved ∨ y.activity = .stopping
  placed   : ∀ d, y.draw = some d → d.grades ≠ 0 ∧ (d.stack = none ↔ y.activity = .starved)
  ply      : ∀ d, y.draw = some d → d.origin = .ply →
    y.mode = .run ∧ (y.activity ≠ .stopping → y.step ≠ none) ∧ y.pattern[y.pointer] = .ply d.grades d.role d.pref
  direct   : ∀ d, y.draw = some d → d.origin = .direct → y.mode = .direct ∧ y.step = none
  plies    : y.openPanel.length ≤ Config.panelPlies ∧ (y.draw ≠ none → y.openPanel.length < Config.panelPlies)
  running  : y.step ≠ none → y.mode = .run
  resting  : y.activity = .idle ∨ y.activity = .fault ∨ y.activity = .stopping → y.step = none
  emptied  : y.emptied = true → y.activity = .picking ∨ y.activity = .stopping
  faulty   : y.fault ≠ none ↔ y.activity = .fault
  starving : (y.activity = .starved → (y.starveTimer = none ↔ y.starveNoted = true))
    ∧ (y.activity ≠ .starved → y.starveTimer = none ∧ y.starveNoted = false)
  held     : y.mode ≠ .run → y.exec = .hold
  stopping : y.activity = .stopping → y.exec = .hold
  waits    : y.mode = .run → y.exec = .hold →
    y.activity ≠ .waitingTop ∧ y.activity ≠ .starved ∧ y.activity ≠ .awaiting ∧ y.activity ≠ .waitRecord
  awaits   : y.activity = .awaiting → y.step ≠ none ∧ y.latch = false ∧ ∃ kept, y.pattern[y.pointer] = .await kept
  closes   : y.activity = .waitRecord → y.step ≠ none ∧ y.openPanel ≠ [] ∧ Config.panelQueueRoom ≤ y.panelQueue.length
    ∧ ∃ notice after, y.pattern[y.pointer] = .panelEnd notice after
  off      : y.mode = .off → y.activity = .idle ∧ y.openPanel = []
  load     : y.mode = .load → y.activity = .idle ∨ y.activity = .fault

/-- The lines and the stack tops agree: a stack's holder is the line whose pick holds it, and its top record is one that
pick may take; its waiters are the lines that wait there, each with the grade set of its draw; nobody waits at a top that
is free, closed, faulted or not open to the line; a stack in DRAIN has a sheet or one to come; and no line draws or waits
while E-STOP is in force or RESET_N held (R118, R125, R131, R132, R134, R135, R159). -/
structure TopsSound (s : State) : Prop where
  lines   : ∀ l, (s.line l).Sound
  holder  : ∀ k l, (s.stack k).holder = some l ↔ heldStack (s.line l) = some k
  waiters : ∀ k l g, (s.stack k).waiters.get l = some g ↔
    (s.line l).activity = .waitingTop ∧ ∃ d, (s.line l).draw = some d ∧ d.stack = some k ∧ d.grades = g
  taken   : ∀ k l, (s.stack k).holder = some l → (s.stack k).falling = []
    ∧ ∃ d, (s.line l).draw = some d ∧ (s.stack k).topIn d.grades = true
  serving : ∀ k l, (s.stack k).waiters.get l ≠ none → (s.stack k).serving = true ∧ (s.stack k).access.get l = true
    ∧ (s.stack k).free = false
  drain   : ∀ k, (s.stack k).state = .drain → (s.stack k).inventory ≠ [] ∨ (s.stack k).allocated ≠ 0
  quiet   : s.estop = true ∨ s.pins.resetHeld = true → ∀ l, (s.line l).activity = .idle ∨ (s.line l).activity = .fault

/-- Taken one after the other from `s`, the commands of a list end in `t`. -/
def Leads (s : State) : List Instr → State → Prop
  | [], t => t = s
  | i :: is, t => ∃ u, exec i s = .next u ∧ Leads u is t

/-- `t` is `s` once every threshold event owed at the present encoder count has been taken, one after the other: one that
is owed alone, or any one of several, each use of the free order counted (R88, R89, assumptions 4 and 27). -/
inductive Settles : State → State → Prop
  | done {s : State} : owing s = [] → Settles s s
  | one {s t : State} {e : TrackEntry} : owing s = [e] → Settles (takeOwedBy e s) t → Settles s t
  | several {s t : State} {e : TrackEntry} : 2 ≤ (owing s).length → e ∈ owing s →
      Settles (takeOwedBy e { s with choices := s.choices + 1 }) t → Settles s t

/-- The gradings of `t` are those of `s` after the records `rs` have been discarded or have left the part: one in flight for
a record among them goes on for nobody and holds no root slot, and any other stands as it did (R37, R39, assumption 12). A
record is known by its lane, its number and the round of the counter that gave it (R4, assumption 21). -/
def GivesUp (rs : List SheetRecord) (s t : State) : Prop :=
  ∀ u : Lane,
    let gone := fun j : GradingJob => ∃ r, r ∈ rs ∧ r.lane = u ∧ r.number = j.number ∧ r.round = j.round ∧ r.status = .grading ∧
      (r.cls = none ∨ j.abandoned = true)
    (s.job u = none → t.job u = none) ∧
    ∀ j, s.job u = some j →
      (gone j → t.job u = some { j with abandoned := true, slotHeld := none }) ∧ (¬ gone j → t.job u = some j)

/-- A safe run meets no stop: every step of it answers a next state. -/
def Completes (s : State) : Prop := ∃ t, step s = .next t

end Machine

end Sys2Proof
end

