-- ==== Sys2Proof/Certificates/Slice0/Obligations.lean ====
section
/-!
DEFINITION. The statements for the provers: what each command does to the part, what every step keeps, and how frames are
taken and answered.
-/

open Sys2Proof Sys2Proof.Machine

/-! ## The whole machine -/

/-- A step takes the command at the front of the queue and runs it on the state with the queue's rest. -/
def Obligations.StepRunsFrontCommand : Prop :=
  ∀ (c : Instr) (rest : List Instr) (s : State), step (s.withPending (c :: rest)) = exec c (s.withPending rest)

/-- On an empty queue one millisecond passes for every timer, the gap of a partial frame among them, and the
timer events and steps then due are queued (the model's choice, assumption 2); nothing happens while RESET_N
is held. Threshold events still owed on the last count, all of them, are taken first, in some order (assumptions 4
and 27). That starve timers are held at 60000 ms and gaps at 51 ms is assumption 17, that no frame's sending ends
by itself is assumption 16, and the mark emptied is assumption 30. -/
def Obligations.IdleStepPassesOneMillisecond : Prop :=
  ∀ s : State, s.pending = [] →
    (s.pins.resetHeld = true → step s = .next s) ∧
    (s.pins.resetHeld = false → (s.tracks = true → owing s = [] ∨ s.tracking.geometry.valid = true) → ∃ u t,
      (s.tracks = true → Settles s u) ∧ (s.tracks = false → u = s) ∧ step s = .next t ∧
      (∀ l, t.lane l = { u.lane l with queue := (u.lane l).queue.map fun e => { e with age := e.age + 1 } }) ∧
      t.tracking = { u.tracking with stallTimer := u.tracking.stallTimer.map (· + 1) } ∧
      (∀ k, t.stack k = { u.stack k with
        falling := (u.stack k).falling.map fun f => { f with timer := f.timer + 1 } }) ∧
      (∀ l, t.line l = { u.line l with
        pickTimer := (u.line l).pickTimer.map (· + 1),
        starveTimer := (u.line l).starveTimer.map fun n => min 60000 (n + 1), emptied := false }) ∧
      t.grading = u.grading ∧ t.tables = u.tables ∧ t.caches = u.caches ∧ t.routing = u.routing ∧ t.pins = u.pins ∧
      t.intake.counter = u.intake.counter ∧ t.intake.round = u.intake.round ∧ t.intake.current = u.intake.current ∧
      t.intake.ageLimit = u.intake.ageLimit ∧ t.sk.landingLimit = u.sk.landingLimit ∧ t.sk.priority = u.sk.priority ∧
      t.sk.gatePulses = u.sk.gatePulses ∧ t.lines.pickLimit = u.lines.pickLimit ∧
      t.lines.starveLimit = u.lines.starveLimit ∧
      (∀ p, (t.port p).pending = (u.port p).pending ∧ (t.port p).sending = (u.port p).sending ∧
        (t.port p).waiting = (u.port p).waiting ∧ (t.port p).notices = (u.port p).notices ∧
        (t.port p).mask = (u.port p).mask ∧
        ((u.port p).receiver = .hunting → (t.port p).receiver = .hunting) ∧
        (∀ bytes gap, (u.port p).receiver = .receiving bytes gap →
          (t.port p).receiver = .receiving bytes (min 51 (gap + 1)))) ∧
      (∀ l, Instr.recordExpired l ∈ t.pending ↔ ∃ e, e ∈ (t.lane l).queue ∧ u.intake.ageLimit ≤ e.age) ∧
      (Instr.encoderStall ∈ t.pending ↔ u.tracking.state = .running ∧ u.tracking.stallLimit ≠ 0 ∧
        ∃ n, t.tracking.stallTimer = some n ∧ u.tracking.stallLimit ≤ n) ∧
      (∀ k, Instr.missedLanding k ∈ t.pending ↔ ∃ f, f ∈ (t.stack k).falling ∧ u.sk.landingLimit ≤ f.timer) ∧
      (∀ l, Instr.pickTimeout l ∈ t.pending ↔ ∃ n, (t.line l).pickTimer = some n ∧ u.lines.pickLimit ≤ n) ∧
      (∀ l, Instr.lineStarved l ∈ t.pending ↔ (u.line l).activity = .starved ∧ (u.line l).starveNoted = false ∧
        u.lines.starveLimit ≠ 0 ∧ ∃ n, (t.line l).starveTimer = some n ∧ u.lines.starveLimit ≤ n) ∧
      (∀ l, Instr.stepBegin l ∈ t.pending ↔ (u.line l).mode = .run ∧ (u.line l).activity = .idle ∧
        (u.line l).step = none ∧ (u.line l).exec = .run ∧ u.estop = false) ∧
      (∀ p, Instr.byteGapTimeout p ∈ t.pending ↔ ∃ bytes gap, (t.port p).receiver = .receiving bytes gap ∧ 50 < gap) ∧
      (∀ v, Instr.guWalkRead v ∈ t.pending ↔ arbiterNext u = some (unitRequester v)) ∧
      (Instr.portAccessGrant ∈ t.pending ↔ arbiterNext u = some .port))

/-- RESET_N returns every block, port and parameter to its reset values and is then held; its release raises ESTOP if
ESTOP_N is asserted and starts the stall timer if CONV_RUN is. While it is held only the pins are followed and no
other command changes anything (the model's choice, assumption 7). The reset values of the model's own fields are
assumption 26. -/
def Obligations.ResetReturnsEveryBlock : Prop :=
  ((∀ s : State, ∃ t, exec .resetN s = .next t ∧
     t.pins = { s.pins with resetHeld := true } ∧ t.choices = s.choices ∧ t.pending = s.pending ∧
     (∀ l, t.lane l = ⟨[], 0⟩) ∧ t.intake.counter = 1 ∧ t.intake.round = 0 ∧ t.intake.current = .slot0 ∧ t.intake.ageLimit = 4000 ∧
     (∀ u, t.job u = none) ∧
     (∀ n, t.tables.mem.cell n = Vector.replicate 16 0) ∧ (∀ k, t.tables.roots.get k = none) ∧
     t.tables.lastGrant = .port ∧ t.tables.portPath = [] ∧
     (∀ u, (t.cache u).mode = .normal ∧ (t.cache u).entries = [] ∧ (t.cache u).buffer = []) ∧
     t.tracking.state = .running ∧ t.tracking.queue = [] ∧ t.tracking.geometry.decision = 1500 ∧
     t.tracking.geometry.window = 400 ∧ (∀ k : StackId, t.tracking.geometry.gate k = 3000 + 1800 * k.val) ∧
     t.tracking.geometry.runOut = 21000 ∧ t.tracking.stallLimit = 800 ∧ t.tracking.stallTimer = none ∧
     (∀ c : Fin 8, t.routing.routes[c] = ⟨none, none, 0⟩) ∧ (∀ g : Fin 4, t.routing.swaps[g] = false) ∧
     t.routing.runOut = 0 ∧
     (∀ k, t.stack k =
       { state := .closed, capacity := 250, access := ⟨true, true⟩, inventory := [], allocated := 0, reservations := 0,
         falling := [], holder := none, waiters := ⟨none, none⟩, lastGrant := none }) ∧
     t.sk.landingLimit = 400 ∧ t.sk.priority = .rotating ∧
     (∀ l, (t.line l).mode = .off ∧ (t.line l).exec = .hold ∧ (t.line l).pointer = 0 ∧
       (∀ n : Fin 16, (t.line l).pattern[n] = .blank ⟨0, 0, 0⟩ ∧ (t.line l).counters[n] = none) ∧
       (t.line l).latch = false ∧ (t.line l).activity = .idle ∧ (t.line l).fault = none ∧ (t.line l).step = none ∧
       (t.line l).draw = none ∧ (t.line l).openPanel = [] ∧ (t.line l).panelQueue = [] ∧
       (t.line l).panelCounter = 1 ∧ (t.line l).pickTimer = none ∧ (t.line l).starveTimer = none ∧
       (t.line l).starveNoted = false ∧ (t.line l).lastDraw = none ∧ (t.line l).pickReq = none ∧
       (t.line l).emptied = false) ∧
     t.lines.pickLimit = 3000 ∧ t.lines.starveLimit = 10000 ∧
     (∀ p, t.port p =
       { receiver := .hunting, pending := none, sending := none, waiting := [], notices := 0, mask := 0 })) ∧
   (∀ s : State, s.pins.resetHeld = true → exec .resetNRelease s = .next
     (let t := s.setPins { s.pins with resetHeld := false }
      let u := if s.pins.estop then t.raise .estop else t
      if s.tracking.state = .running ∧ s.pins.convRun = true ∧ s.tracking.stallLimit ≠ 0 then
        u.setTracking { u.tracking with stallTimer := some 0 }
      else u)) ∧
   (∀ s : State, s.pins.resetHeld = false → exec .resetNRelease s = .next s)) ∧
  (∀ (s : State) (i : Instr), s.pins.resetHeld = true → i ≠ .resetN → i ≠ .resetNRelease → i ≠ .estopAssert →
     i ≠ .estopRelease → i ≠ .convRunAssert → i ≠ .convRunDeassert → exec i s = .next s)

/-- With table memory sound, every command and every step answers a next state. -/
def Obligations.SoundTablesMeetNoStop : Prop :=
  ∀ s : State, TablesSound s → (∀ i : Instr, ∃ t, exec i s = .next t) ∧ Completes s

/-- Every step keeps table memory in its canonical form and every waiting access within the 2048 cells. -/
def Obligations.TablesSoundKept : Prop :=
  ∀ s t : State, TablesSound s → step s = .next t → TablesSound t

/-- The state right after reset meets all six invariants. -/
def Obligations.InvariantsHoldAtReset : Prop :=
  TablesSound State.reset ∧ CachesSound State.reset ∧ Bounded State.reset ∧ PendingSound State.reset ∧
    ClaimsSound State.reset ∧ TopsSound State.reset

/-- Every step keeps both rule caches within what their modes let them hold, with no tag twice. -/
def Obligations.CachesSoundKept : Prop :=
  ∀ s t : State, CachesSound s → step s = .next t → CachesSound t

/-- Every step keeps within their ranges the intake queues with their gap counts and lanes, the sheet counter,
the tracking queue's length, the run-out count, the panel queues and counters, the loop counters, every
parameter, the validity of the geometry, the waiting answers and the notice sets. -/
def Obligations.BoundedKept : Prop :=
  ∀ s t : State, Bounded s → step s = .next t → Bounded t

/-- Every step keeps the port path queue and the ports' pending requests in agreement. -/
def Obligations.PendingSoundKept : Prop :=
  ∀ s t : State, PendingSound s → step s = .next t → PendingSound t

/-- Every step keeps each stack's allocated and reservation counts equal to the entries and falling records bound for it,
and each stack within its capacity. -/
def Obligations.ClaimsSoundKept : Prop :=
  ∀ s t : State, ClaimsSound s → step s = .next t → ClaimsSound t

/-- Every step keeps the lines and the stack tops in agreement: one holder and its pick, the waiters and their draws,
nobody waiting at a free top, and no draw under E-STOP. -/
def Obligations.TopsSoundKept : Prop :=
  ∀ s t : State, TopsSound s → step s = .next t → TopsSound t

/-- While E-STOP is in force no command grants a stack top: whoever holds one after a command held it before. -/
def Obligations.NoGrantUnderEstop : Prop :=
  ∀ (s t : State) (i : Instr) (k : StackId) (l : Line), s.estop = true → exec i s = .next t →
    (t.stack k).holder = some l → (s.stack k).holder = some l

/-- But for a reset, a line's pattern changes only by commands of its own port, and its mode only by those or, for a line
that is STOPPING, to OFF. -/
def Obligations.OnlyOwnPortProgramsLine : Prop :=
  ∀ (s t : State) (i : Instr) (l : Line), i ≠ .resetN → i.port ≠ some (ownPort l) → exec i s = .next t →
    (t.line l).pattern = (s.line l).pattern ∧
    ((t.line l).mode = (s.line l).mode ∨ ((s.line l).activity = .stopping ∧ (t.line l).mode = .off))

/-! ## Table memory as a memory (R42) -/

/-- A cell written reads back as written, every other cell is untouched, and the canonical form is kept. -/
def Obligations.WrittenCellReadsBack : Prop :=
  ∀ (m : Memory) (n : Nat) (x : Cell16), m.wf = true → n < Config.cellCount →
    (m.setCell n x).cell n = x ∧ (∀ k, k ≠ n → (m.setCell n x).cell k = m.cell k) ∧ (m.setCell n x).wf = true

/-! ## Frames at a port (R174 to R178) -/

/-- The port's checks of a received frame: BUSY while a request is pending, BAD_REQUEST for a code that names no request,
NOT_OWNER for a line request of a line that is not the port's own; a line request that names no line passes them and is
refused by its own rule. -/
def Obligations.PortRefusesBeforeItsBlocks : Prop :=
  (∀ (s : State) (i : Instr) (f : Frame), i.frame = some f → Listening s f.port →
    (s.port f.port).pending ≠ none → exec i s = .next (s.answered f.port f.code f.tag .busy [])) ∧
  (∀ (s : State) (p : Port) (code tag : Byte) (body : List Byte), Ready s p → isRequestCode code = false →
    exec (.unknownCode p code tag body) s = .next (s.answered p code tag .badRequest [])) ∧
  (∀ (s : State) (i : Instr) (f : Frame) (b : Byte) (rest : List Byte) (l : Line), i.frame = some f →
    isLineRequest f.code = true → Ready s f.port → f.body = b :: rest → lineOf b.toNat = some l →
    f.port ≠ ownPort l → exec i s = .next (s.answered f.port f.code f.tag .notOwner [])) ∧
  (∀ (s : State) (i : Instr) (f : Frame), i.frame = some f → isLineRequest f.code = true → Ready s f.port →
    (f.body = [] ∨ ∃ b rest, f.body = b :: rest ∧ lineOf b.toNat = none) →
    exec i s = .next (s.answered f.port f.code f.tag .badRequest []) ∨
      exec i s = .next (s.answered f.port f.code f.tag .badValue []))

/-- A body of the wrong length is refused BAD_REQUEST and changes nothing but the answer, for every request: those whose
length the layout fixes, and the three whose body carries a list. -/
def Obligations.WrongLengthIsBadRequest : Prop :=
  (∀ (s : State) (i : Instr) (f : Frame) (n : Nat), i.frame = some f → bodyLength f.code = some n →
    f.body.length ≠ n → Ready s f.port → (isLineRequest f.code = true → notOwner f.port f.body = false) →
    exec i s = .next (s.answered f.port f.code f.tag .badRequest [])) ∧
  (∀ (s : State) (p : Port) (tag : Byte) (body : List Byte), Ready s p →
    (body.length < 4 ∨ body.length ≠ 12 + 3 * byteAt body 3) →
    exec (.submitSheet p tag body) s = .next (s.answered p Code.submitSheet tag .badRequest [])) ∧
  (∀ (s : State) (p : Port) (tag : Byte) (body : List Byte), Ready s p →
    (body.length < 3 ∨ body.length ≠ 3 + 2 * byteAt body 2) →
    exec (.lockPaths p tag body) s = .next (s.answered p Code.lockPaths tag .badRequest [])) ∧
  (∀ (s : State) (p : Port) (tag : Byte) (body : List Byte), Ready s p → notOwner p body = false →
    (body.length < 3 ∨ body.length ≠ 3 + 4 * byteAt body 2 ∨ byteAt body 2 < 1 ∨ 16 < byteAt body 2) →
    exec (.writeSteps p tag body) s = .next (s.answered p Code.writeSteps tag .badRequest []))

/-- The receiver: A5h starts a frame when hunting or after a gap of more than 50 ms, a length above 250 ends it,
A5h inside a frame is data, a frame with a wrong CRC word is dropped, and one completed with the right CRC word
is its request, taken by a port that hunts again. Every byte has its outcome: while hunting, after a gap, as a
length, within a frame and as its last. A command that is a frame is the reception of its bytes one after the
other, in the middle of another frame too, where they are that frame's data. That such a command carries the
whole frame, with no gap in it, is the model's form (assumption 3), and so is that a gap not due does nothing
(assumption 1). -/
def Obligations.ReceiverTakesBytes : Prop :=
  ∀ (s : State) (p : Port), s.pins.resetHeld = false →
    ((s.port p).receiver = .hunting →
      exec (.leadByteWhileHunting p) s = .next (s.setPort p { s.port p with receiver := .receiving [] 0 })) ∧
    (∀ bytes gap, (s.port p).receiver = .receiving bytes gap → 50 < gap →
      exec (.leadByteWhileHunting p) s = .next (s.setPort p { s.port p with receiver := .receiving [] 0 }) ∧
      exec (.byteGapTimeout p) s = .next (s.setPort p { s.port p with receiver := .hunting })) ∧
    (∀ bytes gap, (s.port p).receiver = .receiving bytes gap → gap ≤ 50 → exec (.byteGapTimeout p) s = .next s) ∧
    (∀ (length : Byte) (gap : Nat), (s.port p).receiver = .receiving [] gap → gap ≤ 50 → 250 < length.toNat →
      exec (.lengthAbove250 p length) s = .next (s.setPort p { s.port p with receiver := .hunting })) ∧
    (∀ (n : Byte) (bytes : List Byte) (gap : Nat), (s.port p).receiver = .receiving (n :: bytes) gap → gap ≤ 50 →
      n.toNat ≤ 250 → bytes.length + 2 < n.toNat + 5 →
      exec (.leadByteWhileHunting p) s =
        .next (s.setPort p { s.port p with receiver := .receiving (n :: bytes ++ [0xA5]) 0 })) ∧
    (∀ (code tag : Byte) (body : List Byte) (crc : BitVec 16), s.midFrame p = false → crc ≠ requestCrc code tag body →
      exec (.crcDiscard p code tag body crc) s = .next (s.setPort p { s.port p with receiver := .hunting })) ∧
    ((s.port p).receiver = .hunting → exec (.byteGapTimeout p) s = .next s) ∧
    (∀ length : Byte, (s.port p).receiver = .hunting → length ≠ 0xA5 → exec (.lengthAbove250 p length) s = .next s) ∧
    exec (.leadByteWhileHunting p) s = receiveBytes p [0xA5] s ∧
    (∀ length : Byte, exec (.lengthAbove250 p length) s = receiveBytes p [length] s) ∧
    (∀ (i : Instr) (f : Frame) (hi lo : Byte) (gap : Nat), i.frame = some f → f.port = p → f.body.length ≤ 250 →
      (s.port p).receiver = .receiving (b8 f.body.length :: f.code :: f.tag :: f.body ++ [hi]) gap → gap ≤ 50 →
      let hunts := s.setPort p { s.port p with receiver := .hunting }
      (crcBytes (requestCrc f.code f.tag f.body) = [hi, lo] → receiveBytes p [lo] s = exec i hunts) ∧
      (crcBytes (requestCrc f.code f.tag f.body) ≠ [hi, lo] → receiveBytes p [lo] s = .next hunts) ∧
      (crcBytes (requestCrc f.code f.tag f.body) = [hi, 0xA5] → exec (.leadByteWhileHunting p) s = exec i hunts)) ∧
    (∀ (b : Byte) (bytes : List Byte) (gap : Nat), (s.port p).receiver = .receiving bytes gap → 50 < gap →
      receiveBytes p [b] s = receiveBytes p [b] (s.setPort p { s.port p with receiver := .hunting })) ∧
    (receiveBytes p [] s = .next s) ∧
    (∀ b : Byte, (s.port p).receiver = .hunting → b ≠ 0xA5 → receiveBytes p [b] s = .next s) ∧
    (∀ (b : Byte) (gap : Nat), (s.port p).receiver = .receiving [] gap → gap ≤ 50 → b.toNat ≤ 250 →
      receiveBytes p [b] s = .next (s.setPort p { s.port p with receiver := .receiving [b] 0 })) ∧
    (∀ (b n : Byte) (bytes : List Byte) (gap : Nat), (s.port p).receiver = .receiving (n :: bytes) gap → gap ≤ 50 →
      n.toNat ≤ 250 → bytes.length + 2 < n.toNat + 5 →
      receiveBytes p [b] s = .next (s.setPort p { s.port p with receiver := .receiving (n :: bytes ++ [b]) 0 })) ∧
    (∀ (first rest : List Byte) (t : State), receiveBytes p first s = .next t →
      receiveBytes p (first ++ rest) s = receiveBytes p rest t) ∧
    (∀ (i : Instr) (f : Frame), i.frame = some f → f.port = p → f.body.length ≤ 250 →
      exec i s = receiveBytes p (0xA5 :: b8 f.body.length :: f.code :: f.tag :: f.body ++
        crcBytes (requestCrc f.code f.tag f.body)) s) ∧
    (∀ (code tag : Byte) (body : List Byte) (crc : BitVec 16), body.length ≤ 250 →
      exec (.crcDiscard p code tag body crc) s = receiveBytes p (0xA5 :: b8 body.length :: code :: tag :: body ++
        crcBytes crc) s)

/-- The transmitter: an answer is sent at once when nothing is being sent, waits behind at most seven others,
and is discarded when eight wait; when a frame has been sent, the oldest waiting one follows. That ANSWER SENT
is a command, and does nothing with no frame being sent, is the model's form (assumptions 16 and 1). -/
def Obligations.TransmitterKeepsOrder : Prop :=
  (∀ (x : PortState) (frame : List Byte),
    (x.sending = none → x.send frame = { x with sending := some frame }) ∧
    (∀ f, x.sending = some f → x.waiting.length < 8 → x.send frame = { x with waiting := x.waiting ++ [frame] }) ∧
    (∀ f, x.sending = some f → 8 ≤ x.waiting.length → x.send frame = x)) ∧
  (∀ (s : State) (p : Port), s.pins.resetHeld = false →
    ((s.port p).sending = none → exec (.answerSent p) s = .next s) ∧
    (∀ f, (s.port p).sending = some f → exec (.answerSent p) s =
      .next (s.setPort p { s.port p with
        sending := (s.port p).waiting.head?, waiting := (s.port p).waiting.tail }))) ∧
  (∀ (s : State) (p : Port) (code tag : Byte) (st : Status) (body : List Byte),
    (s.answered p code tag st body).port p =
      { (s.port p) with receiver := .hunting }.send
        (let covered := BitVec.ofNat 8 body.length :: code :: tag :: st.code :: body
         0xA5 :: covered ++ crcBytes (crcWord covered)) ∧
    (∀ q, q ≠ p → (s.answered p code tag st body).port q = s.port q))

/-- The CRC word starts at FFFFh and takes each byte most significant bit first by the generator x^16 + x^12 +
x^5 + 1; a run of bytes followed by its own CRC word, high byte first, has the CRC word 0. -/
def Obligations.CrcWordFollowsGenerator : Prop :=
  crcWord [] = 0xFFFF ∧
  (∀ (bytes : List Byte) (b : Byte),
    let generator : BitVec 16 := (1#16 <<< 12) ^^^ (1#16 <<< 5) ^^^ 1#16
    let bit := fun (r : BitVec 16) (x : Bool) => if (r.getLsbD 15 ^^ x) = true then (r <<< 1) ^^^ generator else r <<< 1
    crcWord (bytes ++ [b]) =
      bit (bit (bit (bit (bit (bit (bit (bit (crcWord bytes) (b.getLsbD 7)) (b.getLsbD 6)) (b.getLsbD 5))
        (b.getLsbD 4)) (b.getLsbD 3)) (b.getLsbD 2)) (b.getLsbD 1)) (b.getLsbD 0)) ∧
  (∀ bytes : List Byte, crcWord (bytes ++ crcBytes (crcWord bytes)) = 0)

/-! ## Notices (R179 to R181) -/

/-- READ NOTICES reports the set, the mask and E-STOP; ACK NOTICES clears the named flags of its own port, ESTOP only when
E-STOP is not in force, and answers the set that is left; SET NOTICE MASK replaces the mask of its own port and
answers the old one; wrong lengths are refused. A notice raised sets its one flag, below 26, in all three sets; a
port's NOTICE line is asserted exactly when its set and its mask share a set flag; RESET_N clears both. The order of
the four bytes of a set or mask is the model's reading (assumption 28). -/
def Obligations.NoticeRequestsActOnOwnPort : Prop :=
  (∀ (s : State) (p : Port) (tag a b c d : Byte), Ready s p →
     let word : BitVec 32 := a ++ b ++ c ++ d
     let left := (s.port p).notices &&& ~~~(if s.estop then word &&& ~~~(1#32 <<< 13) else word)
     exec (.ackNotices p tag [a, b, c, d]) s =
       .next ((s.setPort p { s.port p with notices := left }).answered p Code.ackNotices tag .ok (b32 left)) ∧
     exec (.setNoticeMask p tag [a, b, c, d]) s =
       .next ((s.setPort p { s.port p with mask := word }).answered p Code.setNoticeMask tag .ok (b32 (s.port p).mask))) ∧
  ((∀ (s : State) (n : Notice) (p : Port) (m : Nat), ((s.raise n).port p).notices.getLsbD m =
     ((s.port p).notices.getLsbD m || decide (m = n.number))) ∧
   (∀ n : Notice, n.number < 26) ∧ (∀ m n : Notice, m.number = n.number → m = n) ∧
   (∀ x : PortState, x.noticeLine = true ↔ ∃ m, m < 32 ∧ x.notices.getLsbD m = true ∧ x.mask.getLsbD m = true)) ∧
  (∀ (s : State) (p : Port) (tag : Byte), Ready s p →
    exec (.readNotices p tag []) s = .next (s.answered p Code.readNotices tag .ok
      (b32 (s.port p).notices ++ b32 (s.port p).mask ++ [if s.estop then 1 else 0])) ∧
    (∀ body, body.length ≠ 0 →
      exec (.readNotices p tag body) s = .next (s.answered p Code.readNotices tag .badRequest [])) ∧
    (∀ body, body.length ≠ 4 →
      exec (.ackNotices p tag body) s = .next (s.answered p Code.ackNotices tag .badRequest []) ∧
      exec (.setNoticeMask p tag body) s = .next (s.answered p Code.setNoticeMask tag .badRequest []))) ∧
  (∀ s : State, ∃ t, exec .resetN s = .next t ∧ ∀ p, (t.port p).notices = 0 ∧ (t.port p).mask = 0)

/-! ## Parameters (R10, R86, R87, R97, R99, R130, R133, R157, R182) -/

/-- SET PARAMETER: an unknown id or a value out of its range is refused BAD_VALUE; a geometry value is refused
WRONG_STATE while entries are tracked and BAD_VALUE if the geometry would not be valid, and is otherwise set
alone. A new limit takes in the same event the expiries, the stall, the missed landings, the pick timeouts and
the starvation notices that it makes due, each as the command of that event does; a limit that nothing has
reached, and a new priority, change nothing else but the stall timer. The answer is the value before. The order
over stacks and lines is assumption 20. -/
def Obligations.SetParameterSetsOneValue : Prop :=
  ∀ (s : State) (p : Port) (tag id hi lo : Byte), Ready s p →
    let v := hi.toNat * 256 + lo.toNat
    let run := exec (.setParameter p tag [id, hi, lo]) s
    let refused := fun st => run = .next (s.answered p Code.setParameter tag st [])
    let done := fun (old : Nat) (t : State) => run = .next (t.answered p Code.setParameter tag .ok (b16 old))
    (paramOf id.toNat = none → refused .badValue) ∧
    (∀ q, paramOf id.toNat = some q → (v < q.range.1 ∨ q.range.2 < v) → refused .badValue) ∧
    (∀ q g, paramOf id.toNat = some q → q.range.1 ≤ v → v ≤ q.range.2 → q.geometry v s.tracking.geometry = some g →
      (s.tracking.queue ≠ [] → refused .wrongState) ∧
      (s.tracking.queue = [] → g.valid = false → refused .badValue) ∧
      (s.tracking.queue = [] → g.valid = true →
        done (q.value s) (s.setTracking { s.tracking with geometry := g }))) ∧
    (paramOf id.toNat = some .ageLimit → 100 ≤ v → v ≤ 60000 → (∀ l e, e ∈ (s.lane l).queue → e.age < v) →
      done s.intake.ageLimit (s.setIntake { s.intake with ageLimit := v })) ∧
    (paramOf id.toNat = some .landingLimit → 50 ≤ v → v ≤ 2000 → (∀ k f, f ∈ (s.stack k).falling → f.timer < v) →
      done s.sk.landingLimit (s.setSk { s.sk with landingLimit := v })) ∧
    (paramOf id.toNat = some .priority → ∀ r : PickPriority, v = r.code →
      done s.sk.priority.code (s.setSk { s.sk with priority := r })) ∧
    (paramOf id.toNat = some .pickLimit → 200 ≤ v → v ≤ 20000 → (∀ l n, (s.line l).pickTimer = some n → n < v) →
      done s.lines.pickLimit (s.setLines { s.lines with pickLimit := v })) ∧
    (paramOf id.toNat = some .starveLimit → v ≤ 60000 →
      (v = 0 ∨ ∀ l n, (s.line l).starveTimer = some n → n < v) →
      done s.lines.starveLimit (s.setLines { s.lines with starveLimit := v })) ∧
    (paramOf id.toNat = some .stallLimit → v ≤ 5000 →
      (v = 0 → done s.tracking.stallLimit (s.setTracking { s.tracking with stallLimit := 0, stallTimer := none })) ∧
      (v ≠ 0 → s.tracking.stallLimit = 0 → s.tracking.state = .running → s.pins.convRun = true →
        done 0 (s.setTracking { s.tracking with stallLimit := v, stallTimer := some 0 })) ∧
      (v ≠ 0 → s.tracking.stallLimit = 0 → (s.tracking.state = .faulted ∨ s.pins.convRun = false) →
        done 0 (s.setTracking { s.tracking with stallLimit := v })) ∧
      (v ≠ 0 → s.tracking.stallLimit ≠ 0 → (∀ n, s.tracking.stallTimer = some n → n < v) →
        done s.tracking.stallLimit (s.setTracking { s.tracking with stallLimit := v }))) ∧
    (let passes := fun (old : Nat) (t : State) (is : List Instr) =>
       ∃ u, Leads t is u ∧ run = .next (u.answered p Code.setParameter tag .ok (b16 old))
     (paramOf id.toNat = some .ageLimit → 100 ≤ v → v ≤ 60000 →
       passes s.intake.ageLimit (s.setIntake { s.intake with ageLimit := v })
         (List.replicate (s.lane .lane1).queue.length (.recordExpired .lane1) ++
           List.replicate (s.lane .lane2).queue.length (.recordExpired .lane2))) ∧
     (paramOf id.toNat = some .stallLimit → 1 ≤ v → v ≤ 5000 → s.tracking.stallLimit ≠ 0 →
       passes s.tracking.stallLimit (s.setTracking { s.tracking with stallLimit := v }) [.encoderStall]) ∧
     (paramOf id.toNat = some .landingLimit → 50 ≤ v → v ≤ 2000 →
       passes s.sk.landingLimit (s.setSk { s.sk with landingLimit := v })
         (allStacks.flatMap fun k => List.replicate (s.stack k).falling.length (.missedLanding k))) ∧
     (paramOf id.toNat = some .pickLimit → 200 ≤ v → v ≤ 20000 →
       passes s.lines.pickLimit (s.setLines { s.lines with pickLimit := v }) [.pickTimeout .a, .pickTimeout .b]) ∧
     (paramOf id.toNat = some .starveLimit → v ≤ 60000 →
       passes s.lines.starveLimit (s.setLines { s.lines with starveLimit := v }) [.lineStarved .a, .lineStarved .b]))

/-! ## Intake (chapter 1) -/

/-- The record SUBMIT SHEET forms: its number, lane and slot; each value clamped to its range, CLAMPED set exactly if a
clamp was made; absent thickness and moisture left absent; the defects in order with their codes and zones; BAD_DEFECT for
a code 6 or 7; DEFECTS_OMITTED as sent; nothing graded yet; and the round of the counter, the model's own
(assumption 21). -/
def Obligations.SubmittedRecordIsClamped : Prop :=
  ∀ (body : List Byte) (lane : Lane) (number round : Nat) (slot : Slot),
    let r := submittedRecord body lane number round slot
    let word := fun k => byteAt body k * 256 + byteAt body (k + 1)
    let count := byteAt body 3
    let kind := fun i => byteAt body (12 + 3 * i) % 8
    let edge := fun i => (byteAt body (12 + 3 * i)).testBit 3
    let size := fun i => word (12 + 3 * i + 1)
    r.number = number ∧ r.round = round ∧ r.lane = lane ∧ r.slot = slot ∧ r.species = some (byteAt body 1) ∧
    r.thickness = (if word 4 = 0xFFFF then none else some (min 9999 (word 4))) ∧
    r.moisture = (if word 6 = 0xFFFF then none else some (min 400 (word 6))) ∧
    r.width = some (max 200 (min 1600 (word 8))) ∧ r.length = some (max 400 (min 3200 (word 10))) ∧
    r.defects.length = count ∧
    (∀ i, i < count → r.defects[i]? =
      some { kind := kind i, zone := if edge i then .edge else .field, size := min 2000 (size i) }) ∧
    (r.flags.clamped = true ↔
      word 8 < 200 ∨ 1600 < word 8 ∨ word 10 < 400 ∨ 3200 < word 10 ∨ (word 4 ≠ 0xFFFF ∧ 9999 < word 4) ∨
        (word 6 ≠ 0xFFFF ∧ 400 < word 6) ∨ ∃ i, i < count ∧ 2000 < size i) ∧
    (r.flags.badDefect = true ↔ ∃ i, i < count ∧ (kind i = 6 ∨ kind i = 7)) ∧
    r.flags.defectsOmitted = (byteAt body 2).testBit 0 ∧
    r.flags.overdry = false ∧ r.flags.noMoisture = false ∧ r.flags.unmeasured = false ∧ r.flags.late = false ∧
    r.flags.unconfirmed = false ∧ r.fault = none ∧ r.status = .waiting ∧ r.cls = none ∧ r.gapsAfter = 0 ∧
    r.thickClass = none

/-- SUBMIT SHEET: the refusals; with room, the record joins the tail at age 0, takes the counter's number, and waits if its
unit is grading or is begun at once; with eight records, the gap is charged to the tail and no number is taken. An
idle unit begins the oldest record on its worklist, in tracking before intake: an absent root, a species out of range
or above the last cell ends the grading at once, a species in the cache goes on to the class tests and the path
lookup, and a miss waits for its walk; a unit that has ended a grading begins the next in the same event. A result finds its
record by number and status (assumption 21), so no other record in grading has that number. -/
def Obligations.SubmitSheetAcceptsOrOverruns : Prop :=
  (∀ (s : State) (p : Port) (tag : Byte) (body : List Byte), Ready s p → 4 ≤ body.length →
    body.length = 12 + 3 * byteAt body 3 →
    let run := exec (.submitSheet p tag body) s
    ((laneOf (byteAt body 0) = none ∨ 15 < byteAt body 1 ∨ 24 < byteAt body 3) →
      run = .next (s.answered p Code.submitSheet tag .badValue [])) ∧
    (∀ lane, laneOf (byteAt body 0) = some lane → byteAt body 1 ≤ 15 → byteAt body 3 ≤ 24 →
      let q := (s.lane lane).queue
      let n := s.intake.counter
      let r := submittedRecord body lane n s.intake.round s.intake.current
      let u := s.setIntake { s.intake with
        counter := if n < 65535 then n + 1 else 1, round := if n < 65535 then s.intake.round else s.intake.round + 1 }
      let joined := fun r : SheetRecord => u.setLane lane { s.lane lane with queue := q ++ [{ sheet := r, age := 0 }] }
      (q.length < 8 → run = .next ((gradeNext lane (joined r)).answered p Code.submitSheet tag .ok (b16 n))) ∧
      (q.length < 8 → s.job lane ≠ none →
        run = .next ((joined r).answered p Code.submitSheet tag .ok (b16 n))) ∧
      (q.length < 8 → s.job lane = none → worklistLength lane s = 0 → s.tables.roots.get s.intake.current = none →
        (∀ e, e ∈ q → e.sheet.number = n → e.sheet.status ≠ .grading) →
        run = .next (((joined { r with status := .faulted, cls := some .regrade, fault := some .noRoot }).raise
          .ruleFault).answered p Code.submitSheet tag .ok (b16 n))) ∧
      (∀ d, q.length < 8 → s.job lane = none → worklistLength lane s = 0 →
        s.tables.roots.get s.intake.current = some d → (s.cache lane).lookupSpecies d (byteAt body 1) = none →
        byteAt body 1 < d.count → d.origin + byteAt body 1 ≤ 2047 →
        run = .next (((joined { r with status := .grading }).setJob lane (some
          { number := n, round := s.intake.round, code := byteAt body 1, slotHeld := some s.intake.current,
            descriptor := d, species := none, thickClass := none, walk := .species (d.origin + byteAt body 1), abandoned := false })).answered p
              Code.submitSheet tag .ok (b16 n))) ∧
      (∀ older e, 8 ≤ q.length → q = older ++ [e] →
        let full := { s.lane lane with
          queue := older ++ [{ e with sheet := { e.sheet with gapsAfter := min 15 (e.sheet.gapsAfter + 1) } }] }
        let t := (s.setLane lane full).raise .intakeOverrun
        run = .next ((if 15 ≤ e.sheet.gapsAfter then t.raise .laneDesync else t).answered p Code.submitSheet tag
          .overrun [])))) ∧
  (∀ (s : State) (u : Lane),
    let stored := fun (r : SheetRecord) (g : GradeResult) =>
      { r with cls := some g.cls, status := g.status, fault := g.fault,
               flags := r.flags.adding g.overdry g.noMoisture, thickClass := g.thickClass }
    let alone := fun n : Nat =>
      (∀ y, y ∈ (s.lane u).queue → y.sheet.number = n → y.sheet.status ≠ .grading) ∧
      (∀ y, y ∈ s.tracking.queue → y.sheet.lane = u → y.sheet.number = n → y.sheet.status = .grading → y.sheet.cls ≠ none)
    let begins := fun (r : SheetRecord) (place : SheetRecord → State) =>
      let code := r.species.getD 0
      let ends := fun g : GradeResult => alone r.number → gradeNext u s =
        gradeNext u ((place (stored r g)).raiseIf (decide (g.status = .faulted)) .ruleFault)
      let faults := fun (f : RuleFault) (k : Option Nat) => ends
        { cls := .regrade, status := .faulted, fault := some f, overdry := false, noMoisture := false, thickClass := k }
      let waits := fun (d : Descriptor) (c : Option SpeciesCopy) (k : Option Nat) (w : Walk) =>
        gradeNext u s = (place { r with status := .grading }).setJob u (some
          { number := r.number, round := r.round, code := code, slotHeld := some r.slot, descriptor := d, species := c,
            thickClass := k, walk := w, abandoned := false })
      (s.tables.roots.get r.slot = none → faults .noRoot none) ∧
      (∀ d, s.tables.roots.get r.slot = some d →
        let hit := (s.cache u).lookupSpecies d code
        (hit = none → d.count ≤ code → faults .speciesRange none) ∧
        (hit = none → code < d.count → 2047 < d.origin + code → faults .address none) ∧
        (hit = none → code < d.count → d.origin + code ≤ 2047 → waits d none none (.species (d.origin + code))) ∧
        (∀ c, hit = some c →
          let limit := c.content[2].toNat * 256 + c.content[3].toNat
          (∀ f, thicknessClass r.thickness c.content = .error f → faults f none) ∧
          (∀ k, thicknessClass r.thickness c.content = .ok k →
            let path := (s.cache u).lookupPath d code c.content k
            (∀ x, path = some x → ends (computeResult r k x)) ∧
            (path = none → 2047 < limit + k → faults .address (some k)) ∧
            (path = none → limit + k ≤ 2047 → waits d (some c) (some k) (.thickness (limit + k))))))
    let here := fun e : TrackEntry => e.sheet.lane = u ∧ e.sheet.status = .waiting ∧ e.sheet.cls = none
    (s.job u ≠ none → gradeNext u s = s) ∧
    ((∀ y, y ∈ s.tracking.queue → ¬ here y) → (∀ y, y ∈ (s.lane u).queue → y.sheet.status ≠ .waiting) →
      gradeNext u s = s) ∧
    (∀ older e newer, s.job u = none → s.tracking.queue = older ++ e :: newer → (∀ y, y ∈ older → ¬ here y) → here e →
      begins e.sheet fun r => s.setTracking { s.tracking with queue := older ++ { e with sheet := r } :: newer }) ∧
    (∀ older e newer, s.job u = none → (∀ y, y ∈ s.tracking.queue → ¬ here y) →
      (s.lane u).queue = older ++ e :: newer → (∀ y, y ∈ older → y.sheet.status ≠ .waiting) →
      e.sheet.status = .waiting →
      begins e.sheet fun r => s.setLane u { s.lane u with queue := older ++ { e with sheet := r } :: newer }))

/-- LANE RESYNC empties its lane's queue and gaps and abandons the grading of a removed record; the oldest record of a
lane that has reached the age limit expires, its gaps joining the lane's, and any other expiry does nothing. A
discarded record marks its own grading abandoned and gives up its slot (the model's reading, assumption 12), and
touches no other, not even one of its number from another round of the sheet counter (the round is the model's own,
assumption 21); so do several discarded together, and nothing but the gradings changes. That an expiry not due does nothing is the model's reading (assumption 1). -/
def Obligations.ResyncAndExpiryRemoveRecords : Prop :=
  ((∀ (s : State) (p : Port) (tag b : Byte), Ready s p → laneOf b.toNat = none →
     exec (.laneResync p tag [b]) s = .next (s.answered p Code.laneResync tag .badValue [])) ∧
   (∀ (s : State) (p : Port) (tag b : Byte) (l : Lane), Ready s p → laneOf b.toNat = some l →
     (∀ e, e ∈ (s.lane l).queue → e.sheet.lane = l) →
     let q := (s.lane l).queue
     let run := exec (.laneResync p tag [b]) s
     ((∀ j e, s.job l = some j → e ∈ q → e.sheet.number = j.number → e.sheet.round = j.round →
         e.sheet.status ≠ .grading) →
       run = .next ((s.setLane l ⟨[], 0⟩).answered p Code.laneResync tag .ok [b8 q.length])) ∧
     (∀ j e, s.job l = some j → e ∈ q → e.sheet.number = j.number → e.sheet.round = j.round →
         e.sheet.status = .grading → e.sheet.cls = none →
       run = .next (((s.setJob l (some { j with abandoned := true, slotHeld := none })).setLane l ⟨[], 0⟩).answered p
         Code.laneResync tag .ok [b8 q.length]))) ∧
   (∀ (s : State) (l : Lane), s.pins.resetHeld = false →
     (∀ e rest, (s.lane l).queue = e :: rest → s.intake.ageLimit ≤ e.age →
       exec (.recordExpired l) s = .next (((s.abandon e.sheet true).setLane l
         { queue := rest, gaps := min 15 ((s.lane l).gaps + e.sheet.gapsAfter) }).raise .recordExpired)) ∧
     ((∀ e rest, (s.lane l).queue = e :: rest → e.age < s.intake.ageLimit) → exec (.recordExpired l) s = .next s))) ∧
  (∀ (s : State) (r : SheetRecord),
     (∀ j, s.job r.lane = some j → j.number = r.number → j.round = r.round → r.status = .grading →
         (r.cls = none ∨ j.abandoned = true) →
       s.abandon r true = s.setJob r.lane (some { j with abandoned := true, slotHeld := none }) ∧
       s.abandon r false = s.setJob r.lane (some { j with abandoned := true })) ∧
     (∀ discarded, (s.job r.lane = none ∨ r.status ≠ .grading ∨ ∀ j, s.job r.lane = some j →
         j.number ≠ r.number ∨ j.round ≠ r.round ∨ (r.cls ≠ none ∧ j.abandoned = false)) →
       s.abandon r discarded = s)) ∧
  (∀ (s : State) (rs : List SheetRecord), GivesUp rs s (s.abandonAll rs) ∧
     ∃ g, s.abandonAll rs = { s with grading := g })

/-- MERGE EVENT: a pending gap, or the head record, or an unmeasured sheet, and its handover: taken by tracking that runs
with room, discarded and counted otherwise, with TRACK_OVERFLOW only for a full queue that runs. No notice for a queue
both full and FAULTED is the model's reading (assumption 13). The round of a number is the model's own (assumption 21). -/
def Obligations.MergeHandsOneSheetOver : Prop :=
  ∀ (s : State) (l : Lane), s.pins.resetHeld = false →
    let x := s.lane l
    let n := s.intake.counter
    let counted := s.setIntake { s.intake with
      counter := if n < 65535 then n + 1 else 1, round := if n < 65535 then s.intake.round else s.intake.round + 1 }
    let unmeasured : SheetRecord :=
      { number := n, lane := l, slot := s.intake.current, species := none, thickness := none, moisture := none,
        width := none, length := none, defects := [], flags := { unmeasured := true }, fault := none,
        status := .graded, cls := some .regrade, gapsAfter := 0, thickClass := none, round := s.intake.round }
    let handed := fun (r : SheetRecord) (t : State) =>
      let lost := (t.abandon r true).setRouting { t.routing with runOut := min 65535 (t.routing.runOut + 1) }
      if t.tracking.state = .faulted then lost
      else if t.tracking.queue.length < 32 then
        t.setTracking { t.tracking with
          queue := t.tracking.queue ++ [{ sheet := r, distance := 0, stack := none, drop := .noDrop, decided := false }] }
      else lost.raise .trackOverflow
    (0 < x.gaps → exec (.mergeEvent l) s = .next (handed unmeasured (counted.setLane l { x with gaps := x.gaps - 1 }))) ∧
    (∀ e rest, x.gaps = 0 → x.queue = e :: rest →
      exec (.mergeEvent l) s = .next (handed e.sheet (s.setLane l { queue := rest, gaps := e.sheet.gapsAfter }))) ∧
    (x.gaps = 0 → x.queue = [] → exec (.mergeEvent l) s = .next (handed unmeasured (counted.raise .unmeasuredSheet)))

/-! ## Grading (chapter 2) -/

/-- The thickness class: the four tests of stage 2 in their order, and the whole-number quotient when all pass.
What a record with a path copy is graded: BAD_DEFECT first, then REDRY above the redry limit, then the computed
grade raised for OVERDRY, DEFECTS_OMITTED and NO_MOISTURE in that order. -/
def Obligations.ClassTestsAndPathResult : Prop :=
  (∀ (t : Option Nat) (y : Cell16),
     let count := y[4].toNat
     let base := y[5].toNat * 256 + y[6].toNat
     let width := y[7].toNat * 256 + y[8].toNat
     (t = none → thicknessClass t y = .error .noThickness) ∧
     (∀ x, t = some x →
       ((count < 1 ∨ 8 < count ∨ width = 0) → thicknessClass t y = .error .format) ∧
       (1 ≤ count → count ≤ 8 → width ≠ 0 →
         (x < base → thicknessClass t y = .error .thicknessRange) ∧
         (∀ k, base ≤ x → k * width ≤ x - base → x - base < (k + 1) * width →
           (k < count → thicknessClass t y = .ok k) ∧
           (count ≤ k → thicknessClass t y = .error .thicknessRange))))) ∧
  (∀ (r : SheetRecord) (k : Nat) (p : PathCopy),
     let redry := p.thick[4].toNat * 256 + p.thick[5].toNat
     let overLimit := p.thick[6].toNat * 256 + p.thick[7].toNat
     let result := computeResult r k p
     let dry := r.moisture.any fun m => decide (m < overLimit)
     let g1 := if dry then min 6 (computedGrade r p + 1) else computedGrade r p
     let g2 := if r.flags.defectsOmitted then max g1 4 else g1
     let g3 := if r.moisture = none then max g2 3 else g2
     (r.flags.badDefect = true → result =
       { cls := .regrade, status := .faulted, fault := none, overdry := false, noMoisture := false,
         thickClass := some k }) ∧
     (∀ m, r.flags.badDefect = false → r.moisture = some m → redry < m → result =
       { cls := .redry, status := .graded, fault := none, overdry := false, noMoisture := false,
         thickClass := some k }) ∧
     (r.flags.badDefect = false → (∀ m, r.moisture = some m → m ≤ redry) →
       1 ≤ g3 ∧ g3 ≤ 6 ∧ result =
         { cls := [SheetClass.g1, .g2, .g3, .g4, .g5, .g6].getD (g3 - 1) .g6, status := .graded, fault := none,
           overdry := dry, noMoisture := decide (r.moisture = none), thickClass := some k }))

/-- The grade is the smallest of 1 to 5 whose density, open-count and open-size limits, read at their bytes of
the two limit cells, admit the sheet, or 6 if none does; the density is held at 65535, so a density limit of
65535 never fails. The three figures: a defect scores its size times the weight of its kind, halved with the
half dropped in the EDGE zone; the sum is held at 65535; the defects of kinds 1 to 3 are counted, and the
largest of them measured. -/
def Obligations.GradeFromDefectFigures : Prop :=
  (∀ (r : SheetRecord) (p : PathCopy),
     let score := defectScore p.lim1 r.defects
     let density := defectDensity score (r.width.getD 0 * r.length.getD 0)
     let count := openCount r.defects
     let size := openSize r.defects
     let limits := [(p.lim1, 4), (p.lim1, 9), (p.lim2, 1), (p.lim2, 6), (p.lim2, 11)].map fun (c, k) =>
       let b := fun i => (c.toList.getD (k + i) 0).toNat
       (b 0 * 256 + b 1, b 2, b 3 * 256 + b 4)
     let qualifies := fun g : Nat => ∃ x, limits[g - 1]? = some x ∧
       density ≤ x.1 ∧ count ≤ x.2.1 ∧ size ≤ x.2.2
     density ≤ 65535 ∧
     (∀ g, 1 ≤ g → g ≤ 5 → (computedGrade r p = g ↔ qualifies g ∧ ∀ h, 1 ≤ h → h < g → ¬ qualifies h)) ∧
     (computedGrade r p = 6 ↔ ∀ g, 1 ≤ g → g ≤ 5 → ¬ qualifies g)) ∧
  (∀ (lim1 : Cell16) (ds : List Defect),
     let weight := fun k : Nat => (lim1.toList.getD (1 + k / 2) 0).toNat / (if k % 2 = 0 then 1 else 16) % 16
     let score := fun d : Defect => d.size * weight d.kind / (if d.zone = .edge then 2 else 1)
     let isOpen := fun d : Defect => d.kind = 1 ∨ d.kind = 2 ∨ d.kind = 3
     ((∀ d, d ∈ ds → d.kind ≤ 5) → defectScore lim1 ds = min 65535 ((ds.map score).foldr (· + ·) 0)) ∧
     (∀ d, openCount (d :: ds) = openCount ds + (if isOpen d then 1 else 0)) ∧ openCount [] = 0 ∧
     (∀ d, d ∈ ds → isOpen d → d.size ≤ openSize ds) ∧
     (openSize ds = 0 ∨ ∃ d, d ∈ ds ∧ isOpen d ∧ d.size = openSize ds) ∧
     (∀ (w score : Nat), 0 < w → defectDensity score w = min 65535 (score * 1000000 / w)))

/-- GU WALK READ, when the arbiter's next grant is the unit's: the walk goes on, its copies are formed in the
cache or in OFF in the path buffer, and it ends in a fault or a result delivered to its record, in the intake
queue or PENDING in tracking, or for nobody when abandoned; otherwise it does nothing. A species read goes on at
once to the class tests and the path lookup. A unit that ends goes on in the same event to begin the next record of
its worklist, as SubmitSheetAcceptsOrOverruns states of gradeNext. That a read not due does nothing is the model's
reading (assumption 1). -/
def Obligations.WalkReadAdvancesGrading : Prop :=
  ∀ (s : State) (u : Lane), s.pins.resetHeld = false →
    (arbiterNext s ≠ some (unitRequester u) → exec (.guWalkRead u) s = .next s) ∧
    (∀ j, arbiterNext s = some (unitRequester u) → s.job u = some j →
      let t := s.setTables { s.tables with lastGrant := unitRequester u }
      let x := s.tables.mem.cell j.walk.next
      let run := exec (.guWalkRead u) s
      let inside := j.walk.next < 2048
      let limit := x[2].toNat * 256 + x[3].toNat
      let here := fun r : SheetRecord => r.number = j.number ∧ r.status = .grading
      let there := fun r : SheetRecord => r.lane = u ∧ here r ∧ r.cls = none
      let faulted := fun (f : RuleFault) (k : Option Nat) =>
        { cls := .regrade, status := .faulted, fault := some f, overdry := false, noMoisture := false,
          thickClass := k : GradeResult }
      let leaves := fun v : State =>
        run = .next (gradeNext u (v.setJob u none)) ∧ (worklistLength u s = 0 → run = .next (v.setJob u none))
      let ends := fun (v : State) (g : GradeResult) => leaves (v.raiseIf (decide (g.status = .faulted)) .ruleFault)
      let stored := fun (r : SheetRecord) (g : GradeResult) =>
        { r with cls := some g.cls, status := g.status, fault := g.fault,
                 flags := r.flags.adding g.overdry g.noMoisture, thickClass := g.thickClass }
      let delivers := fun (v : State) (cond : SheetRecord → Prop) (g : SheetRecord → GradeResult) =>
        inside → j.abandoned = false →
        (∀ older e newer, (s.lane u).queue = older ++ e :: newer → (∀ y, y ∈ older → ¬ here y.sheet) → here e.sheet →
          cond e.sheet → ends (v.setLane u { s.lane u with
            queue := older ++ { e with sheet := stored e.sheet (g e.sheet) } :: newer }) (g e.sheet)) ∧
        (∀ older e newer, (∀ y, y ∈ (s.lane u).queue → ¬ here y.sheet) → s.tracking.queue = older ++ e :: newer →
          (∀ y, y ∈ older → ¬ there y.sheet) → there e.sheet →
          cond e.sheet → ends (v.setTracking { s.tracking with
            queue := older ++ { e with sheet := stored e.sheet (g e.sheet) } :: newer }) (g e.sheet))
      (∀ n, j.walk = .thickness n → n < 2048 → x[0] = 2 → x[1].getLsbD 0 = true → limit + 1 ≤ 2047 →
        run = .next (t.setJob u (some { j with walk := .limits1 n x limit }))) ∧
      (∀ n c n', j.walk = .limits1 n c n' → n' < 2048 → x[0] = 3 →
        run = .next (t.setJob u (some { j with walk := .limits2 n c n' x (n' + 1) }))) ∧
      (∀ f, j.walk.feed x = .fault f →
        (inside → j.abandoned = true → leaves t) ∧
        delivers t (fun _ => True) fun _ => faulted f j.thickClass) ∧
      (∀ n, j.walk = .species n → n < 2048 → x[0] = 1 → x[1].getLsbD 0 = true →
        let shared := x[1].getLsbD 1 && !j.descriptor.isolated
        let formed := (s.cache u).form
          (.species (if shared then none else some j.descriptor.origin) j.code { cell := n, content := x })
        let v := t.setCache u formed
        let hit := fun (r : SheetRecord) (k : Nat) => formed.lookupPath j.descriptor (r.species.getD 0) x k
        (inside → j.abandoned = true → leaves v) ∧
        (∀ e k, j.abandoned = false → recordInGrading u j.number s = some e → thicknessClass e.thickness x = .ok k →
          limit + k ≤ 2047 → hit e k = none →
          run = .next (v.setJob u (some { j with
            species := some { cell := n, content := x }, thickClass := some k, walk := .thickness (limit + k) }))) ∧
        (∀ f, delivers v (fun r => thicknessClass r.thickness x = .error f) fun _ => faulted f none) ∧
        (∀ k path, delivers v (fun r => thicknessClass r.thickness x = .ok k ∧ hit r k = some path) fun r =>
          computeResult r k path) ∧
        (∀ k, 2047 < limit + k → delivers v (fun r => thicknessClass r.thickness x = .ok k ∧ hit r k = none) fun _ =>
          faulted .address (some k))) ∧
      (∀ n c n' c' n'' copy k, j.walk = .limits2 n c n' c' n'' → x[0] = 4 → j.species = some copy →
        j.thickClass = some k →
        let path : PathCopy :=
          { thickCell := n, lim1Cell := n', lim2Cell := n'', thick := c, lim1 := c', lim2 := x }
        let cache := s.cache u
        let kept := if cache.buffer.length < 2 then cache.buffer else cache.buffer.drop 1
        let formed := t.setCache u (if cache.mode = .off then
            { cache with buffer := kept ++
              [{ origin := j.descriptor.origin, code := j.code, index := k, species := copy, path := path }] }
          else cache.form (.path (copy.content[2].toNat * 256 + copy.content[3].toNat) k path))
        (inside → j.abandoned = true → leaves formed) ∧
        delivers formed (fun _ => True) fun r => computeResult r k path))

/-! ## The arbiter (R50) -/

/-- Some waiting requester is granted whenever one waits, and only a waiting one; a requester that goes on waiting sees no
other granted twice before it. -/
def Obligations.ArbiterServesEachInTurn : Prop :=
  (∀ (s : State) (r : Requester), arbiterNext s = some r → isWaiting s r = true) ∧
  (∀ (s : State) (r : Requester), isWaiting s r = true → arbiterNext s ≠ none) ∧
  (∀ (s t v : State) (r g h : Requester), isWaiting s r = true → arbiterNext s = some g → g ≠ r →
    t.tables.lastGrant = g → isWaiting t r = true → arbiterNext t = some h → h ≠ r →
    h ≠ g ∧ (v.tables.lastGrant = h → isWaiting v r = true → arbiterNext v = some r)) ∧
  (∀ (s : State) (r : Requester), isWaiting s r = true → (∀ h, isWaiting s h = true → h = r) → arbiterNext s = some r)

/-! ## Table requests (R50 to R60, R75 to R80) -/

/-- A request of the tables with a field out of its range is refused BAD_VALUE; one that passes its checks becomes its
port's pending request at the tail of the port path queue: at once for the four that need one access, and for PROBE PATH
and LOCK PATHS behind a request that has been taken. -/
def Obligations.TableRequestsJoinPortPath : Prop :=
  ∀ (s : State) (p : Port) (tag : Byte), Ready s p →
    let refused := fun (i : Instr) (code : Byte) => exec i s = .next (s.answered p code tag .badValue [])
    let joins := fun (i : Instr) (code : Byte) (w : TableWork) =>
      exec i s = .next (s.queued { port := p, code := code, tag := tag, work := w })
    (∀ body, body.length = 18 →
      ((2047 < wordAt body 0 ∨ 4 < byteAt body 2) → refused (.writeCell p tag body) Code.writeCell) ∧
      (wordAt body 0 ≤ 2047 → byteAt body 2 ≤ 4 → HeadTaken s.tables.portPath →
        joins (.writeCell p tag body) Code.writeCell (.write (wordAt body 0) (cellAt body 2)))) ∧
    (∀ body, body.length = 2 →
      (2047 < wordAt body 0 → refused (.readCell p tag body) Code.readCell) ∧
      (wordAt body 0 ≤ 2047 → HeadTaken s.tables.portPath →
        joins (.readCell p tag body) Code.readCell (.read (wordAt body 0)))) ∧
    (∀ body, body.length = 35 →
      ((2047 < wordAt body 0 ∨ 4 < byteAt body 2 ∨ 4 < byteAt body 18 ∨ 2 < byteAt body 34) →
        refused (.replaceCell p tag body) Code.replaceCell) ∧
      (∀ scope, wordAt body 0 ≤ 2047 → byteAt body 2 ≤ 4 → byteAt body 18 ≤ 4 → scopeOf (byteAt body 34) = some scope →
        HeadTaken s.tables.portPath →
        joins (.replaceCell p tag body) Code.replaceCell
          (.replace (wordAt body 0) (cellAt body 2) (cellAt body 18) scope))) ∧
    (∀ body, body.length = 3 →
      ((2047 < wordAt body 0 ∨ 2 < byteAt body 2) → refused (.invalidateCell p tag body) Code.invalidateCell) ∧
      (∀ scope, wordAt body 0 ≤ 2047 → scopeOf (byteAt body 2) = some scope → HeadTaken s.tables.portPath →
        joins (.invalidateCell p tag body) Code.invalidateCell (.invalidate (wordAt body 0) scope))) ∧
    (∀ body, body.length = 6 →
      ((1 < byteAt body 0 ∨ 15 < byteAt body 1 ∨ (9999 < wordAt body 2 ∧ wordAt body 2 ≠ 0xFFFF) ∨ 1 < byteAt body 4 ∨
        1 < byteAt body 5) → refused (.probePath p tag body) Code.probePath) ∧
      (∀ a : ProbeArgs, slotOf (byteAt body 0) = some a.slot → byteAt body 1 = a.code → a.code ≤ 15 →
        probeThickness (wordAt body 2) = some a.thickness → unitOf (byteAt body 4) = some a.unit →
        yesNo (byteAt body 5) = some a.useCache → HeadTaken s.tables.portPath → s.tables.portPath ≠ [] →
        joins (.probePath p tag body) Code.probePath (.probe a none))) ∧
    (∀ body, body.length = 3 + 2 * byteAt body 2 →
      ((1 < byteAt body 0 ∨ 1 < byteAt body 1 ∨ byteAt body 2 < 1 ∨ 8 < byteAt body 2 ∨
        ∃ i, i < byteAt body 2 ∧ (15 < byteAt body (3 + 2 * i) ∨ 7 < byteAt body (4 + 2 * i))) →
        refused (.lockPaths p tag body) Code.lockPaths) ∧
      (∀ a : LockArgs, unitOf (byteAt body 0) = some a.unit → slotOf (byteAt body 1) = some a.slot →
        byteAt body 2 = a.paths.length → 1 ≤ a.paths.length → a.paths.length ≤ 8 →
        (∀ i, i < a.paths.length →
          a.paths[i]? = some (byteAt body (3 + 2 * i), byteAt body (4 + 2 * i)) ∧
          byteAt body (3 + 2 * i) ≤ 15 ∧ byteAt body (4 + 2 * i) ≤ 7) →
        HeadTaken s.tables.portPath → s.tables.portPath ≠ [] →
        joins (.lockPaths p tag body) Code.lockPaths (.lock a none)))

/-- PROBE PATH and LOCK PATHS on an empty port path queue are taken as they join: an absent root gives NO_ROOT with no
access, a cache hit of both levels is reported with no access, and a walk waits for the species cell; LOCK PATHS puts the
named cache into SPLIT in the same event. One that waited behind another request is taken in the same way as it reaches
the head: it waits for its first read, or is answered and the next request reaches the head. That a probe whose path
level ends in a fault reports path source none is assumption 29. -/
def Obligations.ProbeAndLockAreTakenAtHead : Prop :=
  (∀ (s : State) (p : Port) (tag : Byte), Ready s p → s.tables.portPath = [] →
    (∀ (body : List Byte) (a : ProbeArgs), checkProbePath body = .ok (.probe a none) →
      let run := exec (.probePath p tag body) s
      let root := s.tables.roots.get a.slot
      (root = none → run = .next (s.answered p Code.probePath tag .ok (probeBytes { fault := some .noRoot }))) ∧
      (∀ d, root = some d → (a.useCache = false ∨ (s.cache a.unit).lookupSpecies d a.code = none) →
        (d.count ≤ a.code → run = .next (s.answered p Code.probePath tag .ok
          (probeBytes { fault := some .speciesRange }))) ∧
        (a.code < d.count → 2047 < d.origin + a.code → run = .next (s.answered p Code.probePath tag .ok
          (probeBytes { fault := some .address }))) ∧
        (a.code < d.count → d.origin + a.code ≤ 2047 → run = .next (s.queued
          { port := p, code := Code.probePath, tag := tag,
            work := .probe a (some { descriptor := d, report := {}, walk := .species (d.origin + a.code) }) }))) ∧
      (∀ d c k path, root = some d → a.useCache = true → (s.cache a.unit).lookupSpecies d a.code = some c →
        thicknessClass a.thickness c.content = .ok k →
        (s.cache a.unit).lookupPath d a.code c.content k = some path →
        run = .next (s.answered p Code.probePath tag .ok (probeBytes
          { fault := none, speciesSource := .cache, speciesCell := some c.cell, index := some k, pathSource := .cache,
            thickCell := some path.thickCell, limitOrigin := some path.lim1Cell, accesses := 0 })))) ∧
    (∀ (body : List Byte) (a : LockArgs), checkLockPaths body = .ok (.lock a none) →
      let run := exec (.lockPaths p tag body) s
      let root := s.tables.roots.get a.slot
      let t := s.setCache a.unit ((s.cache a.unit).setMode .split)
      (root = none → run = .next (t.answered p Code.lockPaths tag .ok
        (b8 a.paths.length :: List.replicate a.paths.length 0x01))) ∧
      (∀ d code index rest, root = some d → a.paths = (code, index) :: rest → code < d.count →
        d.origin + code ≤ 2047 → run = .next (t.queued
          { port := p, code := Code.lockPaths, tag := tag,
            work := .lock a (some { descriptor := d, results := [], code := code, index := index, rest := rest,
                                    species := none, walk := .species (d.origin + code) }) })))) ∧
  (∀ s : State, s.tables.portPath = [] → ∀ n, takeHead n s = s) ∧
  (∀ (s : State) (q : PathRequest) (rest : List PathRequest), s.tables.portPath = q :: rest →
    (q.work.cell ≠ none → ∀ n, takeHead n s = s) ∧
    (∀ n : Nat,
      let run := takeHead (n + 1) s
      let stays := fun (t : State) (w : TableWork) =>
        run = t.setTables { t.tables with portPath := { q with work := w } :: rest }
      let leaves := fun (t : State) (body : List Byte) =>
        let v := t.setTables { t.tables with portPath := rest }
        run = takeHead n ((v.setPort q.port { v.port q.port with pending := none }).answer q.port q.code q.tag .ok body)
      (∀ a, q.work = .probe a none →
        let reports := fun r : ProbeReport => leaves s (probeBytes r)
        let root := s.tables.roots.get a.slot
        (root = none → reports { fault := some .noRoot }) ∧
        (∀ d, root = some d →
          let waits := fun (r : ProbeReport) (w : Walk) =>
            stays s (.probe a (some { descriptor := d, report := r, walk := w }))
          let hit := if a.useCache then (s.cache a.unit).lookupSpecies d a.code else none
          (hit = none → d.count ≤ a.code → reports { fault := some .speciesRange }) ∧
          (hit = none → a.code < d.count → 2047 < d.origin + a.code → reports { fault := some .address }) ∧
          (hit = none → a.code < d.count → d.origin + a.code ≤ 2047 → waits {} (.species (d.origin + a.code))) ∧
          (∀ c, hit = some c →
            let found : ProbeReport := { speciesSource := .cache, speciesCell := some c.cell }
            let limit := c.content[2].toNat * 256 + c.content[3].toNat
            (∀ f, thicknessClass a.thickness c.content = .error f → reports { found with fault := some f }) ∧
            (∀ k, thicknessClass a.thickness c.content = .ok k →
              let path := (s.cache a.unit).lookupPath d a.code c.content k
              (∀ x, path = some x → reports { found with
                index := some k, pathSource := .cache, thickCell := some x.thickCell, limitOrigin := some x.lim1Cell }) ∧
              (path = none → 2047 < limit + k → reports { found with index := some k, fault := some .address }) ∧
              (path = none → limit + k ≤ 2047 → waits { found with index := some k } (.thickness (limit + k))))))) ∧
      (∀ a, q.work = .lock a none →
        let t := s.setCache a.unit ((s.cache a.unit).setMode .split)
        let root := s.tables.roots.get a.slot
        (root = none → leaves t (b8 a.paths.length :: List.replicate a.paths.length 0x01)) ∧
        (∀ d, root = some d →
          let fault := fun code : Nat => if d.count ≤ code then RuleFault.speciesRange else .address
          let early := fun x : Nat × Nat => d.count ≤ x.1 ∨ 2047 < d.origin + x.1
          ((∀ x, x ∈ a.paths → early x) →
            leaves t (b8 a.paths.length :: a.paths.map fun x => b8 (faultCode (some (fault x.1))))) ∧
          (∀ before code index more, a.paths = before ++ (code, index) :: more → (∀ x, x ∈ before → early x) →
            ¬ early (code, index) →
            stays t (.lock a (some { descriptor := d, results := before.map fun x => .fault (fault x.1), code := code,
                                     index := index, rest := more, species := none,
                                     walk := .species (d.origin + code) })))))))

/-- PORT ACCESS GRANT, when the arbiter's next grant is the port path's, makes the access of the request at the
head, answers it and lets the next request come to the head: WRITE CELL writes, READ CELL reads, REPLACE CELL
compares and writes with its purge or answers MISMATCH, INVALIDATE CELL clears the valid indication with its
purge or answers WRONG_LEVEL, the last read of a probe ends in its report, and a FORMAT fault of the only path
left of a LOCK PATHS ends it. A PROBE PATH or LOCK PATHS that so reaches the head is taken, as
ProbeAndLockAreTakenAtHead states of takeHead. That a grant not due does nothing is the model's reading (assumption 1), and so is
path source none after a path walk that faults (assumption 29). -/
def Obligations.PortAccessServesHead : Prop :=
  ∀ (s : State), s.pins.resetHeld = false →
    (arbiterNext s ≠ some .port → exec .portAccessGrant s = .next s) ∧
    (∀ q rest n, arbiterNext s = some .port → s.tables.portPath = q :: rest → n < 2048 →
      let x := s.tables.mem.cell n
      let base := { s.tables with lastGrant := .port, portPath := rest }
      let free := fun t : State => t.setPort q.port { t.port q.port with pending := none }
      let ends := fun (t : State) (st : Status) (body : List Byte) =>
        let left := (free t).answer q.port q.code q.tag st body
        exec .portAccessGrant s = .next (takeHead rest.length left) ∧
          (HeadTaken rest → exec .portAccessGrant s = .next left)
      let t := s.setTables base
      let edited := fun (y : Cell16) (scope : Scope) =>
        (s.setTables { base with mem := s.tables.mem.setCell n y }).onCaches scope fun c => c.purgedOf n
      (∀ y, q.work = .write n y → ends (s.setTables { base with mem := s.tables.mem.setCell n y }) .ok []) ∧
      (q.work = .read n → ends t .ok x.toList) ∧
      (∀ new scope, q.work = .replace n x new scope → ends (edited new scope) .ok []) ∧
      (∀ expected new scope, q.work = .replace n expected new scope → expected ≠ x → ends t .mismatch x.toList) ∧
      (∀ scope, q.work = .invalidate n scope →
        ((x[0] = 1 ∨ x[0] = 2) → ends (edited (x.set 1 (x[1] &&& 0xFE)) scope) .ok [if x[1].getLsbD 0 then 1 else 0]) ∧
        (x[0] ≠ 1 → x[0] ≠ 2 → ends t .wrongLevel [])) ∧
      (∀ a run n' y n'' y', q.work = .probe a (some run) → run.walk = .limits2 n' y n'' y' n →
        let read := { run.report with accesses := run.report.accesses + 1 }
        (x[0] = 4 → ends t .ok (probeBytes { read with pathSource := .walk })) ∧
        (x[0] ≠ 4 → ends t .ok (probeBytes { read with fault := some .format }))) ∧
      (∀ a run, q.work = .lock a (some run) → run.walk = .species n → run.rest = [] → x[0] ≠ 1 →
        ends t .ok (b8 (run.results.length + 1) :: run.results.map (fun r => b8 r.code) ++ [0x04])))

/-- The reads of a PROBE PATH and of a LOCK PATHS before the last, and how they end. A probe reports each cell
it has reached, looks its unit's cache up as it stands if asked to, and ends with the first fault; LOCK PATHS
locks each level as its walk ends, tests the path's index, and its result for the path is the fault, or LOCKED
exactly if both levels stand locked in SPLIT; then it goes on to the next path. As one ends, the next request of
the port path is taken, as ProbeAndLockAreTakenAtHead states of takeHead. That a path walk that faults has
path source none is assumption 29. -/
def Obligations.ProbeAndLockWalksGoOn : Prop :=
  ∀ (s : State) (q : PathRequest) (rest : List PathRequest) (n : Nat), s.pins.resetHeld = false →
    arbiterNext s = some .port → s.tables.portPath = q :: rest → n < 2048 →
    let x := s.tables.mem.cell n
    let run := exec .portAccessGrant s
    let limit := x[2].toNat * 256 + x[3].toNat
    let goes := fun (t : State) (w : TableWork) => run = .next
      (t.setTables { s.tables with lastGrant := .port, portPath := { q with work := w } :: rest })
    let ends := fun (t : State) (body : List Byte) =>
      let v := t.setTables { s.tables with lastGrant := .port, portPath := rest }
      let left := (v.setPort q.port { v.port q.port with pending := none }).answer q.port q.code q.tag .ok body
      run = .next (takeHead rest.length left) ∧ (HeadTaken rest → run = .next left)
    let step := fun (w : Walk) =>
      match w with
      | .species m => m = n
      | .thickness m => m = n
      | .limits1 _ _ m => m = n
      | .limits2 _ _ _ _ m => m = n
    (∀ a r, q.work = .probe a (some r) → step r.walk →
      let d := r.descriptor
      let reports := fun p : ProbeReport => ends s (probeBytes p)
      let waits := fun (p : ProbeReport) (w : Walk) => goes s (.probe a (some { descriptor := d, report := p, walk := w }))
      let read := { r.report with accesses := r.report.accesses + 1 }
      (r.walk = .species n →
        let found := { read with speciesCell := some n }
        let walked := { found with speciesSource := .walk }
        let hit := fun k => if a.useCache then (s.cache a.unit).lookupPath d a.code x k else none
        (x[0] ≠ 1 → reports { found with fault := some .format }) ∧
        (x[0] = 1 → x[1].getLsbD 0 = false → reports { found with fault := some .speciesInvalid }) ∧
        (x[0] = 1 → x[1].getLsbD 0 = true →
          (∀ f, thicknessClass a.thickness x = .error f → reports { walked with fault := some f }) ∧
          (∀ k, thicknessClass a.thickness x = .ok k →
            (∀ p, hit k = some p → reports { walked with
              index := some k, pathSource := .cache, thickCell := some p.thickCell, limitOrigin := some p.lim1Cell }) ∧
            (hit k = none → 2047 < limit + k → reports { walked with index := some k, fault := some .address }) ∧
            (hit k = none → limit + k ≤ 2047 → waits { walked with index := some k } (.thickness (limit + k)))))) ∧
      (r.walk = .thickness n →
        let found := { read with thickCell := some n }
        (x[0] ≠ 2 → reports { found with fault := some .format }) ∧
        (x[0] = 2 → x[1].getLsbD 0 = false → reports { found with fault := some .thicknessInvalid }) ∧
        (x[0] = 2 → x[1].getLsbD 0 = true → 2047 < limit + 1 → reports { found with fault := some .address }) ∧
        (x[0] = 2 → x[1].getLsbD 0 = true → limit + 1 ≤ 2047 → waits found (.limits1 n x limit))) ∧
      (∀ m y, r.walk = .limits1 m y n →
        let found := { read with limitOrigin := some n }
        (x[0] ≠ 3 → reports { found with fault := some .format }) ∧
        (x[0] = 3 → waits found (.limits2 m y n x (n + 1))))) ∧
    (∀ a r, q.work = .lock a (some r) → step r.walk →
      let cache := s.cache a.unit
      let results := fun y => ends y ∘ fun rs : List LockResult => b8 rs.length :: rs.map fun r => b8 r.code
      let result := fun (y : State) (z : LockResult) =>
        let d := r.descriptor
        let fault := fun code : Nat => LockResult.fault (if d.count ≤ code then .speciesRange else .address)
        let early := fun x : Nat × Nat => d.count ≤ x.1 ∨ 2047 < d.origin + x.1
        ((∀ x, x ∈ r.rest → early x) → results y (r.results ++ z :: r.rest.map fun x => fault x.1)) ∧
        (∀ before code index more, r.rest = before ++ (code, index) :: more → (∀ x, x ∈ before → early x) →
          ¬ early (code, index) → goes y (.lock a (some
            { descriptor := d, results := r.results ++ z :: before.map fun x => fault x.1, code := code,
              index := index, rest := more, species := none, walk := .species (d.origin + code) })))
      let waits := fun (y : State) (c : Option SpeciesCopy) (w : Walk) =>
        goes y (.lock a (some { r with species := c, walk := w }))
      (r.walk = .species n →
        let copy : SpeciesCopy := { cell := n, content := x }
        let owner := if x[1].getLsbD 1 && !r.descriptor.isolated then none else some r.descriptor.origin
        let y := s.setCache a.unit (cache.lockEntry (.species owner r.code copy))
        let count := x[4].toNat
        let exists_ := 1 ≤ count ∧ count ≤ 8 ∧ (x[7] ≠ 0 ∨ x[8] ≠ 0)
        (x[0] ≠ 1 → result s (.fault .format)) ∧
        (x[0] = 1 → x[1].getLsbD 0 = false → result s (.fault .speciesInvalid)) ∧
        (x[0] = 1 → x[1].getLsbD 0 = true →
          (¬ exists_ → result y (.fault .format)) ∧
          (exists_ → count ≤ r.index → result y (.fault .thicknessRange)) ∧
          (exists_ → r.index < count → 2047 < limit + r.index → result y (.fault .address)) ∧
          (exists_ → r.index < count → limit + r.index ≤ 2047 →
            waits y (some copy) (.thickness (limit + r.index))))) ∧
      (r.walk = .thickness n →
        (x[0] ≠ 2 → result s (.fault .format)) ∧
        (x[0] = 2 → x[1].getLsbD 0 = false → result s (.fault .thicknessInvalid)) ∧
        (x[0] = 2 → x[1].getLsbD 0 = true → 2047 < limit + 1 → result s (.fault .address)) ∧
        (x[0] = 2 → x[1].getLsbD 0 = true → limit + 1 ≤ 2047 → waits s r.species (.limits1 n x limit))) ∧
      (∀ m y, r.walk = .limits1 m y n →
        (x[0] ≠ 3 → result s (.fault .format)) ∧
        (x[0] = 3 → waits s r.species (.limits2 m y n x (n + 1)))) ∧
      (∀ m y m' y', r.walk = .limits2 m y m' y' n →
        (x[0] ≠ 4 → result s (.fault .format)) ∧
        (∀ c, x[0] = 4 → r.species = some c →
          let owner := if c.content[1].getLsbD 1 && !r.descriptor.isolated then none else some r.descriptor.origin
          let species := CacheBody.species owner r.code c
          let path := CacheBody.path (c.content[2].toNat * 256 + c.content[3].toNat) r.index
            { thickCell := m, lim1Cell := m', lim2Cell := n, thick := y, lim1 := y', lim2 := x }
          let after := cache.lockEntry path
          let stands := fun b : CacheBody => ∃ e, e ∈ after.entries ∧ e.locked = true ∧ e.body.tag = b.tag
          (after.mode = .split ∧ stands species ∧ stands path → result (s.setCache a.unit after) .locked) ∧
          (¬ (after.mode = .split ∧ stands species ∧ stands path) → result (s.setCache a.unit after) .notLocked))))

/-- The purge by an edited cell removes exactly the entries and buffer entries copied from it, in the caches of its scope
only, and leaves the mode. LOCK PATHS changes the cache by its rows: a locked entry of the tag is kept, an unlocked
one is removed, and a locked entry is formed if fewer than eight are present; once SPLIT has been left it changes
nothing (that an unlocked entry of the tag stays then is the model's choice, assumption 31). -/
def Obligations.EditPurgesAndLocksByRows : Prop :=
  ((∀ (x : RuleCache) (n : Nat),
     (x.purgedOf n).mode = x.mode ∧
     (∀ e, e ∈ (x.purgedOf n).entries ↔ e ∈ x.entries ∧ n ∉ e.body.sources) ∧
     (∀ e, e ∈ (x.purgedOf n).buffer ↔ e ∈ x.buffer ∧ n ∉ e.sources) ∧
     List.Sublist (x.purgedOf n).entries x.entries ∧ List.Sublist (x.purgedOf n).buffer x.buffer) ∧
   (∀ (s : State) (scope : Scope) (n : Nat) (u : Lane),
     (s.onCaches scope fun c => c.purgedOf n).cache u =
       if scope = .both ∨ (scope = .gu1 ∧ u = .lane1) ∨ (scope = .gu2 ∧ u = .lane2) then (s.cache u).purgedOf n
       else s.cache u)) ∧
  (∀ (x : RuleCache) (b : CacheBody),
     (x.mode ≠ .split → x.lockEntry b = x) ∧
     (x.mode = .split →
       ((∃ e, e ∈ x.entries ∧ e.locked = true ∧ e.body.tag = b.tag) → x.lockEntry b = x) ∧
       ((∀ e, e ∈ x.entries → e.locked = true → e.body.tag ≠ b.tag) →
         let kept := x.entries.filter fun e => decide (e.body.tag ≠ b.tag)
         (x.lockedCount < 8 → x.lockEntry b = { x with entries := kept ++ [{ body := b, locked := true }] }) ∧
         (8 ≤ x.lockedCount → x.lockEntry b = { x with entries := kept }))))

/-- An entry is formed by a grading's walk by the mode: kept out by an entry of its tag, into 16 places in
NORMAL or 8 besides the locked ones in SPLIT, the earliest unlocked entry giving way. The species level is
looked up by its tag, the root's own before the shared one, which serves no isolated root; the path level by the
thickness table origin of the content in use and the class. In OFF the path buffer is looked up by its key, the
newer of two matches giving the species, and takes a third entry in place of the older. -/
def Obligations.CacheFormsAndFindsByTag : Prop :=
  (∀ (x : RuleCache) (b : CacheBody),
    (x.mode = .off → x.form b = x) ∧
    (x.mode ≠ .off → (∃ e, e ∈ x.entries ∧ e.body.tag = b.tag) → x.form b = x) ∧
    (x.mode ≠ .off → (∀ e, e ∈ x.entries → e.body.tag ≠ b.tag) →
      let room := if x.mode = .split then 8 else 16
      (x.entries.countP (fun e => !e.locked) < room →
        x.form b = { x with entries := x.entries ++ [{ body := b, locked := false }] }) ∧
      (∀ older e newer, room ≤ x.entries.countP (fun e => !e.locked) → x.entries = older ++ e :: newer →
        (∀ y, y ∈ older → y.locked = true) → e.locked = false →
        x.form b = { x with entries := older ++ newer ++ [{ body := b, locked := false }] }))) ∧
  (∀ (x : RuleCache) (d : Descriptor) (code : Nat), x.mode ≠ .off →
    let own := fun e : CacheEntry => e.body.tag = .species d.origin code
    let shared := fun e : CacheEntry => e.body.tag = .shared code
    (d.count ≤ code → x.lookupSpecies d code = none) ∧
    (code < d.count → (∀ e, e ∈ x.entries → ¬ own e) → (d.isolated = true ∨ ∀ e, e ∈ x.entries → ¬ shared e) →
      x.lookupSpecies d code = none) ∧
    (∀ older e newer c, code < d.count → x.entries = older ++ e :: newer → (∀ y, y ∈ older → ¬ own y) →
      e.body = .species (some d.origin) code c → x.lookupSpecies d code = some c) ∧
    (∀ older e newer c, code < d.count → d.isolated = false → (∀ y, y ∈ x.entries → ¬ own y) →
      x.entries = older ++ e :: newer → (∀ y, y ∈ older → ¬ shared y) → e.body = .species none code c →
      x.lookupSpecies d code = some c)) ∧
  (∀ (x : RuleCache) (d : Descriptor) (code : Nat) (content : Cell16) (k : Nat), x.mode ≠ .off →
    let origin := content[2].toNat * 256 + content[3].toNat
    ((∀ e, e ∈ x.entries → e.body.tag ≠ .path origin k) → x.lookupPath d code content k = none) ∧
    (∀ older e newer p, x.entries = older ++ e :: newer → (∀ y, y ∈ older → y.body.tag ≠ .path origin k) →
      e.body = .path origin k p → x.lookupPath d code content k = some p)) ∧
  (∀ (x : RuleCache) (d : Descriptor) (code : Nat) (content : Cell16) (k : Nat), x.mode = .off →
    let level := fun e : BufferEntry => e.origin = d.origin ∧ e.code = code
    let whole := fun e : BufferEntry => level e ∧ e.index = k
    (d.count ≤ code → x.lookupSpecies d code = none) ∧
    (code < d.count → (∀ e, e ∈ x.buffer → ¬ level e) → x.lookupSpecies d code = none) ∧
    (∀ older e newer, code < d.count → x.buffer = older ++ e :: newer → level e → (∀ y, y ∈ newer → ¬ level y) →
      x.lookupSpecies d code = some e.species) ∧
    ((∀ e, e ∈ x.buffer → ¬ whole e) → x.lookupPath d code content k = none) ∧
    (∀ older e newer, x.buffer = older ++ e :: newer → whole e → (∀ y, y ∈ older ++ newer → ¬ whole y) →
      x.lookupPath d code content k = some e.path)) ∧
  (∀ (x : RuleCache) (e : BufferEntry),
    (x.buffer.length < 2 → x.formBuffer e = { x with buffer := x.buffer ++ [e] }) ∧
    (∀ older newer, x.buffer = [older, newer] → x.formBuffer e = { x with buffer := [newer, e] }))

/-! ## Root slots and cache requests (R47, R48, R70, R71, R79) -/

/-- WRITE ROOT replaces a slot that is neither current nor held by an ungraded record or a grading, and refuses
any other; CHANGEOVER makes the other slot current if it is present. That a grading holds its slot from its
begin to the end of its resolution, the decision point of its record notwithstanding, is the model's reading
(assumption 12). -/
def Obligations.RootRequestsKeepUsedSlots : Prop :=
  (∀ (s : State) (p : Port) (tag slot flags hi lo count : Byte), Ready s p →
    let run := exec (.writeRoot p tag [slot, flags, hi, lo, count]) s
    let present := flags.getLsbD 0
    let d : Option Descriptor :=
      if present then some { origin := hi.toNat * 256 + lo.toNat, count := count.toNat, isolated := flags.getLsbD 1 }
      else none
    let refused := fun st => run = .next (s.answered p Code.writeRoot tag st [])
    (1 < slot.toNat → refused .badValue) ∧
    (∀ k, slotOf slot.toNat = some k →
      let held := (∃ l e, e ∈ (s.lane l).queue ∧ e.sheet.slot = k ∧ e.sheet.status = .waiting ∧ e.sheet.cls = none) ∨
        (∃ e, e ∈ s.tracking.queue ∧ e.sheet.slot = k ∧ e.sheet.status = .waiting ∧ e.sheet.cls = none) ∨
        (∃ u j, s.job u = some j ∧ j.slotHeld = some k)
      let bad := present = true ∧ (count.toNat < 1 ∨ 16 < count.toNat)
      (bad → refused .badValue) ∧
      (¬ bad → (s.intake.current = k ∨ held) → refused .inUse) ∧
      (¬ bad → s.intake.current ≠ k → ¬ held →
        run = .next ((s.setTables { s.tables with roots := s.tables.roots.set k d }).answered p Code.writeRoot tag
          .ok [])))) ∧
  (∀ (s : State) (p : Port) (tag : Byte), Ready s p →
    let k := otherSlot s.intake.current
    (s.tables.roots.get k = none →
      exec (.changeover p tag []) s = .next (s.answered p Code.changeover tag .wrongState [])) ∧
    (∀ d, s.tables.roots.get k = some d →
      exec (.changeover p tag []) s = .next ((s.setIntake { s.intake with current := k }).answered p Code.changeover tag
        .ok [b8 k.code])))

/-- SET CACHE MODE and PURGE CACHE act on the named caches only, answer what each had, and refuse a unit or value that is
none of theirs, SPLIT included. -/
def Obligations.CacheRequestsActOnNamedCaches : Prop :=
  ∀ (s : State) (p : Port) (tag a b : Byte), Ready s p →
    let named := fun (scope : Scope) (u : Lane) => scope = .both ∨ scope = (match u with
      | .lane1 => .gu1
      | .lane2 => .gu2)
    let on := fun (scope : Scope) (f : RuleCache → RuleCache) =>
      let one := if named scope .lane1 then s.setCache .lane1 (f (s.cache .lane1)) else s
      if named scope .lane2 then one.setCache .lane2 (f (s.cache .lane2)) else one
    let byte := fun (scope : Scope) (u : Lane) (n : Nat) => if named scope u then b8 n else 0xFF
    ((2 < a.toNat ∨ (b.toNat ≠ 0 ∧ b.toNat ≠ 2)) →
      exec (.setCacheMode p tag [a, b]) s = .next (s.answered p Code.setCacheMode tag .badValue [])) ∧
    (∀ scope m, scopeOf a.toNat = some scope → (m = .normal ∧ b = 0 ∨ m = .off ∧ b = 2) →
      let f := fun x : RuleCache =>
        if x.mode = m then x
        else if x.mode = .split ∧ m = .normal then
          { x with mode := .normal, entries := x.entries.map fun e => { e with locked := false } }
        else { mode := m, entries := [], buffer := [] }
      exec (.setCacheMode p tag [a, b]) s = .next ((on scope f).answered p Code.setCacheMode tag .ok
        [byte scope .lane1 (s.cache .lane1).mode.code, byte scope .lane2 (s.cache .lane2).mode.code])) ∧
    ((2 < a.toNat ∨ 1 < b.toNat) →
      exec (.purgeCache p tag [a, b]) s = .next (s.answered p Code.purgeCache tag .badValue [])) ∧
    (∀ scope keep, scopeOf a.toNat = some scope → yesNo b.toNat = some keep →
      let left := fun x : RuleCache => x.entries.filter fun e => keep && e.locked
      let gone := fun u => (s.cache u).entries.countP fun e => !(keep && e.locked)
      exec (.purgeCache p tag [a, b]) s = .next ((on scope fun x =>
          { x with entries := left x, buffer := [] }).answered p Code.purgeCache tag .ok
        [byte scope .lane1 (gone .lane1), byte scope .lane1 (s.cache .lane1).buffer.length,
         byte scope .lane2 (gone .lane2), byte scope .lane2 (s.cache .lane2).buffer.length]))

/-! ## Conveyor tracking (chapter 5) -/

/-- ENCODER COUNT, with nothing owed on the count before (assumption 4), moves every entry one millimetre and restarts a
running stall timer, and moves nothing in FAULTED. What is owed on the count before it takes first, all of it and in some
order (assumptions 4 and 27), each event as the command of that entry does. APPROACH makes the ALLOCATED entry at its approach point RESERVED
and raises its stack's reservation count; RUN OUT discards the oldest entry of that sheet at the run-out that holds no
drop, and counts it; neither acts in FAULTED. The operand is the model's (assumption 25), and so is that an event not
due does nothing (assumption 1). That a grading still in flight for the discarded record goes on for nobody, its slot
given up, is assumption 12, and that it is known by its number and round assumption 21. -/
def Obligations.EncoderApproachAndRunOutMoveEntries : Prop :=
  (∀ s : State, s.pins.resetHeld = false →
     (s.tracking.state = .running → owing s = [] → exec .encoderCount s = .next (s.setTracking { s.tracking with
       queue := s.tracking.queue.map fun e => { e with distance := e.distance + 1 },
       stallTimer := s.tracking.stallTimer.map fun _ => 0 })) ∧
     (s.tracking.state = .faulted → exec .encoderCount s = .next s)) ∧
  (∀ (s : State) (n : Nat), s.pins.resetHeld = false →
     let g := s.tracking.geometry
     let near := fun (e : TrackEntry) => e.sheet.number = n ∧ e.drop = .allocated ∧
       ∃ k, e.stack = some k ∧ e.distance + g.window = g.gates[k]
     let off := fun (e : TrackEntry) => e.sheet.number = n ∧ (e.drop = .noDrop ∨ e.drop = .abandoned) ∧
       e.distance = g.runOut
     ((s.tracking.state = .faulted ∨ ∀ e, e ∈ s.tracking.queue → ¬ near e) → exec (.approach n) s = .next s) ∧
     ((s.tracking.state = .faulted ∨ ∀ e, e ∈ s.tracking.queue → ¬ off e) → exec (.runOut n) s = .next s) ∧
     (∀ older e newer, s.tracking.state = .running → s.tracking.queue = older ++ e :: newer →
       ((∀ y, y ∈ older → ¬ near y) → near e → ∀ k, e.stack = some k →
         exec (.approach n) s = .next ((s.setTracking { s.tracking with
             queue := older ++ { e with drop := .reserved } :: newer }).setStack k
           { s.stack k with reservations := (s.stack k).reservations + 1 })) ∧
       ((∀ y, y ∈ older → ¬ off y) → off e →
         let gone := (s.setTracking { s.tracking with queue := older ++ newer }).setRouting
           { s.routing with runOut := min 65535 (s.routing.runOut + 1) }
         (∀ j, s.job e.sheet.lane = some j → j.number = e.sheet.number → j.round = e.sheet.round →
           e.sheet.status = .grading → (e.sheet.cls = none ∨ j.abandoned = true) → exec (.runOut n) s =
             .next (gone.setJob e.sheet.lane (some { j with abandoned := true, slotHeld := none }))) ∧
         ((∀ j, s.job e.sheet.lane = some j → j.number ≠ e.sheet.number ∨ j.round ≠ e.sheet.round ∨
           e.sheet.status ≠ .grading ∨ (e.sheet.cls ≠ none ∧ j.abandoned = false)) → exec (.runOut n) s = .next gone)))) ∧
  (∀ s : State,
     let g := s.tracking.geometry
     let decides := fun e : TrackEntry => e.decided = false ∧ e.drop = .noDrop ∧ e.distance = g.decision
     let nears := fun e : TrackEntry => e.drop = .allocated ∧ ∃ k, e.stack = some k ∧ e.distance + g.window = g.gates[k]
     let gates := fun e : TrackEntry => e.drop = .reserved ∧ ∃ k, e.stack = some k ∧ e.distance = g.gates[k]
     let runsOut := fun e : TrackEntry => (e.drop = .noDrop ∨ e.drop = .abandoned) ∧ e.distance = g.runOut
     (∀ e, e ∈ owing s ↔ e ∈ s.tracking.queue ∧ (decides e ∨ nears e ∨ gates e ∨ runsOut e)) ∧
     (s.pins.resetHeld = false → s.tracking.state = .running → g.valid = true →
       (∃ u, Settles s u ∧ exec .encoderCount s = .next (u.setTracking { u.tracking with
         queue := u.tracking.queue.map fun e => { e with distance := e.distance + 1 },
         stallTimer := u.tracking.stallTimer.map fun _ => 0 })) ∧
       (∀ e, e ∈ s.tracking.queue → (∀ y, y ∈ s.tracking.queue → y.sheet.number = e.sheet.number → y = e) →
         (decides e → exec (.decisionPoint e.sheet.number) s = .next (takeOwedBy e s)) ∧
         (nears e → exec (.approach e.sheet.number) s = .next (takeOwedBy e s)) ∧
         (gates e → exec (.gate e.sheet.number) s = .next (takeOwedBy e s)) ∧
         (runsOut e → exec (.runOut e.sheet.number) s = .next (takeOwedBy e s)))))
/-- Routing takes the first of the two choices of the class's route that is an OPEN stack with room, in the
order the group's swap state gives, and none if neither is. DECISION POINT of the oldest entry of that sheet due
for it (the operand is the model's, assumption 25): a PENDING entry becomes REGRADE with LATE, GRADE_LATE is
raised and its grading abandoned; the stack routing chose is assigned and its allocated count raised, with
STACK_FULL if that fills it; in FAULTED or when not due nothing happens. That an event not due does nothing is
the model's reading (assumption 1), as is the mark decided (assumption 5). That the abandoned grading keeps its
slot until its walk ends is assumption 12. -/
def Obligations.DecisionAssignsFirstEligibleStack : Prop :=
  (∀ (s : State) (c : SheetClass),
     let r := s.routing.routes[c.code]
     let swapped := s.routing.swaps[r.group]
     let first := if swapped then r.alternate else r.primary
     let second := if swapped then r.primary else r.alternate
     let eligible := fun k => (s.stack k).state = .opened ∧
       (s.stack k).inventory.length + (s.stack k).allocated < (s.stack k).capacity
     (∀ k, first = some k → eligible k → decideStack c s = some k) ∧
     (∀ k, (∀ j, first = some j → ¬ eligible j) → second = some k → eligible k → decideStack c s = some k) ∧
     ((∀ j, first = some j → ¬ eligible j) → (∀ j, second = some j → ¬ eligible j) → decideStack c s = none) ∧
     ([SheetClass.g1, .g2, .g3, .g4, .g5, .g6, .redry, .regrade].map fun c => c.code.val) = [0, 1, 2, 3, 4, 5, 6, 7]) ∧
  (∀ (s : State) (n : Nat), s.pins.resetHeld = false →
     let due := fun e : TrackEntry => e.sheet.number = n ∧ e.decided = false ∧ e.drop = .noDrop ∧
       e.distance = s.tracking.geometry.decision
     ((s.tracking.state = .faulted ∨ ∀ e, e ∈ s.tracking.queue → ¬ due e) → exec (.decisionPoint n) s = .next s) ∧
     (∀ older e newer, s.tracking.state = .running → s.tracking.queue = older ++ e :: newer →
       (∀ y, y ∈ older → ¬ due y) → due e →
       let late := e.sheet.cls.isNone
       let sheet := if late then
           { e.sheet with cls := some .regrade, flags := { e.sheet.flags with late := true } }
         else e.sheet
       let choice := decideStack (e.sheet.cls.getD .regrade) s
       let drop := if choice = none then DropState.noDrop else .allocated
       let freed := if late then s.abandon e.sheet false else s
       let moved := freed.setTracking { s.tracking with
         queue := older ++ { e with sheet := sheet, stack := choice, drop := drop, decided := true } :: newer }
       let told := if late then moved.raise .gradeLate else moved
       (choice = none → exec (.decisionPoint n) s = .next told) ∧
       (∀ k, choice = some k →
         let x := s.stack k
         let taken := told.setStack k { x with allocated := x.allocated + 1 }
         exec (.decisionPoint n) s = .next
           (if x.inventory.length + x.allocated + 1 = x.capacity then taken.raise .stackFull else taken))))

/-- GATE of the RESERVED entry at its gate: it fires when no line holds the top, the stack is OPEN or DRAIN, E-STOP is not
in force and fewer than two records fall; otherwise the drop is abandoned, its claims are released, and but for what
selections then do the only further change is the close of a stack in DRAIN left with nothing. The operand is the
model's (assumption 25), and so are that an event not due does nothing (assumption 1), the pulse counter (assumption
8) and the order within the event (assumption 10). -/
def Obligations.GateFiresOrAbandonsDrop : Prop :=
  ∀ (s : State) (n : Nat), s.pins.resetHeld = false →
    let due := fun (e : TrackEntry) => e.sheet.number = n ∧ e.drop = .reserved ∧
      ∃ k, e.stack = some k ∧ e.distance = s.tracking.geometry.gates[k]
    ((s.tracking.state = .faulted ∨ ∀ e, e ∈ s.tracking.queue → ¬ due e) → exec (.gate n) s = .next s) ∧
    (∀ older e newer k, s.tracking.state = .running → s.tracking.queue = older ++ e :: newer →
      (∀ y, y ∈ older → ¬ due y) → due e → e.stack = some k →
      let x := s.stack k
      let fires := x.holder = none ∧ (x.state = .opened ∨ x.state = .drain) ∧ s.estop = false ∧ x.falling.length < 2
      let fired := (s.setTracking { s.tracking with queue := older ++ newer }).setStack k
        { x with reservations := x.reservations - 1, falling := x.falling ++ [{ sheet := e.sheet, timer := 0 }] }
      let pulses := s.sk.gatePulses.set k.val (s.sk.gatePulses[k] + 1) k.isLt
      let released := { x with reservations := x.reservations - 1, allocated := x.allocated - 1 }
      let dropped := (s.setTracking { s.tracking with
        queue := older ++ { e with drop := .abandoned } :: newer }).setStack k released
      let told := dropped.raise .dropAbandoned
      let empties := x.state = .drain ∧ x.inventory = [] ∧ x.allocated - 1 = 0
      (fires → exec (.gate n) s = .next (fired.setSk { fired.sk with gatePulses := pulses })) ∧
      (¬ fires → ¬ empties → Unwatched s → exec (.gate n) s = .next told) ∧
      (¬ fires → ¬ empties → ∃ t, exec (.gate n) s = .next t ∧ SelectsOnly told t) ∧
      (¬ fires → empties → ∃ t, exec (.gate n) s = .next t ∧
        SelectsOnly ((told.setStack k { released with state := .closed }).raise .stackEmpty) t ∧
        (t.stack k).waiters = ⟨none, none⟩))

/-- CONV_RUN asserted starts the stall timer if tracking runs with a stall limit, and deasserted stops it. ENCODER STALL,
when the stall timer of a running tracking has reached its limit: tracking is FAULTED with its entries kept, every
reservation is released and its entry ALLOCATED again, ENCODER_STALL is raised; otherwise nothing happens. That a
stall not due does nothing is the model's reading (assumption 1); a held reset follows only the level (assumption 7). -/
def Obligations.ConveyorRunDrivesStallTimerToItsStall : Prop :=
  (∀ s : State,
     (s.pins.convRun = true → exec .convRunAssert s = .next s) ∧
     (s.pins.convRun = false →
       let t := s.setPins { s.pins with convRun := true }
       (s.pins.resetHeld = false → s.tracking.state = .running → s.tracking.stallLimit ≠ 0 →
         exec .convRunAssert s = .next (t.setTracking { s.tracking with stallTimer := some 0 })) ∧
       ((s.pins.resetHeld = true ∨ s.tracking.state = .faulted ∨ s.tracking.stallLimit = 0) →
         exec .convRunAssert s = .next t)) ∧
     exec .convRunDeassert s = .next ((s.setPins { s.pins with convRun := false }).setTracking
       { s.tracking with stallTimer := none })) ∧
  (∀ s : State, s.pins.resetHeld = false →
     let due := s.tracking.state = .running ∧ s.tracking.stallLimit ≠ 0 ∧
       ∃ n, s.tracking.stallTimer = some n ∧ s.tracking.stallLimit ≤ n
     (¬ due → exec .encoderStall s = .next s) ∧
     (due → ∃ t, exec .encoderStall s = .next t ∧
       t.tracking = { s.tracking with
         state := .faulted, stallTimer := none,
         queue := s.tracking.queue.map fun e => { e with drop := if e.drop = .reserved then .allocated else e.drop } } ∧
       t.ports = (s.raise .encoderStall).ports ∧ t.intake = s.intake ∧ t.grading = s.grading ∧ t.tables = s.tables ∧
       t.caches = s.caches ∧ t.routing = s.routing ∧ t.pins = s.pins ∧ t.pending = s.pending ∧
       (∀ k, (t.stack k).reservations =
           (s.stack k).reservations - s.tracking.queue.countP (TrackEntry.reserves k) ∧
         (t.stack k).state = (s.stack k).state ∧ (t.stack k).allocated = (s.stack k).allocated ∧
         (t.stack k).inventory = (s.stack k).inventory ∧ (t.stack k).falling = (s.stack k).falling ∧
         (t.stack k).capacity = (s.stack k).capacity ∧ (t.stack k).access = (s.stack k).access) ∧
       (∀ l, (s.line l).KeepsProgram (t.line l))))

/-- TRACK CLEAR empties the queue, returns tracking to RUNNING, releases every claim of the entries, closes the
stacks in DRAIN this leaves with nothing, and answers the number of entries and the state before; the run-out
count is not changed. That a removed record in grading gives up its slot at once is the model's reading
(assumption 12). -/
def Obligations.TrackClearReleasesEveryClaim : Prop :=
  ∀ (s : State) (p : Port) (tag : Byte), Ready s p → ∃ t : State,
    exec (.trackClear p tag []) s = .next (t.answer p Code.trackClear tag .ok
      [b8 s.tracking.queue.length, b8 s.tracking.state.code]) ∧
    t.tracking = { s.tracking with
      state := .running, queue := [],
      stallTimer := if s.pins.convRun ∧ s.tracking.stallLimit ≠ 0 then some 0 else s.tracking.stallTimer } ∧
    t.routing = s.routing ∧ t.intake = s.intake ∧ t.tables = s.tables ∧ t.caches = s.caches ∧ t.pins = s.pins ∧
    t.pending = s.pending ∧
    (∀ k,
      let x := s.stack k
      let allocated := x.allocated - s.tracking.queue.countP (TrackEntry.claims k)
      (t.stack k).allocated = allocated ∧
      (t.stack k).reservations = x.reservations - s.tracking.queue.countP (TrackEntry.reserves k) ∧
      (t.stack k).state = (if x.state = .drain ∧ x.inventory = [] ∧ allocated = 0 ∧
        (∃ e, e ∈ s.tracking.queue ∧ e.claims k = true) then .closed else x.state) ∧
      (t.stack k).inventory = x.inventory ∧ (t.stack k).falling = x.falling ∧ (t.stack k).capacity = x.capacity ∧
      (t.stack k).access = x.access) ∧
    (∀ l, (s.line l).KeepsProgram (t.line l)) ∧
    (∀ q n, n ≠ Notice.stackEmpty.number → (t.port q).notices.getLsbD n = (s.port q).notices.getLsbD n) ∧
    GivesUp (s.tracking.queue.map (·.sheet)) s t

/-! ## Routing requests (R105, R106, R115) -/

/-- WRITE ROUTE replaces one route entry whole, whatever the stacks it names are, and refuses a class, stack or group code
that names none; a class follows the swap state of the group its entry names. SWAP GROUP sets one group's swap state
and answers the one before; every member class is then offered its choices in that order. CLEAR RUNOUT sets the run-
out count to 0 and answers the count before, and the next raise makes it 1; wrong lengths are refused. -/
def Obligations.RoutingRequestsSetTableSwapAndCount : Prop :=
  ((∀ (s : State) (p : Port) (tag : Byte), Ready s p →
     (∀ body, body.length ≠ 3 →
       exec (.writeRoute p tag body) s = .next (s.answered p Code.writeRoute tag .badRequest [])) ∧
     (∀ c named g : Byte,
       (7 < c.toNat ∨ (9 < named.toNat % 16 ∧ named.toNat % 16 ≠ 15) ∨
         (9 < named.toNat / 16 ∧ named.toNat / 16 ≠ 15) ∨ 3 < g.toNat) →
       exec (.writeRoute p tag [c, named, g]) s = .next (s.answered p Code.writeRoute tag .badValue [])) ∧
     (∀ (c : Fin 8) (primary alternate : Option StackId) (g : Fin 4),
       exec (.writeRoute p tag [b8 c.val, b8 (stackNibble primary + 16 * stackNibble alternate), b8 g.val]) s =
         .next ((s.setRouting { s.routing with
             routes := s.routing.routes.set c.val { primary := primary, alternate := alternate, group := g } c.isLt
           }).answered p Code.writeRoute tag .ok []))) ∧
   (∀ (s : State) (c : SheetClass),
     let r := s.routing.routes[c.code]
     routeChoices c s = if s.routing.swaps[r.group] then [r.alternate, r.primary] else [r.primary, r.alternate])) ∧
  (∀ (s : State) (p : Port) (tag : Byte), Ready s p →
     (∀ body, body.length ≠ 2 →
       exec (.swapGroup p tag body) s = .next (s.answered p Code.swapGroup tag .badRequest [])) ∧
     (∀ g swap : Byte, (3 < g.toNat ∨ 1 < swap.toNat) →
       exec (.swapGroup p tag [g, swap]) s = .next (s.answered p Code.swapGroup tag .badValue [])) ∧
     (∀ (g : Fin 4) (on : Bool),
       let t := s.setRouting { s.routing with swaps := s.routing.swaps.set g.val on g.isLt }
       exec (.swapGroup p tag [b8 g.val, bBool on]) s =
         .next (t.answered p Code.swapGroup tag .ok [bBool s.routing.swaps[g]]) ∧
       (s.routing.swaps[g] = on → t = s) ∧
       (∀ c : SheetClass, t.routing.routes[c.code].group = g →
         let r := s.routing.routes[c.code]
         routeChoices c t = if on then [r.alternate, r.primary] else [r.primary, r.alternate]))) ∧
  (∀ (s : State) (p : Port) (tag : Byte), Ready s p →
     exec (.clearRunout p tag []) s =
       .next ((s.setRouting { s.routing with runOut := 0 }).answered p Code.clearRunout tag .ok (b16 s.routing.runOut)) ∧
     (s.setRouting { s.routing with runOut := 0 }).countRunOut = s.setRouting { s.routing with runOut := 1 } ∧
     (∀ body, body ≠ [] →
       exec (.clearRunout p tag body) s = .next (s.answered p Code.clearRunout tag .badRequest [])))

/-! ## Stacks (chapter 7) -/

/-- OPEN STACK, DRAIN STACK and CLOSE STACK: refused for no stack and by a FAULTED one; otherwise the state is
set and the one before answered, a stack left CLOSED has no waiters, one in DRAIN with nothing closes with
STACK_EMPTY, and nothing else changes but what selections do. SET STACK ACCESS sets the mask and answers the one
before; a line taken out no longer waits there, a holder keeps its pick, and nothing else changes but what
selections do. -/
def Obligations.StackStateAndAccessRequests : Prop :=
  (∀ (s : State) (p : Port) (tag b : Byte), Ready s p →
     let h := s.hunt p
     let requests := [(Instr.openStack p tag [b], Code.openStack), (Instr.drainStack p tag [b], Code.drainStack),
       (Instr.closeStack p tag [b], Code.closeStack)]
     (9 < b.toNat → ∀ e, e ∈ requests → exec e.1 s = .next (s.answered p e.2 tag .badValue [])) ∧
     (∀ k, stackOf b.toNat = some k →
       let x := s.stack k
       let answers := fun (e : Instr × Byte) (t : State) =>
         exec e.1 s = .next (t.answer p e.2 tag .ok [b8 x.state.code])
       let empties := x.inventory = [] ∧ x.allocated = 0
       (x.state = .faulted → ∀ e, e ∈ requests → exec e.1 s = .next (s.answered p e.2 tag .wrongState [])) ∧
       (x.state = .opened → answers (.openStack p tag [b], Code.openStack) h) ∧
       (x.state = .closed → answers (.closeStack p tag [b], Code.closeStack) h) ∧
       (x.state = .drain → ¬ empties → answers (.drainStack p tag [b], Code.drainStack) h) ∧
       ((x.state = .closed ∨ x.state = .drain) → ∃ t, answers (.openStack p tag [b], Code.openStack) t ∧
         SelectsOnly (h.setStack k { x with state := .opened }) t) ∧
       ((x.state = .opened ∨ x.state = .drain) → ∃ t, answers (.closeStack p tag [b], Code.closeStack) t ∧
         SelectsOnly (h.setStack k { x with state := .closed }) t ∧ (t.stack k).waiters = ⟨none, none⟩) ∧
       ((x.state = .opened ∨ x.state = .closed) → ¬ empties → ∃ t, answers (.drainStack p tag [b], Code.drainStack) t ∧
         SelectsOnly (h.setStack k { x with state := .drain }) t) ∧
       (x.state ≠ .faulted → empties → ∃ t, answers (.drainStack p tag [b], Code.drainStack) t ∧
         SelectsOnly ((h.setStack k { x with state := .closed }).raise .stackEmpty) t ∧
         (t.stack k).waiters = ⟨none, none⟩) ∧
       (Unwatched s → (x.state = .opened ∨ x.state = .drain) → answers (.closeStack p tag [b], Code.closeStack)
         (h.setStack k { x with state := .closed })))) ∧
  (∀ (s : State) (p : Port) (tag : Byte), Ready s p →
     (∀ b m : Byte, (9 < b.toNat ∨ 3 < m.toNat) →
       exec (.setStackAccess p tag [b, m]) s = .next (s.answered p Code.setStackAccess tag .badValue [])) ∧
     (∀ (k : StackId) (a b : Bool),
       let x := s.stack k
       let m : PerLine Bool := ⟨a, b⟩
       let set := (s.hunt p).setStack k { x with access := m }
       let old := (if x.access.a then 1 else 0) + (if x.access.b then 2 else 0)
       ∃ t, exec (.setStackAccess p tag [b8 k.val, b8 (a.toNat + 2 * b.toNat)]) s =
           .next (t.answer p Code.setStackAccess tag .ok [b8 old]) ∧
         SelectsOnly set t ∧ (Unwatched s → t = set) ∧
         (∀ l, m.get l = false → (t.stack k).waiters.get l = none) ∧
         (∀ l, x.holder = some l → (t.stack k).holder = some l)))

/-- CLEAR STACK FAULT returns a FAULTED stack to CLOSED and keeps all it holds; CLEAR STACK discards the
inventory of a CLOSED stack that no line holds, and nothing else: an abandoned grading still in flight for one of its
records gives up its slot (assumption 12, abandonAll as in ResyncAndExpiryRemoveRecords); both refuse every other body and state. SET
STACK CAPACITY takes any capacity of 1 to 400 that is not below the inventory and allocated counts together, in
any state, and answers the capacity before; it raises nothing and changes nothing else. -/
def Obligations.ClearAndCapacityRequests : Prop :=
  (∀ (s : State) (p : Port) (tag : Byte), Ready s p →
     (∀ body, body.length ≠ 1 →
       exec (.clearStackFault p tag body) s = .next (s.answered p Code.clearStackFault tag .badRequest []) ∧
       exec (.clearStack p tag body) s = .next (s.answered p Code.clearStack tag .badRequest [])) ∧
     (∀ b : Byte, 9 < b.toNat →
       exec (.clearStackFault p tag [b]) s = .next (s.answered p Code.clearStackFault tag .badValue []) ∧
       exec (.clearStack p tag [b]) s = .next (s.answered p Code.clearStack tag .badValue [])) ∧
     (∀ k : StackId,
       let x := s.stack k
       (x.state ≠ .faulted →
         exec (.clearStackFault p tag [b8 k.val]) s = .next (s.answered p Code.clearStackFault tag .wrongState [])) ∧
       (x.state = .faulted → ∃ t, SelectsOnly ((s.hunt p).setStack k { x with state := .closed }) t ∧
         exec (.clearStackFault p tag [b8 k.val]) s = .next (t.answer p Code.clearStackFault tag .ok [])) ∧
       ((x.state ≠ .closed ∨ x.holder ≠ none) →
         exec (.clearStack p tag [b8 k.val]) s = .next (s.answered p Code.clearStack tag .wrongState [])) ∧
       (x.state = .closed → x.holder = none →
         let cleared := ((s.abandonAll x.inventory).setStack k { x with inventory := [] }).answered p Code.clearStack tag
           .ok (b16 x.inventory.length)
         exec (.clearStack p tag [b8 k.val]) s = .next cleared ∧ GivesUp x.inventory s cleared ∧
         (∀ f rest, x.falling = f :: rest → ∃ t,
           exec (.landing k) cleared = .next t ∧ (t.stack k).inventory = [f.sheet])))) ∧
  (∀ (s : State) (p : Port) (tag : Byte), Ready s p →
     (∀ body, body.length ≠ 3 →
       exec (.setStackCapacity p tag body) s = .next (s.answered p Code.setStackCapacity tag .badRequest [])) ∧
     (∀ b hi lo : Byte, 9 < b.toNat →
       exec (.setStackCapacity p tag [b, hi, lo]) s = .next (s.answered p Code.setStackCapacity tag .badValue [])) ∧
     (∀ (k : StackId) (hi lo : Byte),
       let x := s.stack k
       let c := hi.toNat * 256 + lo.toNat
       ((c < 1 ∨ 400 < c ∨ c < x.inventory.length + x.allocated) →
         exec (.setStackCapacity p tag [b8 k.val, hi, lo]) s =
           .next (s.answered p Code.setStackCapacity tag .badValue [])) ∧
       (1 ≤ c → c ≤ 400 → x.inventory.length + x.allocated ≤ c →
         exec (.setStackCapacity p tag [b8 k.val, hi, lo]) s =
           .next ((s.setStack k { x with capacity := c }).answered p Code.setStackCapacity tag .ok (b16 x.capacity)) ∧
         (x.inventory.length + x.allocated = c → ((s.setStack k { x with capacity := c }).stack k).eligible = false) ∧
         (x.inventory.length + x.allocated < c → x.state = .opened →
           ((s.setStack k { x with capacity := c }).stack k).eligible = true))))

/-- LANDING pushes the oldest falling record onto the inventory with its flags unchanged and lowers the allocated count,
in every state, and is ignored with none falling; a record at its landing limit is pushed UNCONFIRMED, and its stack
faults with MISSED_LANDING and STACK_FAULT. Nothing else changes but what grants and selections do. That a missed
landing not due does nothing is the model's reading (assumption 1). -/
def Obligations.LandingJoinsInventory : Prop :=
  ∀ (s : State) (k : StackId), s.pins.resetHeld = false →
    let x := s.stack k
    (x.falling = [] → ∃ t, exec (.landing k) s = .next t ∧ SelectsOnly s t ∧ (Unwatched s → t = s)) ∧
    (∀ f rest, x.falling = f :: rest →
      let landed := s.setStack k
        { x with falling := rest, inventory := f.sheet :: x.inventory, allocated := x.allocated - 1 }
      let pushed := { f.sheet with flags := { f.sheet.flags with unconfirmed := true } }
      let missed := ((s.setStack k { x with
          state := .faulted, falling := rest, inventory := pushed :: x.inventory, allocated := x.allocated - 1
        }).raise .missedLanding).raise .stackFault
      (∃ t, exec (.landing k) s = .next t ∧ SelectsOnly landed t ∧ (Unwatched s → t = landed)) ∧
      (f.timer < s.sk.landingLimit → exec (.missedLanding k) s = .next s) ∧
      (s.sk.landingLimit ≤ f.timer → ∃ t, exec (.missedLanding k) s = .next t ∧ SelectsOnly missed t ∧
        (Unwatched s → t = missed) ∧ (x.state ≠ .faulted → (t.stack k).waiters = ⟨none, none⟩))) ∧
    (x.falling = [] → exec (.missedLanding k) s = .next s)

/-- The grant check of a stack: it acts on a free top of an OPEN or DRAIN stack with E-STOP not in force, and
offers it first to the line that the pick priority names, FIXED_A, FIXED_B or under ROTATING the one that is not
the last grant. A waiter whose grade set holds the top record's grade is granted: it becomes holder and last
grant, leaves the waiters and its pick begins. One whose set does not is withdrawn, told to select again, and
the other is offered the top. A landing makes this check: the first waiter offered that may take the record
landed picks in the same event. -/
def Obligations.GrantOffersTopInOrder : Prop :=
  (∀ (e : StackEvent) (k : StackId),
    let s := e.st
    let x := s.stack k
    let free := x.reservations = 0 ∧ x.falling = [] ∧ x.holder = none ∧ (x.state = .opened ∨ x.state = .drain) ∧
      s.estop = false
    let first : Line := match s.sk.priority with
      | .fixedA => .a
      | .fixedB => .b
      | .rotating => if x.lastGrant = some .a then .b else .a
    let second := otherLine first
    let accepts := fun g : GradeSet => ∃ r rest c,
      x.inventory = r :: rest ∧ r.cls = some c ∧ c.code.val < 5 ∧ g.getLsbD c.code.val = true
    let absent := fun l => x.waiters.get l = none
    let passes := fun l => ∃ g, x.waiters.get l = some g ∧ accepts g
    let fails := fun l => ∃ g, x.waiters.get l = some g ∧ ¬ accepts g
    let withdrawn := fun (l : Line) (e : StackEvent) =>
      { e with
        st := e.st.setStack k { e.st.stack k with waiters := (e.st.stack k).waiters.set l none },
        told := e.told.set l true }
    let granted := fun (l : Line) (e : StackEvent) =>
      let y := e.st.stack k
      let z := e.st.line l
      let held := e.st.setStack k { y with
        holder := some l, lastGrant := some l, waiters := y.waiters.set l none }
      let picks := { z with
        activity := .picking, draw := z.draw.map fun d => { d with stack := some k }, pickReq := some k,
        pickTimer := some 0, starveTimer := none, starveNoted := false }
      { e with st := held.setLine l picks }
    (¬ free → e.grantCheck k = e) ∧
    (free →
      (passes first → e.grantCheck k = granted first e) ∧
      (absent first → absent second → e.grantCheck k = e) ∧
      (absent first → passes second → e.grantCheck k = granted second e) ∧
      (absent first → fails second → e.grantCheck k = withdrawn second e) ∧
      (fails first → absent second → e.grantCheck k = withdrawn first e) ∧
      (fails first → passes second → e.grantCheck k = granted second (withdrawn first e)) ∧
      (fails first → fails second → e.grantCheck k = withdrawn second (withdrawn first e)))) ∧
  (∀ (s : State) (k : StackId) (l : Line) (f : Falling) (g : GradeSet) (c : SheetClass),
    s.pins.resetHeld = false → s.estop = false → (∀ m, (s.line m).activity ≠ .starved) →
    let x := s.stack k
    let y := s.line l
    x.falling = [f] → x.reservations = 0 → x.holder = none → (x.state = .opened ∨ x.state = .drain) →
    x.waiters.get l = some g → f.sheet.cls = some c → c.code.val < 5 → g.getLsbD c.code.val = true →
    (x.waiters.get (otherLine l) = none ∨ s.sk.priority = (if l = .a then .fixedA else .fixedB) ∨
      (s.sk.priority = .rotating ∧ (x.lastGrant = some (otherLine l) ∨ (x.lastGrant = none ∧ l = .a)))) →
    exec (.landing k) s = .next ((s.setStack k { x with
        falling := [], inventory := f.sheet :: x.inventory, allocated := x.allocated - 1, holder := some l,
        lastGrant := some l, waiters := x.waiters.set l none }).setLine l
      { y with
        activity := .picking, draw := y.draw.map fun d => { d with stack := some k }, pickReq := some k,
        pickTimer := some 0, starveTimer := none, starveNoted := false }))

/-- A line that selects again: under RUN with exec HOLD it stands and its draw ends; otherwise it asks the
first-ranked free candidate and picks, or waits at the first-ranked candidate, or is starved, a starvation going
on as it was. At the end of an event those lines select that were told to or are STARVED and heard of it; of
two, the order is free (assumption 9). A STARVED line selects again at a landing and at the other line's pick
done on a stack open to it, at a change of a stack's state, and at SET STACK ACCESS. -/
def Obligations.WithdrawnAndStarvedLinesSelectAgain : Prop :=
  (∀ (s : State) (l : Line),
    let y := s.line l
    let ends := reselect l s
    (y.mode = .run → y.exec = .hold → ends = s.setLine l y.stood) ∧
    (y.mode ≠ .run ∨ y.exec ≠ .hold →
      (y.draw = none → ends = s) ∧
      (∀ d, y.draw = some d →
        let grade := fun k => (s.stack k).inventory.head?.bind fun r => r.cls.map fun c => c.code.val
        let candidate := fun k => ((s.stack k).state = .opened ∨ (s.stack k).state = .drain) ∧
          (s.stack k).access.get l = true ∧ ∃ n, grade k = some n ∧ n < 5 ∧ d.grades.getLsbD n = true
        let free := fun k => (s.stack k).reservations = 0 ∧ (s.stack k).falling = [] ∧ (s.stack k).holder = none ∧
          s.estop = false
        let before := fun (j k : StackId) => ∃ a b, grade j = some a ∧ grade k = some b ∧
          ((a ≠ b ∧ (if d.pref = .conserve then b < a else a < b)) ∨ (a = b ∧ j < k))
        let placed := fun k : Option StackId => some { d with stack := k }
        (∀ k, candidate k → free k → (∀ j, candidate j → free j → j ≠ k → before k j) →
          ends = (s.setStack k { s.stack k with
              holder := some l, lastGrant := some l, waiters := (s.stack k).waiters.set l none }).setLine l
            { y with
              activity := .picking, draw := placed (some k), pickReq := some k, pickTimer := some 0,
              starveTimer := none, starveNoted := false }) ∧
        (∀ k, candidate k → (∀ j, candidate j → ¬ free j) → (∀ j, candidate j → j ≠ k → before k j) →
          ends = (s.setStack k { s.stack k with waiters := (s.stack k).waiters.set l (some d.grades) }).setLine l
            { y with
              activity := .waitingTop, draw := placed (some k), starveTimer := none, starveNoted := false }) ∧
        ((∀ k, ¬ candidate k) →
          (y.activity = .starved → ends = s) ∧
          (y.activity ≠ .starved → ends = s.setLine l
            { y with activity := .starved, draw := placed none, starveTimer := some 0, starveNoted := false }))))) ∧
  (∀ e : StackEvent,
    let again := fun l : Line => e.told.get l = true ∨ (e.heard.get l = true ∧ (e.st.line l).activity = .starved)
    (∀ l, again l → ¬ again (otherLine l) → e.settle = reselect l e.st) ∧
    ((∀ l, ¬ again l) → e.settle = e.st) ∧
    ((∀ l, again l) → ∃ first,
      e.settle = reselect (otherLine first) (reselect first { e.st with choices := e.st.choices + 1 }))) ∧
  (∀ (s : State) (l : Line), s.pins.resetHeld = false → (∀ k, (s.stack k).waiters = ⟨none, none⟩) →
    (s.line l).activity = .starved → (s.line (otherLine l)).activity ≠ .starved →
    (∀ k : StackId,
      let x := s.stack k
      let landed := match x.falling with
        | [] => s
        | f :: rest => s.setStack k
          { x with falling := rest, inventory := f.sheet :: x.inventory, allocated := x.allocated - 1 }
      exec (.landing k) s = .next (if x.access.get l then reselect l landed else landed)) ∧
    (∀ (k : StackId) (d : Draw) (r : SheetRecord) (rest : List SheetRecord),
      let m := otherLine l
      let z := s.line m
      let x := s.stack k
      z.activity = .picking → z.emptied = false → z.draw = some d → d.stack = some k → d.origin = .ply →
      x.inventory = r :: rest → ¬ (x.state = .drain ∧ rest = [] ∧ x.allocated = 0) →
      let manner := z.step.getD .walk
      let done := (s.setStack k { x with inventory := rest, holder := none }).setLine m { z.stood with
        openPanel := z.openPanel ++ [{ sheet := r, stack := k, role := d.role }],
        pointer := if manner = .once then z.pointer else z.pointer + 1,
        exec := if manner = .walk then z.exec else .hold }
      exec (.pickDone m) s = .next (if x.access.get l then reselect l done else done)) ∧
    (∀ (p : Port) (tag : Byte) (k : StackId), Ready s p →
      let h := s.hunt p
      let x := s.stack k
      let answers := fun (i : Instr) (code : Byte) (t : State) (old : Nat) =>
        exec i s = .next ((reselect l t).answer p code tag .ok [b8 old])
      ((x.state = .closed ∨ x.state = .drain) → answers (.openStack p tag [b8 k.val]) Code.openStack
        (h.setStack k { x with state := .opened }) x.state.code) ∧
      ((x.state = .opened ∨ x.state = .drain) → answers (.closeStack p tag [b8 k.val]) Code.closeStack
        (h.setStack k { x with state := .closed }) x.state.code) ∧
      (∀ a b : Bool, answers (.setStackAccess p tag [b8 k.val, b8 (a.toNat + 2 * b.toNat)]) Code.setStackAccess
        (h.setStack k { x with access := ⟨a, b⟩ }) (x.access.a.toNat + 2 * x.access.b.toNat))))

/-! ## Picks (R134, R161 to R165) -/

/-- PICK DONE of a line with a pick in flight: the top record of the held stack becomes the newest ply, the holder and
PICK_REQ are cleared, and the step completes, or the DIRECT draw is DONE, or a STOPPING line enters OFF; a stack in
DRAIN left with nothing closes. Nothing else changes but what grants and selections do. The order within the event is
the model's (assumption 10). -/
def Obligations.PickDoneMovesTopRecord : Prop :=
  ∀ (s : State) (l : Line) (k : StackId) (d : Draw) (r : SheetRecord) (rest : List SheetRecord),
    s.pins.resetHeld = false → (s.line l).emptied = false → (s.line l).draw = some d → d.stack = some k →
    (s.stack k).inventory = r :: rest →
    let x := s.line l
    let y := s.stack k
    let panel := x.openPanel ++ [{ sheet := r, stack := k, role := d.role }]
    let left := { y with inventory := rest, holder := none }
    let idle := { x with
      openPanel := panel, activity := .idle, step := none, draw := none, pickTimer := none, starveTimer := none,
      starveNoted := false, pickReq := none }
    let closed := fun u : State =>
      if y.state = .drain ∧ rest = [] ∧ y.allocated = 0 then
        (u.setStack k { left with state := .closed }).raise .stackEmpty
      else u
    let ends := fun (after : LineState) (u : State) => ∃ t, exec (.pickDone l) s = .next t ∧ SelectsOnly (closed u) t ∧
      (y.waiters.get l = none → t.line l = after) ∧ (Unwatched s → t = closed u)
    (x.activity = .picking → d.origin = .ply →
      let m := x.step.getD .walk
      let after := { idle with
        pointer := if m = .once then x.pointer else x.pointer + 1, exec := if m = .walk then x.exec else .hold }
      ends after ((s.setStack k left).setLine l after)) ∧
    (x.activity = .picking → d.origin = .direct →
      let after := { idle with lastDraw := some .done }
      ends after (((s.setStack k left).setLine l after).raise (.drawDone l))) ∧
    (x.activity = .stopping → ∃ t, exec (.pickDone l) s = .next t ∧
      SelectsOnly (closed (enterOff l (reportDraw l .done ((s.setStack k left).setLine l
        { x with openPanel := panel, pickTimer := none, pickReq := none })))) t)

/-- PICK EMPTY faults the held stack and leaves its inventory; a pick that reaches the pick limit faults its
line, ends a DIRECT draw ABORTED and raises FEEDER_FAULT; a feeder signal with no pick in flight only raises
FEEDER_FAULT. A PICK DONE in the millisecond of the PICK EMPTY that ended the line's last pick, with its next
pick in flight already, is stray if the two were given together, and else ends the pick in flight: which is a
free value (assumption 30). A starvation that reaches its limit is noticed once. That a timer event not due does
nothing is the model's reading (assumption 1). -/
def Obligations.PicksEndWithoutSheet : Prop :=
  ∀ (s : State) (l : Line), s.pins.resetHeld = false →
    let x := s.line l
    (x.activity ≠ .picking → x.activity ≠ .stopping →
      exec (.pickDone l) s = .next (s.raise (.feederFault l)) ∧
      exec (.pickEmpty l) s = .next (s.raise (.feederFault l)) ∧ exec (.pickTimeout l) s = .next s) ∧
    ((∀ n, x.pickTimer = some n → n < s.lines.pickLimit) → exec (.pickTimeout l) s = .next s) ∧
    (∀ d k, x.draw = some d → d.stack = some k → (x.activity = .picking ∨ x.activity = .stopping) →
      let y := s.stack k
      let ended := s.setLine l { x with pickTimer := none, pickReq := none, emptied := false }
      let alone := ({ s with choices := s.choices + 1 } : State).setLine l { x with emptied := false }
      (x.emptied = true → exec (.pickDone l) s =
        if Config.signalsTogether s.choices then .next (alone.raise (.feederFault l)) else exec (.pickDone l) alone) ∧
      let faulted := (ended.setStack k { y with state := .faulted, holder := none }).raise .stackFault
      let timedOut := (ended.setStack k { y with holder := none }).raise (.feederFault l)
      (∃ t, exec (.pickEmpty l) s = .next t ∧ (t.stack k).holder = none ∧
        ((t.line l).emptied = true ↔ (t.line l).activity = .picking) ∧
        (x.activity = .picking → SelectsOnly faulted t ∧ (x.mode = .run → x.exec = .hold → t.line l = x.stood)) ∧
        (x.activity = .stopping → SelectsOnly (enterOff l (reportDraw l .aborted faulted)) t)) ∧
      (∀ n, x.pickTimer = some n → s.lines.pickLimit ≤ n → ∃ t, exec (.pickTimeout l) s = .next t ∧
        (x.activity = .stopping → SelectsOnly (enterOff l (reportDraw l .aborted timedOut)) t) ∧
        (x.activity = .picking →
          let after := { x.stood with
            activity := .fault, fault := some .feederTimeout, exec := .hold,
            lastDraw := if d.origin = .direct then some .aborted else x.lastDraw }
          let told := if d.origin = .direct then timedOut.raise (.drawDone l) else timedOut
          let u := (told.setLine l after).raise (.lineStopped l)
          SelectsOnly u t ∧ (y.waiters.get l = none → t.line l = after) ∧ (Unwatched s → t = u)))) ∧
    (let due := x.activity = .starved ∧ x.starveNoted = false ∧ s.lines.starveLimit ≠ 0 ∧
        ∃ n, x.starveTimer = some n ∧ s.lines.starveLimit ≤ n
     (due → exec (.lineStarved l) s =
        .next ((s.setLine l { x with starveTimer := none, starveNoted := true }).raise (.lineStarved l))) ∧
     (¬ due → exec (.lineStarved l) s = .next s))

/-! ## Layup sequencers (chapter 8) -/

/-- SET LINE MODE on its own port: the refusals of the mode table, the request for the mode already held, the entry into
LOAD, DIRECT and RUN, and OFF: STOPPING while a pick is in flight, and otherwise at once, with the wait withdrawn, a DIRECT
draw CANCELLED and the open panel closed as ABANDONED into the queue or dropped, which discards the records of its plies
(abandonAll as in ResyncAndExpiryRemoveRecords, assumption 12). -/
def Obligations.SetLineModeEntersModes : Prop :=
  ∀ (s : State) (l : Line) (tag : Byte) (m : LineMode), Ready s (ownPort l) →
    let x := s.line l
    let run := exec (.setLineMode (ownPort l) tag [b8 (Line.code l), b8 m.code]) s
    let refused := run = .next (s.answered (ownPort l) Code.setLineMode tag .wrongState [])
    let taken := fun t : State => run = .next (t.answered (ownPort l) Code.setLineMode tag .ok [b8 x.mode.code])
    let fresh := { x with mode := m, exec := .hold, pointer := 0, counters := Vector.replicate 16 none }
    let still := x.activity = .idle ∨ x.activity = .fault
    let off := { x with
      mode := .off, exec := .hold, pointer := 0, counters := Vector.replicate 16 none, latch := false,
      activity := .idle, fault := none, step := none, draw := none, pickTimer := none, starveTimer := none,
      starveNoted := false, pickReq := none, emptied := false }
    let next := if x.panelCounter < 65535 then x.panelCounter + 1 else 1
    let closed : PanelRecord := { number := x.panelCounter, line := l, status := .abandoned, plies := x.openPanel }
    (x.activity = .stopping → m = .off → taken s) ∧
    (x.activity = .stopping → m ≠ .off → refused) ∧
    (x.activity ≠ .stopping → m = x.mode → taken s) ∧
    (x.mode = .run → (m = .load ∨ m = .direct) → refused) ∧
    (x.mode = .direct → (m = .load ∨ m = .run) → ¬ still → refused) ∧
    (x.activity ≠ .stopping → m ≠ x.mode → (x.mode = .off ∨ x.mode = .load ∨ (x.mode = .direct ∧ still)) →
      ((m = .load ∨ m = .direct) → taken (s.setLine l fresh)) ∧
      (m = .run → taken (s.setLine l { x with mode := .run, exec := .hold }))) ∧
    (m = .off → x.mode ≠ .off → x.activity = .picking →
      taken (s.setLine l { x with activity := .stopping, exec := .hold, step := none })) ∧
    (m = .off → x.mode ≠ .off → x.activity ≠ .picking → x.activity ≠ .stopping →
      taken (enterOff l (reportDraw l .cancelled (withdrawLine l s)))) ∧
    (x.openPanel = [] → enterOff l s = s.setLine l off) ∧
    (x.openPanel ≠ [] → x.panelQueue.length < 4 → enterOff l s = (s.setLine l { off with
      openPanel := [], panelCounter := next, panelQueue := x.panelQueue ++ [closed] }).raise (.panelReady l)) ∧
    (x.openPanel ≠ [] → 4 ≤ x.panelQueue.length → enterOff l s = ((s.abandonAll (x.openPanel.map (·.sheet))).setLine l
      { off with openPanel := [], panelCounter := next }).raise (.panelDropped l)) ∧
    (∀ d k, x.activity = .waitingTop → x.draw = some d → d.stack = some k →
      withdrawLine l s = s.setStack k { s.stack k with waiters := (s.stack k).waiters.set l none }) ∧
    (x.activity ≠ .waitingTop → withdrawLine l s = s) ∧
    (∀ d result, x.draw = some d → d.origin = .direct →
      reportDraw l result s = (s.setLine l { x with lastDraw := some result }).raise (.drawDone l)) ∧
    (∀ result, (∀ d, x.draw = some d → d.origin = .ply) → reportDraw l result s = s) ∧
    (∀ b : Byte, 3 < b.toNat → exec (.setLineMode (ownPort l) tag [b8 (Line.code l), b]) s =
      .next (s.answered (ownPort l) Code.setLineMode tag .badValue []))

/-- SET LINE EXEC on its own port, by its table: when RUN, HOLD, STEP and ONCE are taken, what HOLD does to a line that
waits or picks, and that the step at the pointer is begun in the manner asked for; STEP BEGIN begins it in manner WALK
on an idle line in RUN with exec RUN, and otherwise does nothing. That RUN begins the step in its own event, and that
a step not due does not begin, are the model's readings (assumptions 14 and 1). -/
def Obligations.SetLineExecAndStepBegin : Prop :=
  ∀ (s : State) (l : Line),
    let x := s.line l
    (∀ (tag : Byte) (e : Exec), Ready s (ownPort l) →
      let run := exec (.setLineExec (ownPort l) tag [b8 (Line.code l), b8 e.code]) s
      let refused := run = .next (s.answered (ownPort l) Code.setLineExec tag .wrongState [])
      let taken := fun t : State => run = .next (t.answered (ownPort l) Code.setLineExec tag .ok [b8 x.exec.code])
      let began := fun (m : Manner) => run = .next ((beginStep l m ((s.hunt (ownPort l)).setLine l
        { x with exec := e })).answer (ownPort l) Code.setLineExec tag .ok [b8 x.exec.code])
      let standing := s.estop = false ∧ x.exec = .hold ∧ x.activity = .idle ∧ x.step = none
      (x.mode ≠ .run → refused) ∧
      (x.mode = .run →
        (e = .run → (s.estop = true ∨ x.activity = .fault ∨ x.activity = .stopping ∨ x.exec = .step ∨ x.exec = .once) →
          refused) ∧
        (e = .run → s.estop = false → x.activity ≠ .fault → x.activity ≠ .stopping →
          (x.exec = .run → taken s) ∧
          (x.exec = .hold → x.step ≠ none → taken (s.setLine l { x with exec := .run })) ∧
          (x.exec = .hold → x.step = none → began .walk)) ∧
        (e = .step → (standing → began .step) ∧ (¬ standing → refused)) ∧
        (e = .once → (standing → began .once) ∧ (¬ standing → refused)) ∧
        (e = .hold →
          ((x.activity = .idle ∨ x.activity = .picking ∨ x.activity = .stopping ∨ x.activity = .fault) →
            taken (s.setLine l { x with exec := .hold })) ∧
          ((x.activity = .starved ∨ x.activity = .awaiting ∨ x.activity = .waitRecord) →
            taken (s.setLine l { x.stood with exec := .hold })) ∧
          (∀ d k, x.activity = .waitingTop → x.draw = some d → d.stack = some k →
            taken ((s.setStack k { s.stack k with waiters := (s.stack k).waiters.set l none }).setLine l
              { x.stood with exec := .hold }))))) ∧
    (∀ (tag b : Byte), Ready s (ownPort l) → 3 < b.toNat →
      exec (.setLineExec (ownPort l) tag [b8 (Line.code l), b]) s =
        .next (s.answered (ownPort l) Code.setLineExec tag .badValue [])) ∧
    (s.pins.resetHeld = false →
      let due := x.mode = .run ∧ x.activity = .idle ∧ x.step = none ∧ x.exec = .run ∧ s.estop = false
      (due → exec (.stepBegin l) s = .next (beginStep l .walk s)) ∧ (¬ due → exec (.stepBegin l) s = .next s))

/-- The steps that complete as they begin, and their waits: REPEAT by the rows of its loop counter, SIGNAL setting the
other line's latch or ending its AWAIT, AWAIT taking a set latch or waiting, and PANEL END closing the panel into its queue
or waiting for a place; the pointer and exec move by the manner, and BLANK, unnamed and empty PLY steps fault. -/
def Obligations.StepsActByKindAndManner : Prop :=
  ∀ (s : State) (l : Line) (m : Manner),
    let x := s.line l
    let step := x.pattern[x.pointer]
    let counter := x.counters[x.pointer]
    let past := fun (y : LineState) (m : Manner) (next : Fin 16) (stop : Bool) =>
      { y.stood with
        pointer := if m = .once then y.pointer else next,
        exec := if m = .walk then (if stop then .hold else y.exec) else .hold }
    let faulted := fun kind => (s.setLine l { x.stood with activity := .fault, fault := some kind, exec := .hold }).raise
      (.lineStopped l)
    let began := beginStep l m s
    (∀ target count, step = .loop target count →
      let ends := fun (c : Option Nat) (next : Fin 16) =>
        began = s.setLine l { past x m next false with counters := x.counters.set x.pointer.val c x.pointer.isLt }
      (count = 0 → ends counter target) ∧
      (count ≠ 0 → counter = none → ends (some (count.val - 1)) target) ∧
      (∀ n, count ≠ 0 → counter = some (n + 1) → ends (some n) target) ∧
      (count ≠ 0 → counter = some 0 → ends none (x.pointer + 1))) ∧
    (∀ kept, step = .signal kept →
      let y := s.line (otherLine l)
      let t := s.setLine l (past x m (x.pointer + 1) false)
      (y.activity ≠ .awaiting → began = t.setLine (otherLine l) { y with latch := true }) ∧
      (y.activity = .awaiting →
        began = t.setLine (otherLine l) (past y (y.step.getD .walk) (y.pointer + 1) false))) ∧
    (∀ kept, step = .await kept →
      (x.latch = true → began = s.setLine l { past x m (x.pointer + 1) false with latch := false }) ∧
      (x.latch = false → began = s.setLine l { x with activity := .awaiting, step := some m })) ∧
    (∀ notice after, step = .panelEnd notice after →
      let next := if after = .restart then 0 else x.pointer + 1
      let stop := decide (after = .stop)
      let told := fun t : State => if after = .stop ∧ m ≠ .once then t.raise (.lineStopped l) else t
      let number := if x.panelCounter < 65535 then x.panelCounter + 1 else 1
      let closed : PanelRecord := { number := x.panelCounter, line := l, status := .complete, plies := x.openPanel }
      (x.openPanel = [] → began = told (s.setLine l (past x m next stop))) ∧
      (x.openPanel ≠ [] → x.panelQueue.length < 4 →
        let queued := s.setLine l { past x m next stop with
          openPanel := [], panelCounter := number, panelQueue := x.panelQueue ++ [closed] }
        began = told (if notice then queued.raise (.panelReady l) else queued)) ∧
      (x.openPanel ≠ [] → 4 ≤ x.panelQueue.length →
        began = s.setLine l { x with activity := .waitRecord, step := some m })) ∧
    (∀ kept, step = .blank kept → began = faulted .blankStep) ∧
    (∀ seven kept, step = .unnamed seven kept → began = faulted .badStep) ∧
    (∀ role pref, step = .ply 0 role pref → began = faulted .badStep) ∧
    (∀ g role pref, step = .ply g role pref → g ≠ 0 → 24 ≤ x.openPanel.length → began = faulted .overlength)

/-- A PLY step with room in the panel makes a selection: the candidates are the OPEN or DRAIN stacks open to the line whose
top record is of a grade of the set; a free one is taken before one that is not; among them the grade ranks by the
preference and the stack number breaks a tie. The line picks, waits or starves. -/
def Obligations.PlySelectsFirstRankedStack : Prop :=
  ∀ (s : State) (l : Line) (m : Manner) (g : GradeSet) (role : Role) (pref : Preference),
    let x := s.line l
    x.pattern[x.pointer] = .ply g role pref → g ≠ 0 → x.openPanel.length < 24 →
    let grade := fun k => (s.stack k).inventory.head?.bind fun r => r.cls.map fun c => c.code.val
    let open_ := fun k => ((s.stack k).state = .opened ∨ (s.stack k).state = .drain) ∧ (s.stack k).access.get l = true
    let accepts := fun k => ∃ n, grade k = some n ∧ n < 5 ∧ g.getLsbD n = true
    let candidate := fun k => open_ k ∧ accepts k
    let free := fun k => (s.stack k).reservations = 0 ∧ (s.stack k).falling = [] ∧ (s.stack k).holder = none ∧
      s.estop = false
    let before := fun (j k : StackId) => ∃ a b, grade j = some a ∧ grade k = some b ∧
      ((a ≠ b ∧ (if pref = .conserve then b < a else a < b)) ∨ (a = b ∧ j < k))
    let drawing := fun k : Option StackId =>
      { x with draw := some { grades := g, pref := pref, role := role, origin := .ply, stack := k }, step := some m }
    let began := beginStep l m s
    (∀ k, candidate k → free k → (∀ j, candidate j → free j → j ≠ k → before k j) →
      began = (s.setStack k { s.stack k with
          holder := some l, lastGrant := some l, waiters := (s.stack k).waiters.set l none }).setLine l
        { drawing (some k) with
          activity := .picking, pickReq := some k, pickTimer := some 0, starveTimer := none, starveNoted := false }) ∧
    (∀ k, candidate k → (∀ j, candidate j → ¬ free j) → (∀ j, candidate j → j ≠ k → before k j) →
      began = (s.setStack k { s.stack k with waiters := (s.stack k).waiters.set l (some g) }).setLine l
        { drawing (some k) with activity := .waitingTop, starveTimer := none, starveNoted := false }) ∧
    (x.activity ≠ .starved → (∀ k, ¬ candidate k) →
      began = s.setLine l { drawing none with activity := .starved, starveTimer := some 0, starveNoted := false })

/-- WRITE STEPS writes its steps together, in LOAD only, and leaves the others; SET STEP POINTER moves the pointer of a line
that stands; CLEAR LINE FAULT returns a faulted line to IDLE and answers the kind; SIGNAL LINE, from any port, sets the
latch or ends an AWAIT; each refuses every other state. -/
def Obligations.LineIsProgrammedAndCleared : Prop :=
  (∀ (s : State) (l : Line) (tag first : Byte) (steps : List PatternStep), Ready s (ownPort l) → 1 ≤ steps.length →
    steps.length ≤ 16 →
    let x := s.line l
    let n := b8 steps.length
    let run := exec (.writeSteps (ownPort l) tag
      (b8 (Line.code l) :: first :: n :: steps.flatMap PatternStep.bytes)) s
    (16 < first.toNat + steps.length → run = .next (s.answered (ownPort l) Code.writeSteps tag .badValue [])) ∧
    (first.toNat + steps.length ≤ 16 → x.mode ≠ .load →
      run = .next (s.answered (ownPort l) Code.writeSteps tag .wrongState [])) ∧
    (first.toNat + steps.length ≤ 16 → x.mode = .load → ∃ pattern : Vector PatternStep 16,
      run = .next ((s.setLine l { x with pattern := pattern }).answered (ownPort l) Code.writeSteps tag .ok []) ∧
      (∀ i : Fin 16, first.toNat ≤ i.val → i.val < first.toNat + steps.length →
        steps[i.val - first.toNat]? = some pattern[i]) ∧
      (∀ i : Fin 16, (i.val < first.toNat ∨ first.toNat + steps.length ≤ i.val) → pattern[i] = x.pattern[i]))) ∧
  (∀ (s : State) (l : Line) (tag n : Byte), Ready s (ownPort l) →
    let x := s.line l
    let run := exec (.setStepPointer (ownPort l) tag [b8 (Line.code l), n]) s
    let stands := (x.activity = .idle ∨ x.activity = .fault) ∧ x.step = none ∧ (x.mode = .run → x.exec = .hold)
    (15 < n.toNat → run = .next (s.answered (ownPort l) Code.setStepPointer tag .badValue [])) ∧
    (n.toNat ≤ 15 → ¬ stands → run = .next (s.answered (ownPort l) Code.setStepPointer tag .wrongState [])) ∧
    (∀ i : Fin 16, n.toNat = i.val → stands →
      run = .next ((s.setLine l { x with pointer := i }).answered (ownPort l) Code.setStepPointer tag .ok
        [b8 x.pointer.val]))) ∧
  (∀ (s : State) (l : Line) (tag : Byte), Ready s (ownPort l) →
    let x := s.line l
    let run := exec (.clearLineFault (ownPort l) tag [b8 (Line.code l)]) s
    (x.activity ≠ .fault → run = .next (s.answered (ownPort l) Code.clearLineFault tag .wrongState [])) ∧
    (x.activity = .fault → run = .next ((s.setLine l { x with activity := .idle, fault := none }).answered (ownPort l)
      Code.clearLineFault tag .ok [b8 (lineFaultCode x.fault)]))) ∧
  (∀ (s : State) (p : Port) (l : Line) (tag : Byte), Ready s p →
    let x := s.line l
    let run := exec (.signalLine p tag [b8 (Line.code l)]) s
    let m := x.step.getD .walk
    (x.activity ≠ .awaiting →
      run = .next ((s.setLine l { x with latch := true }).answered p Code.signalLine tag .ok [bBool x.latch])) ∧
    (x.activity = .awaiting → run = .next ((s.setLine l { x.stood with
      pointer := if m = .once then x.pointer else x.pointer + 1,
      exec := if m = .walk then x.exec else .hold }).answered p Code.signalLine tag .ok [bBool x.latch])))

/-! ## DIRECT draws and panels (R166 to R172) -/

/-- DRAW refuses an empty set, a line not in DIRECT or that cannot draw, and a second draw; it begins a selection or, on a
full panel, faults OVERLENGTH with the draw ABORTED. CANCEL DRAW ends a draw that has not reached its pick. -/
def Obligations.DirectDrawBeginsAndCancels : Prop :=
  ∀ (s : State) (l : Line) (tag : Byte), Ready s (ownPort l) →
    let x := s.line l
    let p := ownPort l
    (∀ g pref role : Byte, (31 < g.toNat ∨ g = 0 ∨ 1 < pref.toNat ∨ 3 < role.toNat) →
      exec (.draw p tag [b8 (Line.code l), g, pref, role]) s = .next (s.answered p Code.draw tag .badValue [])) ∧
    (∀ (g : GradeSet) (pref : Preference) (role : Role), g ≠ 0 →
      let run := exec (.draw p tag [b8 (Line.code l), b8 g.toNat, b8 pref.code, b8 role.code]) s
      let takes := x.mode = .direct ∧ s.estop = false ∧ x.activity ≠ .fault ∧ x.activity ≠ .stopping
      let drawing := s.setLine l
        { x with draw := some { grades := g, pref := pref, role := role, origin := .direct, stack := none } }
      (¬ takes → run = .next (s.answered p Code.draw tag .wrongState [])) ∧
      (takes → x.draw ≠ none → run = .next (s.answered p Code.draw tag .busy [])) ∧
      (takes → x.draw = none → x.openPanel.length < 24 →
        run = .next ((select l drawing).answered p Code.draw tag .accepted [])) ∧
      (takes → x.draw = none → 24 ≤ x.openPanel.length →
        run = .next ((((s.setLine l { x.stood with
          activity := .fault, fault := some .overlength, exec := .hold, lastDraw := some .aborted
        }).raise (.drawDone l)).raise (.lineStopped l)).answered p Code.draw tag .accepted []))) ∧
    (let run := exec (.cancelDraw p tag [b8 (Line.code l)]) s
     let takes := x.mode = .direct ∧ x.draw ≠ none ∧ x.activity ≠ .picking ∧ x.activity ≠ .stopping
     (¬ takes → run = .next (s.answered p Code.cancelDraw tag .wrongState [])) ∧
     (∀ d, takes → x.draw = some d → d.origin = .direct →
       let after := { x.stood with lastDraw := some .cancelled }
       (x.activity ≠ .waitingTop → run = .next (((s.setLine l after).raise (.drawDone l)).answered p Code.cancelDraw tag
         .ok [])) ∧
       (∀ k, x.activity = .waitingTop → d.stack = some k → run = .next ((((s.setStack k
         { s.stack k with waiters := (s.stack k).waiters.set l none }).setLine l after).raise (.drawDone l)).answered p
           Code.cancelDraw tag .ok []))))

/-- CLOSE PANEL closes the open panel of a line in DIRECT with no draw as COMPLETE into its queue and answers its number,
or nothing for no plies, and refuses a full queue; TAKE PANEL answers and removes the oldest record and lets a line in
WAIT_RECORD close its panel into the place. That the sheet records it takes out of the part give up their slots is the
model's choice (assumption 12, abandonAll as in ResyncAndExpiryRemoveRecords). -/
def Obligations.PanelsCloseAndLeaveInOrder : Prop :=
  ∀ (s : State) (l : Line) (tag : Byte), Ready s (ownPort l) →
    let x := s.line l
    let p := ownPort l
    let close := exec (.closePanel p tag [b8 (Line.code l)]) s
    let take := exec (.takePanel p tag [b8 (Line.code l)]) s
    let takes := x.mode = .direct ∧ x.draw = none ∧ x.activity ≠ .stopping
    let number := if x.panelCounter < 65535 then x.panelCounter + 1 else 1
    let record : PanelRecord := { number := x.panelCounter, line := l, status := .complete, plies := x.openPanel }
    (¬ takes → close = .next (s.answered p Code.closePanel tag .wrongState [])) ∧
    (takes → x.openPanel = [] → close = .next (s.answered p Code.closePanel tag .ok [])) ∧
    (takes → x.openPanel ≠ [] → 4 ≤ x.panelQueue.length →
      close = .next (s.answered p Code.closePanel tag .queueFull [])) ∧
    (takes → x.openPanel ≠ [] → x.panelQueue.length < 4 →
      close = .next (((s.setLine l { x with
        openPanel := [], panelCounter := number, panelQueue := x.panelQueue ++ [record]
      }).raise (.panelReady l)).answered p Code.closePanel tag .ok (b16 x.panelCounter))) ∧
    (x.panelQueue = [] → take = .next (s.answered p Code.takePanel tag .empty [])) ∧
    (∀ r rest, x.panelQueue = r :: rest →
      let left := s.abandonAll (r.plies.map (·.sheet))
      (x.activity ≠ .waitRecord →
        take = .next ((left.setLine l { x with panelQueue := rest }).answered p Code.takePanel tag .ok
          (panelBytes r))) ∧
      (∀ notice after, x.activity = .waitRecord → x.pattern[x.pointer] = .panelEnd notice after → x.openPanel ≠ [] →
        rest.length < 4 →
        let m := x.step.getD .walk
        let next := if after = .restart then 0 else x.pointer + 1
        let t := left.setLine l { x.stood with
          openPanel := [], panelCounter := number, panelQueue := rest ++ [record],
          pointer := if m = .once then x.pointer else next,
          exec := if m = .walk then (if after = .stop then .hold else x.exec) else .hold }
        let ready := if notice then t.raise (.panelReady l) else t
        take = .next ((if after = .stop ∧ m ≠ .once then ready.raise (.lineStopped l) else ready).answered p
          Code.takePanel tag .ok (panelBytes r))))

/-! ## The emergency stop (R135, R155, R165, R179) -/

/-- The assertion of ESTOP_N raises ESTOP, aborts every pick in flight and stops both lines where they stand by mode and
activity; it acts on nothing else. A waiting line leaves the waiters of its stack and no other does; a STOPPING line
enters OFF with its DIRECT draw ABORTED and its open panel closed as ABANDONED, the records of one dropped at a full queue
giving up their slots (assumption 12); no FEEDER_FAULT is raised. While asserted it is not taken again, and its release changes only the pin. While RESET_N is held only the level is followed
(assumption 7). -/
def Obligations.EmergencyStopStopsBothLines : Prop :=
  ∀ s : State,
    exec .estopRelease s = .next (s.setPins { s.pins with estop := false }) ∧
    (s.pins.estop = true → exec .estopAssert s = .next s) ∧
    (s.pins.estop = false → s.pins.resetHeld = true →
      exec .estopAssert s = .next (s.setPins { s.pins with estop := true })) ∧
    (s.pins.estop = false → s.pins.resetHeld = false → ∃ t, exec .estopAssert s = .next t ∧
      t.pins = { s.pins with estop := true } ∧ t.intake = s.intake ∧ t.tables = s.tables ∧
      t.caches = s.caches ∧ t.tracking = s.tracking ∧ t.routing = s.routing ∧ t.pending = s.pending ∧
      t.choices = s.choices ∧
      (let dropped := fun l => if (s.line l).activity = .stopping ∧ 4 ≤ (s.line l).panelQueue.length then
         (s.line l).openPanel.map (·.sheet) else []
       GivesUp (dropped .a ++ dropped .b) s t) ∧
      (∀ p, (t.port p).notices.getLsbD 13 = true ∧ (t.port p).pending = (s.port p).pending ∧
        (t.port p).receiver = (s.port p).receiver ∧ (t.port p).sending = (s.port p).sending ∧
        (t.port p).waiting = (s.port p).waiting ∧ (t.port p).mask = (s.port p).mask) ∧
      (∀ k, ∃ holder waiters, t.stack k = { s.stack k with holder := holder, waiters := waiters } ∧
        (holder = none ∨ holder = (s.stack k).holder)) ∧
      (∀ l, let x := s.line l
        let aborted := { x.stood with lastDraw := some .aborted }
        (x.activity = .fault → t.line l = x) ∧
        (x.activity ≠ .fault → x.activity ≠ .stopping →
          (x.mode = .run → t.line l = { x.stood with exec := .hold }) ∧
          ((x.mode = .off ∨ x.mode = .load) → t.line l = x) ∧
          (x.mode = .direct → x.draw = none → t.line l = x) ∧
          (∀ d, x.mode = .direct → x.draw = some d → d.origin = .direct →
            t.line l = aborted ∧ ∀ p, (t.port p).notices.getLsbD (Notice.drawDone l).number = true)) ∧
        (x.activity = .stopping → (t.line l).mode = .off ∧ (t.line l).activity = .idle ∧ (t.line l).openPanel = [] ∧
          (t.line l).pickReq = none ∧ (t.line l).draw = none ∧
          (let y := t.line l
           let tells := fun n : Notice => ∀ p, (t.port p).notices.getLsbD n.number = true
           let next := if x.panelCounter < 65535 then x.panelCounter + 1 else 1
           let closed : PanelRecord := { number := x.panelCounter, line := l, status := .abandoned, plies := x.openPanel }
           (∀ d, x.draw = some d → d.origin = .direct → y.lastDraw = some .aborted ∧ tells (.drawDone l)) ∧
           ((∀ d, x.draw = some d → d.origin = .ply) → y.lastDraw = x.lastDraw) ∧
           (x.openPanel = [] → y.panelQueue = x.panelQueue ∧ y.panelCounter = x.panelCounter) ∧
           (x.openPanel ≠ [] → x.panelQueue.length < 4 →
             y.panelQueue = x.panelQueue ++ [closed] ∧ y.panelCounter = next ∧ tells (.panelReady l)) ∧
           (x.openPanel ≠ [] → 4 ≤ x.panelQueue.length →
             y.panelQueue = x.panelQueue ∧ y.panelCounter = next ∧ tells (.panelDropped l)))) ∧
        (let leaves := fun k : StackId => x.activity = .waitingTop ∧ (x.mode = .run ∨ x.mode = .direct) ∧
           ∃ d, x.draw = some d ∧ d.stack = some k
         (∀ k, leaves k → (t.stack k).waiters.get l = none) ∧
         (∀ k, ¬ leaves k → (t.stack k).waiters.get l = (s.stack k).waiters.get l)) ∧
        (∀ p, (t.port p).notices.getLsbD (Notice.feederFault l).number =
          (s.port p).notices.getLsbD (Notice.feederFault l).number) ∧
        (∀ d k, (x.activity = .picking ∨ x.activity = .stopping) → x.draw = some d → d.stack = some k →
          (x.mode = .run ∨ x.mode = .direct) → (x.mode = .direct → d.origin = .direct) → (t.stack k).holder = none)))

/-! ## The requests that read -/

/-- The twelve requests that read answer what stands when they are taken, refuse a field that names nothing, and
change nothing but the receiver and transmitter of their own port. The fields of an absent root are free values
(assumption 11); no stack in STOPPING and the order of the four bytes of a notice set are the model's readings
(assumptions 15 and 28). The layouts of the records they return are stated in AnswersAreLaidOut. -/
def Obligations.ReadRequestsChangeNothing : Prop :=
  (∀ (s t : State) (i : Instr) (f : Frame), i.frame = some f → isReadRequest f.code = true → Ready s f.port →
    exec i s = .next t → ∃ st body, t = s.answered f.port f.code f.tag st body) ∧
  (∀ (s : State) (p : Port) (tag : Byte), Ready s p →
    let answers := fun (i : Instr) (code : Byte) (body : List Byte) => exec i s = .next (s.answered p code tag .ok body)
    let refuses := fun (i : Instr) (code : Byte) => exec i s = .next (s.answered p code tag .badValue [])
    answers (.readNotices p tag []) Code.readNotices
      (b32 (s.port p).notices ++ b32 (s.port p).mask ++ [if s.estop then 1 else 0]) ∧
    answers (.readRoots p tag []) Code.readRoots
      (rootBytes .slot0 s.tables.roots.slot0 (slotInUse .slot0 s) ++
        rootBytes .slot1 s.tables.roots.slot1 (slotInUse .slot1 s) ++ [b8 s.intake.current.code]) ∧
    answers (.readRoutes p tag []) Code.readRoutes
      (s.routing.routes.toList.flatMap Route.bytes ++ [swapByte s.routing.swaps]) ∧
    answers (.readRunout p tag []) Code.readRunout (b16 s.routing.runOut) ∧
    (∀ (id : Byte) (q : Param), paramOf id.toNat = some q →
      answers (.getParameter p tag [id]) Code.getParameter (b16 (q.value s))) ∧
    (∀ id : Byte, paramOf id.toNat = none → refuses (.getParameter p tag [id]) Code.getParameter) ∧
    (∀ l : Lane, answers (.readIntake p tag [b8 (Lane.code l)]) Code.readIntake
      ([b8 (s.lane l).gaps, b8 (s.lane l).queue.length] ++ (s.lane l).queue.flatMap intakeBytes)) ∧
    (∀ b : Byte, laneOf b.toNat = none → refuses (.readIntake p tag [b]) Code.readIntake) ∧
    (∀ b : Byte,
      (b.toNat ≤ 31 → answers (.readTracking p tag [b]) Code.readTracking
        (let listed := (s.tracking.queue.drop b.toNat).take 8
         [b8 s.tracking.state.code, b8 s.tracking.queue.length, b8 listed.length] ++ listed.flatMap trackBytes)) ∧
      (31 < b.toNat → refuses (.readTracking p tag [b]) Code.readTracking)) ∧
    (∀ (u b : Byte),
      (∀ v, unitOf u.toNat = some v → b.toNat ≤ 15 → answers (.readCache p tag [u, b]) Code.readCache
        (let c := s.cache v
         let items := if c.mode = .off then ((c.buffer.drop b.toNat).take 3).map bufferBytes
           else ((c.entries.drop b.toNat).take 3).map entryBytes
         [b8 c.mode.code, b8 c.entries.length, b8 c.lockedCount, b8 c.buffer.length, b8 items.length] ++
           items.flatten)) ∧
      ((unitOf u.toNat = none ∨ 15 < b.toNat) → refuses (.readCache p tag [u, b]) Code.readCache)) ∧
    (∀ k hi lo n : Byte,
      let offset := hi.toNat * 256 + lo.toNat
      (∀ j, stackOf k.toNat = some j → offset ≤ 399 → n.toNat ≤ 16 →
        answers (.readStack p tag [k, hi, lo, n]) Code.readStack (stackBytes (s.stack j) offset n.toNat)) ∧
      ((stackOf k.toNat = none ∨ 399 < offset ∨ 16 < n.toNat) →
        refuses (.readStack p tag [k, hi, lo, n]) Code.readStack)) ∧
    (∀ l first n : Byte,
      (∀ m, lineOf l.toNat = some m → 1 ≤ n.toNat → first.toNat + n.toNat ≤ 16 →
        answers (.readSteps p tag [l, first, n]) Code.readSteps
          (n :: ((((s.line m).pattern.toList.zip (s.line m).counters.toList).drop first.toNat).take n.toNat).flatMap
            stepBytes)) ∧
      ((lineOf l.toNat = none ∨ n.toNat < 1 ∨ 16 < first.toNat + n.toNat) →
        refuses (.readSteps p tag [l, first, n]) Code.readSteps)) ∧
    (∀ l : Line, answers (.readLineStatus p tag [b8 (Line.code l)]) Code.readLineStatus
      (let x := s.line l
       let stack := if x.activity = .waitingTop ∨ x.activity = .picking then x.draw.bind (·.stack) else none
       [b8 x.mode.code, b8 x.exec.code, b8 x.pointer.val, b8 x.activity.code, b8 (lineFaultCode x.fault),
        bBool x.latch, b8 (stackNibble stack), b8 x.openPanel.length, b8 x.panelQueue.length,
        b8 (drawResultCode x.lastDraw)])) ∧
    (∀ b : Byte, lineOf b.toNat = none → refuses (.readLineStatus p tag [b]) Code.readLineStatus) ∧
    (∀ (l : Line) (n : Byte),
      (∀ r, n.toNat ≤ 3 → (s.line l).panelQueue[n.toNat]? = some r →
        answers (.peekPanel p tag [b8 (Line.code l), n]) Code.peekPanel (panelBytes r)) ∧
      (n.toNat ≤ 3 → (s.line l).panelQueue.length ≤ n.toNat →
        exec (.peekPanel p tag [b8 (Line.code l), n]) s = .next (s.answered p Code.peekPanel tag .empty [])) ∧
      (3 < n.toNat → refuses (.peekPanel p tag [b8 (Line.code l), n]) Code.peekPanel)))

/-- The layouts of the records and answer bodies that requests return, offset by offset: the sheet record, the
tracking entry, the ply and the panel record, the step with its counter, the records of READ INTAKE, READ STACK,
READ CACHE, PROBE PATH and LOCK PATHS, the roots, the routes, and the codes their fields carry; and the code of every
status and of every request, the number of every notice flag and the id of every parameter. A number wider
than its place is cut to it; no run gives one. The fields of an absent root are free (assumption 11). -/
def Obligations.AnswersAreLaidOut : Prop :=
  (∀ r : SheetRecord,
    let b := sheetBytes r
    let at_ := byteAt b
    b.length = 7 ∧ wordAt b 0 = r.number % 65536 ∧ at_ 2 % 16 = (r.species.getD 15) % 16 ∧
    (at_ 2).testBit 4 = r.species.isNone ∧ (at_ 2).testBit 5 = false ∧ at_ 2 / 64 = Lane.code r.lane ∧
    at_ 3 = (r.thickClass.getD 255) % 256 ∧ at_ 4 = ((r.cls.map fun c => c.code.val).getD 8) ∧
    at_ 5 % 16 = faultCode r.fault ∧ at_ 5 / 16 = r.status.code ∧
    (at_ 6).testBit 0 = r.flags.clamped ∧ (at_ 6).testBit 1 = r.flags.overdry ∧
    (at_ 6).testBit 2 = r.flags.noMoisture ∧ (at_ 6).testBit 3 = r.flags.defectsOmitted ∧
    (at_ 6).testBit 4 = r.flags.badDefect ∧ (at_ 6).testBit 5 = r.flags.unmeasured ∧
    (at_ 6).testBit 6 = r.flags.late ∧ (at_ 6).testBit 7 = r.flags.unconfirmed) ∧
  (∀ e : TrackEntry,
    let b := trackBytes e
    b.length = 12 ∧ b.take 7 = sheetBytes e.sheet ∧ wordAt b 7 = (e.sheet.moisture.getD 0xFFFF) % 65536 ∧
    wordAt b 9 = e.distance % 65536 ∧ byteAt b 11 % 16 = ((e.stack.map (·.val)).getD 15) ∧
    byteAt b 11 / 16 = e.drop.code) ∧
  (∀ (y : Ply) (p : PanelRecord),
    let b := plyBytes y
    let c := panelBytes p
    b.length = 8 ∧ b.take 7 = sheetBytes y.sheet ∧ byteAt b 7 % 16 = y.stack.val ∧ byteAt b 7 / 16 = y.role.code ∧
    c.length = 5 + 8 * p.plies.length ∧ wordAt c 0 = p.number % 65536 ∧ byteAt c 2 = Line.code p.line ∧
    byteAt c 3 = p.status.code ∧ byteAt c 4 = p.plies.length % 256 ∧
    ∀ (older newer : List Ply) (z : Ply), p.plies = older ++ z :: newer →
      (c.drop (5 + 8 * older.length)).take 8 = plyBytes z) ∧
  (∀ e : IntakeEntry,
    let b := intakeBytes e
    b.length = 9 ∧ wordAt b 0 = e.sheet.number % 65536 ∧ (byteAt b 2).testBit 0 = decide (e.sheet.slot = .slot1) ∧
    byteAt b 2 / 16 = e.sheet.status.code ∧ byteAt b 3 = ((e.sheet.cls.map fun c => c.code.val).getD 255) ∧
    b[4]? = some e.sheet.flags.byte ∧ byteAt b 5 = faultCode e.sheet.fault ∧ byteAt b 6 = e.sheet.gapsAfter % 256 ∧
    wordAt b 7 = e.age % 65536) ∧
  (∀ (x : Stack) (offset count : Nat),
    let b := stackBytes x offset count
    let listed := (x.inventory.drop offset).take count
    let line := fun l : Option Line => ((l.map Line.code).getD 255)
    let place := fun (k i : Nat) =>
      (x.falling[i]? = none → wordAt b k = 0 ∧ wordAt b (k + 2) = 0) ∧
      (∀ f, x.falling[i]? = some f → wordAt b k = f.sheet.number % 65536 ∧ wordAt b (k + 2) = f.timer % 65536)
    b.length = 21 + 7 * listed.length ∧ byteAt b 0 = x.state.code ∧ wordAt b 1 = x.capacity % 65536 ∧
    byteAt b 3 = x.access.a.toNat + 2 * x.access.b.toNat ∧ wordAt b 4 = x.inventory.length % 65536 ∧
    byteAt b 6 = x.allocated % 256 ∧ byteAt b 7 = x.reservations % 256 ∧ byteAt b 8 = x.falling.length % 256 ∧
    place 9 0 ∧ place 13 1 ∧ byteAt b 17 = line x.holder ∧
    byteAt b 18 = x.waiters.a.isSome.toNat + 2 * x.waiters.b.isSome.toNat ∧ byteAt b 19 = line x.lastGrant ∧
    byteAt b 20 = listed.length % 256 ∧
    ∀ (above below : List SheetRecord) (r : SheetRecord), listed = above ++ r :: below →
      (b.drop (21 + 7 * above.length)).take 7 = sheetBytes r) ∧
  (∀ (locked : Bool) (body : CacheBody),
    let b := entryBytes { body := body, locked := locked }
    b.length = 58 ∧ (byteAt b 0).testBit 1 = locked ∧
    (∀ owner code c, body = .species owner code c →
      (byteAt b 0).testBit 0 = false ∧ (byteAt b 0).testBit 2 = owner.isNone ∧ wordAt b 1 = (owner.getD 0) % 65536 ∧
      byteAt b 3 = code % 256 ∧ wordAt b 4 = c.cell % 65536 ∧ wordAt b 6 = 0xFFFF ∧ wordAt b 8 = 0xFFFF ∧
      (b.drop 10).take 16 = c.content.toList ∧ b.drop 26 = List.replicate 32 0) ∧
    (∀ origin k p, body = .path origin k p →
      (byteAt b 0).testBit 0 = true ∧ (byteAt b 0).testBit 2 = false ∧ wordAt b 1 = origin % 65536 ∧
      byteAt b 3 = k % 256 ∧ wordAt b 4 = p.thickCell % 65536 ∧ wordAt b 6 = p.lim1Cell % 65536 ∧
      wordAt b 8 = p.lim2Cell % 65536 ∧ b.drop 10 = p.thick.toList ++ p.lim1.toList ++ p.lim2.toList)) ∧
  (∀ e : BufferEntry,
    let b := bufferBytes e
    b.length = 76 ∧ wordAt b 0 = e.origin % 65536 ∧ byteAt b 2 = e.code % 256 ∧ byteAt b 3 = e.index % 256 ∧
    wordAt b 4 = e.species.cell % 65536 ∧ wordAt b 6 = e.path.thickCell % 65536 ∧
    wordAt b 8 = e.path.lim1Cell % 65536 ∧ wordAt b 10 = e.path.lim2Cell % 65536 ∧
    b.drop 12 = e.species.content.toList ++ e.path.thick.toList ++ e.path.lim1.toList ++ e.path.lim2.toList) ∧
  (∀ (r : ProbeReport) (rs : List LockResult),
    let b := probeBytes r
    b.length = 11 ∧ byteAt b 0 = faultCode r.fault ∧ byteAt b 1 = r.speciesSource.code ∧
    wordAt b 2 = (r.speciesCell.getD 0xFFFF) % 65536 ∧ byteAt b 4 = (r.index.getD 255) % 256 ∧
    byteAt b 5 = r.pathSource.code ∧ wordAt b 6 = (r.thickCell.getD 0xFFFF) % 65536 ∧
    wordAt b 8 = (r.limitOrigin.getD 0xFFFF) % 65536 ∧ byteAt b 10 = r.accesses % 256 ∧
    byteAt (lockBytes rs) 0 = rs.length % 256 ∧ (lockBytes rs).length = 1 + rs.length ∧
    ∀ i (h : i < rs.length), byteAt (lockBytes rs) (1 + i) = rs[i].code) ∧
  (∀ (k : Slot) (d : Descriptor) (used : Bool),
    let b := rootBytes k (some d) used
    b.length = 4 ∧ (byteAt b 0).testBit 0 = true ∧ (byteAt b 0).testBit 1 = d.isolated ∧
    (byteAt b 0).testBit 2 = used ∧ byteAt b 0 < 8 ∧ wordAt b 1 = d.origin % 65536 ∧ byteAt b 3 = d.count % 256 ∧
    (rootBytes k none used).length = 4 ∧ (byteAt (rootBytes k none used) 0).testBit 0 = false ∧
    (byteAt (rootBytes k none used) 0).testBit 2 = used) ∧
  (∀ (r : Route) (v : Vector Bool 4) (g : Fin 4),
    r.bytes.length = 2 ∧ byteAt r.bytes 0 % 16 = ((r.primary.map (·.val)).getD 15) ∧
    byteAt r.bytes 0 / 16 = ((r.alternate.map (·.val)).getD 15) ∧ byteAt r.bytes 1 = r.group.val ∧
    (swapByte v).getLsbD g.val = v[g]) ∧
  (∀ (y : PatternStep) (c : Option Nat),
    let b := stepBytes (y, c)
    b.length = 5 ∧ b.take 4 = y.bytes ∧ byteAt b 4 = (c.getD 255) % 256 ∧
    (∀ kept, y = .blank kept → y.bytes = [0, kept.byte1, kept.byte2, kept.byte3]) ∧
    (∀ g role pref, y = .ply g role pref → y.bytes = [1, b8 g.toNat, b8 role.code, b8 pref.code]) ∧
    (∀ target count, y = .loop target count → y.bytes = [2, b8 target.val, b8 count.val, 0]) ∧
    (∀ notice after, y = .panelEnd notice after →
      y.bytes = [3, if notice then 1 else 0, b8 after.code, 0]) ∧
    (∀ kept, y = .signal kept → y.bytes = [4, kept.byte1, kept.byte2, kept.byte3]) ∧
    (∀ kept, y = .await kept → y.bytes = [5, kept.byte1, kept.byte2, kept.byte3]) ∧
    (∀ seven kept, y = .unnamed seven kept →
      y.bytes = [if seven then 7 else 6, kept.byte1, kept.byte2, kept.byte3])) ∧
  ([none, some RuleFault.noRoot, some .speciesRange, some .address, some .format, some .speciesInvalid,
      some .noThickness, some .thicknessRange, some .thicknessInvalid].map faultCode = [0, 1, 2, 3, 4, 5, 6, 7, 8] ∧
    [SheetClass.g1, .g2, .g3, .g4, .g5, .g6, .redry, .regrade].map (fun c => c.code.val) = [0, 1, 2, 3, 4, 5, 6, 7] ∧
    [GradingStatus.waiting, .grading, .graded, .faulted].map (·.code) = [0, 1, 2, 3] ∧
    [DropState.noDrop, .allocated, .reserved, .abandoned].map (·.code) = [0, 1, 2, 3] ∧
    [StackState.closed, .opened, .drain, .faulted].map (·.code) = [0, 1, 2, 3] ∧
    [CacheMode.normal, .split, .off].map (·.code) = [0, 1, 2] ∧ [Source.none, .cache, .walk].map (·.code) = [0, 1, 2] ∧
    [TrackState.running, .faulted].map (·.code) = [0, 1] ∧
    [LockResult.locked, .notLocked, .fault .noRoot, .fault .thicknessInvalid].map (·.code) = [0x10, 0x11, 1, 8] ∧
    [LineMode.off, .load, .run, .direct].map (·.code) = [0, 1, 2, 3] ∧
    [Exec.run, .hold, .step, .once].map (·.code) = [0, 1, 2, 3] ∧
    [Activity.idle, .waitingTop, .picking, .starved, .awaiting, .waitRecord, .stopping, .fault].map (·.code) =
      [0, 1, 2, 3, 4, 5, 6, 7] ∧
    [none, some LineFault.blankStep, some .badStep, some .overlength, some .feederTimeout].map lineFaultCode =
      [0, 1, 2, 3, 4] ∧
    [none, some DrawResult.done, some .aborted, some .cancelled].map drawResultCode = [0, 1, 2, 3] ∧
    [Role.face, .back, .core, .cross].map (·.code) = [0, 1, 2, 3] ∧ [Preference.conserve, .best].map (·.code) = [0, 1] ∧
    [After.next, .restart, .stop].map (·.code) = [0, 1, 2] ∧ [PanelStatus.complete, .abandoned].map (·.code) = [0, 1] ∧
    [PickPriority.fixedA, .fixedB, .rotating].map (·.code) = [0, 1, 2] ∧
    [Line.a, .b].map Line.code = [0, 1] ∧ [Lane.lane1, .lane2].map Lane.code = [1, 2]) ∧
  (let requests : List (Port → Byte → List Byte → Instr) :=
      [Instr.readNotices, .ackNotices, .setNoticeMask, .setParameter, .getParameter, .submitSheet, .laneResync,
       .readIntake, .writeCell, .readCell, .replaceCell, .invalidateCell, .writeRoot, .changeover, .readRoots,
       .probePath, .setCacheMode, .lockPaths, .purgeCache, .readCache, .trackClear, .readTracking, .writeRoute,
       .swapGroup, .readRoutes, .readRunout, .clearRunout, .openStack, .drainStack, .closeStack, .clearStackFault,
       .clearStack, .setStackCapacity, .setStackAccess, .readStack, .setLineMode, .setLineExec, .writeSteps,
       .readSteps, .setStepPointer, .clearLineFault, .readLineStatus, .signalLine, .draw, .cancelDraw, .closePanel,
       .takePanel, .peekPanel]
   let codes : List Byte :=
      [0x08, 0x09, 0x0A, 0x0B, 0x0C, 0x10, 0x11, 0x12, 0x20, 0x21, 0x22, 0x23, 0x24, 0x25, 0x26, 0x27, 0x30, 0x31,
       0x32, 0x33, 0x40, 0x41, 0x50, 0x51, 0x52, 0x53, 0x54, 0x60, 0x61, 0x62, 0x63, 0x64, 0x65, 0x66, 0x67, 0x70,
       0x71, 0x72, 0x73, 0x74, 0x75, 0x76, 0x77, 0x78, 0x79, 0x7A, 0x7B, 0x7C]
   requests.length = 48 ∧ codes.length = 48 ∧
   (∀ (n : Nat) (make : Port → Byte → List Byte → Instr) (c : Byte), requests[n]? = some make → codes[n]? = some c →
     ∀ p tag body, (make p tag body).frame = some { port := p, code := c, tag := tag, body := body }) ∧
   (∀ (p : Port) (c tag : Byte) (body : List Byte),
     (Instr.unknownCode p c tag body).frame = some { port := p, code := c, tag := tag, body := body }) ∧
   (∀ c : Byte, isRequestCode c = true ↔ c ∈ codes)) ∧
  ([Status.ok, .accepted, .overrun, .mismatch, .empty].map (·.code) = [0x00, 0x01, 0x02, 0x03, 0x04] ∧
    [Status.busy, .badRequest, .badValue, .wrongState, .inUse, .notOwner, .queueFull, .wrongLevel].map (·.code) =
      [0x10, 0x11, 0x12, 0x13, 0x14, 0x15, 0x16, 0x17]) ∧
  ([Notice.intakeOverrun, .laneDesync, .recordExpired, .unmeasuredSheet, .gradeLate, .ruleFault, .trackOverflow,
      .dropAbandoned, .missedLanding, .stackFull, .stackEmpty, .stackFault, .encoderStall, .estop].map (·.number) =
      [0, 1, 2, 3, 4, 5, 6, 7, 8, 9, 10, 11, 12, 13] ∧
    (∀ l : Line, [Notice.panelReady l, .panelDropped l, .lineStopped l, .lineStarved l, .drawDone l,
      .feederFault l].map (·.number) = match l with
        | .a => [14, 15, 16, 17, 18, 19]
        | .b => [20, 21, 22, 23, 24, 25])) ∧
  (∀ (id : Nat) (q : Param), paramOf id = some q ↔
    id = match q with
      | .ageLimit => 0x01
      | .decision => 0x10
      | .window => 0x11
      | .gate k => 0x12 + k.val
      | .runOut => 0x1C
      | .stallLimit => 0x1D
      | .landingLimit => 0x20
      | .priority => 0x21
      | .pickLimit => 0x30
      | .starveLimit => 0x31)
end

