-- ==== Sys2Proof/Laws/State.lean ====
section
/-!
SUPPORT. What each update of a state leaves: one lemma per field per update, true by unfolding, and what the accessors
read after an update.
-/

namespace Sys2Proof.Machine

variable (s : State)

/-! ## setLane -/

@[simp] theorem State.setLane_grading (l : Lane) (x : IntakeLane) : (s.setLane l x).grading = s.grading := rfl
@[simp] theorem State.setLane_tables (l : Lane) (x : IntakeLane) : (s.setLane l x).tables = s.tables := rfl
@[simp] theorem State.setLane_caches (l : Lane) (x : IntakeLane) : (s.setLane l x).caches = s.caches := rfl
@[simp] theorem State.setLane_tracking (l : Lane) (x : IntakeLane) : (s.setLane l x).tracking = s.tracking := rfl
@[simp] theorem State.setLane_routing (l : Lane) (x : IntakeLane) : (s.setLane l x).routing = s.routing := rfl
@[simp] theorem State.setLane_sk (l : Lane) (x : IntakeLane) : (s.setLane l x).sk = s.sk := rfl
@[simp] theorem State.setLane_lines (l : Lane) (x : IntakeLane) : (s.setLane l x).lines = s.lines := rfl
@[simp] theorem State.setLane_ports (l : Lane) (x : IntakeLane) : (s.setLane l x).ports = s.ports := rfl
@[simp] theorem State.setLane_pins (l : Lane) (x : IntakeLane) : (s.setLane l x).pins = s.pins := rfl
@[simp] theorem State.setLane_choices (l : Lane) (x : IntakeLane) : (s.setLane l x).choices = s.choices := rfl
@[simp] theorem State.setLane_pending (l : Lane) (x : IntakeLane) : (s.setLane l x).pending = s.pending := rfl

/-! ## setIntake -/

@[simp] theorem State.setIntake_grading (x : Intake) : (s.setIntake x).grading = s.grading := rfl
@[simp] theorem State.setIntake_tables (x : Intake) : (s.setIntake x).tables = s.tables := rfl
@[simp] theorem State.setIntake_caches (x : Intake) : (s.setIntake x).caches = s.caches := rfl
@[simp] theorem State.setIntake_tracking (x : Intake) : (s.setIntake x).tracking = s.tracking := rfl
@[simp] theorem State.setIntake_routing (x : Intake) : (s.setIntake x).routing = s.routing := rfl
@[simp] theorem State.setIntake_sk (x : Intake) : (s.setIntake x).sk = s.sk := rfl
@[simp] theorem State.setIntake_lines (x : Intake) : (s.setIntake x).lines = s.lines := rfl
@[simp] theorem State.setIntake_ports (x : Intake) : (s.setIntake x).ports = s.ports := rfl
@[simp] theorem State.setIntake_pins (x : Intake) : (s.setIntake x).pins = s.pins := rfl
@[simp] theorem State.setIntake_choices (x : Intake) : (s.setIntake x).choices = s.choices := rfl
@[simp] theorem State.setIntake_pending (x : Intake) : (s.setIntake x).pending = s.pending := rfl

/-! ## setJob -/

@[simp] theorem State.setJob_intake (u : Lane) (x : Option GradingJob) : (s.setJob u x).intake = s.intake := rfl
@[simp] theorem State.setJob_tables (u : Lane) (x : Option GradingJob) : (s.setJob u x).tables = s.tables := rfl
@[simp] theorem State.setJob_caches (u : Lane) (x : Option GradingJob) : (s.setJob u x).caches = s.caches := rfl
@[simp] theorem State.setJob_tracking (u : Lane) (x : Option GradingJob) : (s.setJob u x).tracking = s.tracking := rfl
@[simp] theorem State.setJob_routing (u : Lane) (x : Option GradingJob) : (s.setJob u x).routing = s.routing := rfl
@[simp] theorem State.setJob_sk (u : Lane) (x : Option GradingJob) : (s.setJob u x).sk = s.sk := rfl
@[simp] theorem State.setJob_lines (u : Lane) (x : Option GradingJob) : (s.setJob u x).lines = s.lines := rfl
@[simp] theorem State.setJob_ports (u : Lane) (x : Option GradingJob) : (s.setJob u x).ports = s.ports := rfl
@[simp] theorem State.setJob_pins (u : Lane) (x : Option GradingJob) : (s.setJob u x).pins = s.pins := rfl
@[simp] theorem State.setJob_choices (u : Lane) (x : Option GradingJob) : (s.setJob u x).choices = s.choices := rfl
@[simp] theorem State.setJob_pending (u : Lane) (x : Option GradingJob) : (s.setJob u x).pending = s.pending := rfl

/-! ## setTables -/

@[simp] theorem State.setTables_intake (x : Tables) : (s.setTables x).intake = s.intake := rfl
@[simp] theorem State.setTables_grading (x : Tables) : (s.setTables x).grading = s.grading := rfl
@[simp] theorem State.setTables_caches (x : Tables) : (s.setTables x).caches = s.caches := rfl
@[simp] theorem State.setTables_tracking (x : Tables) : (s.setTables x).tracking = s.tracking := rfl
@[simp] theorem State.setTables_routing (x : Tables) : (s.setTables x).routing = s.routing := rfl
@[simp] theorem State.setTables_sk (x : Tables) : (s.setTables x).sk = s.sk := rfl
@[simp] theorem State.setTables_lines (x : Tables) : (s.setTables x).lines = s.lines := rfl
@[simp] theorem State.setTables_ports (x : Tables) : (s.setTables x).ports = s.ports := rfl
@[simp] theorem State.setTables_pins (x : Tables) : (s.setTables x).pins = s.pins := rfl
@[simp] theorem State.setTables_choices (x : Tables) : (s.setTables x).choices = s.choices := rfl
@[simp] theorem State.setTables_pending (x : Tables) : (s.setTables x).pending = s.pending := rfl

/-! ## setCache -/

@[simp] theorem State.setCache_intake (u : Lane) (x : RuleCache) : (s.setCache u x).intake = s.intake := rfl
@[simp] theorem State.setCache_grading (u : Lane) (x : RuleCache) : (s.setCache u x).grading = s.grading := rfl
@[simp] theorem State.setCache_tables (u : Lane) (x : RuleCache) : (s.setCache u x).tables = s.tables := rfl
@[simp] theorem State.setCache_tracking (u : Lane) (x : RuleCache) : (s.setCache u x).tracking = s.tracking := rfl
@[simp] theorem State.setCache_routing (u : Lane) (x : RuleCache) : (s.setCache u x).routing = s.routing := rfl
@[simp] theorem State.setCache_sk (u : Lane) (x : RuleCache) : (s.setCache u x).sk = s.sk := rfl
@[simp] theorem State.setCache_lines (u : Lane) (x : RuleCache) : (s.setCache u x).lines = s.lines := rfl
@[simp] theorem State.setCache_ports (u : Lane) (x : RuleCache) : (s.setCache u x).ports = s.ports := rfl
@[simp] theorem State.setCache_pins (u : Lane) (x : RuleCache) : (s.setCache u x).pins = s.pins := rfl
@[simp] theorem State.setCache_choices (u : Lane) (x : RuleCache) : (s.setCache u x).choices = s.choices := rfl
@[simp] theorem State.setCache_pending (u : Lane) (x : RuleCache) : (s.setCache u x).pending = s.pending := rfl

/-! ## setTracking -/

@[simp] theorem State.setTracking_intake (x : Tracking) : (s.setTracking x).intake = s.intake := rfl
@[simp] theorem State.setTracking_grading (x : Tracking) : (s.setTracking x).grading = s.grading := rfl
@[simp] theorem State.setTracking_tables (x : Tracking) : (s.setTracking x).tables = s.tables := rfl
@[simp] theorem State.setTracking_caches (x : Tracking) : (s.setTracking x).caches = s.caches := rfl
@[simp] theorem State.setTracking_routing (x : Tracking) : (s.setTracking x).routing = s.routing := rfl
@[simp] theorem State.setTracking_sk (x : Tracking) : (s.setTracking x).sk = s.sk := rfl
@[simp] theorem State.setTracking_lines (x : Tracking) : (s.setTracking x).lines = s.lines := rfl
@[simp] theorem State.setTracking_ports (x : Tracking) : (s.setTracking x).ports = s.ports := rfl
@[simp] theorem State.setTracking_pins (x : Tracking) : (s.setTracking x).pins = s.pins := rfl
@[simp] theorem State.setTracking_choices (x : Tracking) : (s.setTracking x).choices = s.choices := rfl
@[simp] theorem State.setTracking_pending (x : Tracking) : (s.setTracking x).pending = s.pending := rfl

/-! ## setQueue -/

@[simp] theorem State.setQueue_intake (q : List TrackEntry) : (s.setQueue q).intake = s.intake := rfl
@[simp] theorem State.setQueue_grading (q : List TrackEntry) : (s.setQueue q).grading = s.grading := rfl
@[simp] theorem State.setQueue_tables (q : List TrackEntry) : (s.setQueue q).tables = s.tables := rfl
@[simp] theorem State.setQueue_caches (q : List TrackEntry) : (s.setQueue q).caches = s.caches := rfl
@[simp] theorem State.setQueue_routing (q : List TrackEntry) : (s.setQueue q).routing = s.routing := rfl
@[simp] theorem State.setQueue_sk (q : List TrackEntry) : (s.setQueue q).sk = s.sk := rfl
@[simp] theorem State.setQueue_lines (q : List TrackEntry) : (s.setQueue q).lines = s.lines := rfl
@[simp] theorem State.setQueue_ports (q : List TrackEntry) : (s.setQueue q).ports = s.ports := rfl
@[simp] theorem State.setQueue_pins (q : List TrackEntry) : (s.setQueue q).pins = s.pins := rfl
@[simp] theorem State.setQueue_choices (q : List TrackEntry) : (s.setQueue q).choices = s.choices := rfl
@[simp] theorem State.setQueue_pending (q : List TrackEntry) : (s.setQueue q).pending = s.pending := rfl

/-! ## setRouting -/

@[simp] theorem State.setRouting_intake (x : Routing) : (s.setRouting x).intake = s.intake := rfl
@[simp] theorem State.setRouting_grading (x : Routing) : (s.setRouting x).grading = s.grading := rfl
@[simp] theorem State.setRouting_tables (x : Routing) : (s.setRouting x).tables = s.tables := rfl
@[simp] theorem State.setRouting_caches (x : Routing) : (s.setRouting x).caches = s.caches := rfl
@[simp] theorem State.setRouting_tracking (x : Routing) : (s.setRouting x).tracking = s.tracking := rfl
@[simp] theorem State.setRouting_sk (x : Routing) : (s.setRouting x).sk = s.sk := rfl
@[simp] theorem State.setRouting_lines (x : Routing) : (s.setRouting x).lines = s.lines := rfl
@[simp] theorem State.setRouting_ports (x : Routing) : (s.setRouting x).ports = s.ports := rfl
@[simp] theorem State.setRouting_pins (x : Routing) : (s.setRouting x).pins = s.pins := rfl
@[simp] theorem State.setRouting_choices (x : Routing) : (s.setRouting x).choices = s.choices := rfl
@[simp] theorem State.setRouting_pending (x : Routing) : (s.setRouting x).pending = s.pending := rfl

/-! ## setStack -/

@[simp] theorem State.setStack_intake (k : StackId) (x : Stack) : (s.setStack k x).intake = s.intake := rfl
@[simp] theorem State.setStack_grading (k : StackId) (x : Stack) : (s.setStack k x).grading = s.grading := rfl
@[simp] theorem State.setStack_tables (k : StackId) (x : Stack) : (s.setStack k x).tables = s.tables := rfl
@[simp] theorem State.setStack_caches (k : StackId) (x : Stack) : (s.setStack k x).caches = s.caches := rfl
@[simp] theorem State.setStack_tracking (k : StackId) (x : Stack) : (s.setStack k x).tracking = s.tracking := rfl
@[simp] theorem State.setStack_routing (k : StackId) (x : Stack) : (s.setStack k x).routing = s.routing := rfl
@[simp] theorem State.setStack_lines (k : StackId) (x : Stack) : (s.setStack k x).lines = s.lines := rfl
@[simp] theorem State.setStack_ports (k : StackId) (x : Stack) : (s.setStack k x).ports = s.ports := rfl
@[simp] theorem State.setStack_pins (k : StackId) (x : Stack) : (s.setStack k x).pins = s.pins := rfl
@[simp] theorem State.setStack_choices (k : StackId) (x : Stack) : (s.setStack k x).choices = s.choices := rfl
@[simp] theorem State.setStack_pending (k : StackId) (x : Stack) : (s.setStack k x).pending = s.pending := rfl

/-! ## setSk -/

@[simp] theorem State.setSk_intake (x : Stacks) : (s.setSk x).intake = s.intake := rfl
@[simp] theorem State.setSk_grading (x : Stacks) : (s.setSk x).grading = s.grading := rfl
@[simp] theorem State.setSk_tables (x : Stacks) : (s.setSk x).tables = s.tables := rfl
@[simp] theorem State.setSk_caches (x : Stacks) : (s.setSk x).caches = s.caches := rfl
@[simp] theorem State.setSk_tracking (x : Stacks) : (s.setSk x).tracking = s.tracking := rfl
@[simp] theorem State.setSk_routing (x : Stacks) : (s.setSk x).routing = s.routing := rfl
@[simp] theorem State.setSk_lines (x : Stacks) : (s.setSk x).lines = s.lines := rfl
@[simp] theorem State.setSk_ports (x : Stacks) : (s.setSk x).ports = s.ports := rfl
@[simp] theorem State.setSk_pins (x : Stacks) : (s.setSk x).pins = s.pins := rfl
@[simp] theorem State.setSk_choices (x : Stacks) : (s.setSk x).choices = s.choices := rfl
@[simp] theorem State.setSk_pending (x : Stacks) : (s.setSk x).pending = s.pending := rfl

/-! ## setLine -/

@[simp] theorem State.setLine_intake (l : Line) (x : LineState) : (s.setLine l x).intake = s.intake := rfl
@[simp] theorem State.setLine_grading (l : Line) (x : LineState) : (s.setLine l x).grading = s.grading := rfl
@[simp] theorem State.setLine_tables (l : Line) (x : LineState) : (s.setLine l x).tables = s.tables := rfl
@[simp] theorem State.setLine_caches (l : Line) (x : LineState) : (s.setLine l x).caches = s.caches := rfl
@[simp] theorem State.setLine_tracking (l : Line) (x : LineState) : (s.setLine l x).tracking = s.tracking := rfl
@[simp] theorem State.setLine_routing (l : Line) (x : LineState) : (s.setLine l x).routing = s.routing := rfl
@[simp] theorem State.setLine_sk (l : Line) (x : LineState) : (s.setLine l x).sk = s.sk := rfl
@[simp] theorem State.setLine_ports (l : Line) (x : LineState) : (s.setLine l x).ports = s.ports := rfl
@[simp] theorem State.setLine_pins (l : Line) (x : LineState) : (s.setLine l x).pins = s.pins := rfl
@[simp] theorem State.setLine_choices (l : Line) (x : LineState) : (s.setLine l x).choices = s.choices := rfl
@[simp] theorem State.setLine_pending (l : Line) (x : LineState) : (s.setLine l x).pending = s.pending := rfl

/-! ## setLines -/

@[simp] theorem State.setLines_intake (x : Lines) : (s.setLines x).intake = s.intake := rfl
@[simp] theorem State.setLines_grading (x : Lines) : (s.setLines x).grading = s.grading := rfl
@[simp] theorem State.setLines_tables (x : Lines) : (s.setLines x).tables = s.tables := rfl
@[simp] theorem State.setLines_caches (x : Lines) : (s.setLines x).caches = s.caches := rfl
@[simp] theorem State.setLines_tracking (x : Lines) : (s.setLines x).tracking = s.tracking := rfl
@[simp] theorem State.setLines_routing (x : Lines) : (s.setLines x).routing = s.routing := rfl
@[simp] theorem State.setLines_sk (x : Lines) : (s.setLines x).sk = s.sk := rfl
@[simp] theorem State.setLines_ports (x : Lines) : (s.setLines x).ports = s.ports := rfl
@[simp] theorem State.setLines_pins (x : Lines) : (s.setLines x).pins = s.pins := rfl
@[simp] theorem State.setLines_choices (x : Lines) : (s.setLines x).choices = s.choices := rfl
@[simp] theorem State.setLines_pending (x : Lines) : (s.setLines x).pending = s.pending := rfl

/-! ## setPort -/

@[simp] theorem State.setPort_intake (p : Port) (x : PortState) : (s.setPort p x).intake = s.intake := rfl
@[simp] theorem State.setPort_grading (p : Port) (x : PortState) : (s.setPort p x).grading = s.grading := rfl
@[simp] theorem State.setPort_tables (p : Port) (x : PortState) : (s.setPort p x).tables = s.tables := rfl
@[simp] theorem State.setPort_caches (p : Port) (x : PortState) : (s.setPort p x).caches = s.caches := rfl
@[simp] theorem State.setPort_tracking (p : Port) (x : PortState) : (s.setPort p x).tracking = s.tracking := rfl
@[simp] theorem State.setPort_routing (p : Port) (x : PortState) : (s.setPort p x).routing = s.routing := rfl
@[simp] theorem State.setPort_sk (p : Port) (x : PortState) : (s.setPort p x).sk = s.sk := rfl
@[simp] theorem State.setPort_lines (p : Port) (x : PortState) : (s.setPort p x).lines = s.lines := rfl
@[simp] theorem State.setPort_pins (p : Port) (x : PortState) : (s.setPort p x).pins = s.pins := rfl
@[simp] theorem State.setPort_choices (p : Port) (x : PortState) : (s.setPort p x).choices = s.choices := rfl
@[simp] theorem State.setPort_pending (p : Port) (x : PortState) : (s.setPort p x).pending = s.pending := rfl

/-! ## setPins -/

@[simp] theorem State.setPins_intake (x : Pins) : (s.setPins x).intake = s.intake := rfl
@[simp] theorem State.setPins_grading (x : Pins) : (s.setPins x).grading = s.grading := rfl
@[simp] theorem State.setPins_tables (x : Pins) : (s.setPins x).tables = s.tables := rfl
@[simp] theorem State.setPins_caches (x : Pins) : (s.setPins x).caches = s.caches := rfl
@[simp] theorem State.setPins_tracking (x : Pins) : (s.setPins x).tracking = s.tracking := rfl
@[simp] theorem State.setPins_routing (x : Pins) : (s.setPins x).routing = s.routing := rfl
@[simp] theorem State.setPins_sk (x : Pins) : (s.setPins x).sk = s.sk := rfl
@[simp] theorem State.setPins_lines (x : Pins) : (s.setPins x).lines = s.lines := rfl
@[simp] theorem State.setPins_ports (x : Pins) : (s.setPins x).ports = s.ports := rfl
@[simp] theorem State.setPins_choices (x : Pins) : (s.setPins x).choices = s.choices := rfl
@[simp] theorem State.setPins_pending (x : Pins) : (s.setPins x).pending = s.pending := rfl

/-! ## raise -/

@[simp] theorem State.raise_intake (n : Notice) : (s.raise n).intake = s.intake := rfl
@[simp] theorem State.raise_grading (n : Notice) : (s.raise n).grading = s.grading := rfl
@[simp] theorem State.raise_tables (n : Notice) : (s.raise n).tables = s.tables := rfl
@[simp] theorem State.raise_caches (n : Notice) : (s.raise n).caches = s.caches := rfl
@[simp] theorem State.raise_tracking (n : Notice) : (s.raise n).tracking = s.tracking := rfl
@[simp] theorem State.raise_routing (n : Notice) : (s.raise n).routing = s.routing := rfl
@[simp] theorem State.raise_sk (n : Notice) : (s.raise n).sk = s.sk := rfl
@[simp] theorem State.raise_lines (n : Notice) : (s.raise n).lines = s.lines := rfl
@[simp] theorem State.raise_pins (n : Notice) : (s.raise n).pins = s.pins := rfl
@[simp] theorem State.raise_choices (n : Notice) : (s.raise n).choices = s.choices := rfl
@[simp] theorem State.raise_pending (n : Notice) : (s.raise n).pending = s.pending := rfl

/-! ## answer -/

@[simp] theorem State.answer_intake (p : Port) (code tag : Byte) (st : Status) (body : List Byte) :
    (s.answer p code tag st body).intake = s.intake := rfl
@[simp] theorem State.answer_grading (p : Port) (code tag : Byte) (st : Status) (body : List Byte) :
    (s.answer p code tag st body).grading = s.grading := rfl
@[simp] theorem State.answer_tables (p : Port) (code tag : Byte) (st : Status) (body : List Byte) :
    (s.answer p code tag st body).tables = s.tables := rfl
@[simp] theorem State.answer_caches (p : Port) (code tag : Byte) (st : Status) (body : List Byte) :
    (s.answer p code tag st body).caches = s.caches := rfl
@[simp] theorem State.answer_tracking (p : Port) (code tag : Byte) (st : Status) (body : List Byte) :
    (s.answer p code tag st body).tracking = s.tracking := rfl
@[simp] theorem State.answer_routing (p : Port) (code tag : Byte) (st : Status) (body : List Byte) :
    (s.answer p code tag st body).routing = s.routing := rfl
@[simp] theorem State.answer_sk (p : Port) (code tag : Byte) (st : Status) (body : List Byte) :
    (s.answer p code tag st body).sk = s.sk := rfl
@[simp] theorem State.answer_lines (p : Port) (code tag : Byte) (st : Status) (body : List Byte) :
    (s.answer p code tag st body).lines = s.lines := rfl
@[simp] theorem State.answer_pins (p : Port) (code tag : Byte) (st : Status) (body : List Byte) :
    (s.answer p code tag st body).pins = s.pins := rfl
@[simp] theorem State.answer_choices (p : Port) (code tag : Byte) (st : Status) (body : List Byte) :
    (s.answer p code tag st body).choices = s.choices := rfl
@[simp] theorem State.answer_pending (p : Port) (code tag : Byte) (st : Status) (body : List Byte) :
    (s.answer p code tag st body).pending = s.pending := rfl

/-! ## hunt -/

@[simp] theorem State.hunt_intake (p : Port) : (s.hunt p).intake = s.intake := rfl
@[simp] theorem State.hunt_grading (p : Port) : (s.hunt p).grading = s.grading := rfl
@[simp] theorem State.hunt_tables (p : Port) : (s.hunt p).tables = s.tables := rfl
@[simp] theorem State.hunt_caches (p : Port) : (s.hunt p).caches = s.caches := rfl
@[simp] theorem State.hunt_tracking (p : Port) : (s.hunt p).tracking = s.tracking := rfl
@[simp] theorem State.hunt_routing (p : Port) : (s.hunt p).routing = s.routing := rfl
@[simp] theorem State.hunt_sk (p : Port) : (s.hunt p).sk = s.sk := rfl
@[simp] theorem State.hunt_lines (p : Port) : (s.hunt p).lines = s.lines := rfl
@[simp] theorem State.hunt_pins (p : Port) : (s.hunt p).pins = s.pins := rfl
@[simp] theorem State.hunt_choices (p : Port) : (s.hunt p).choices = s.choices := rfl
@[simp] theorem State.hunt_pending (p : Port) : (s.hunt p).pending = s.pending := rfl

/-! ## receive -/

@[simp] theorem State.receive_intake (p : Port) (r : Receiver) : (s.receive p r).intake = s.intake := rfl
@[simp] theorem State.receive_grading (p : Port) (r : Receiver) : (s.receive p r).grading = s.grading := rfl
@[simp] theorem State.receive_tables (p : Port) (r : Receiver) : (s.receive p r).tables = s.tables := rfl
@[simp] theorem State.receive_caches (p : Port) (r : Receiver) : (s.receive p r).caches = s.caches := rfl
@[simp] theorem State.receive_tracking (p : Port) (r : Receiver) : (s.receive p r).tracking = s.tracking := rfl
@[simp] theorem State.receive_routing (p : Port) (r : Receiver) : (s.receive p r).routing = s.routing := rfl
@[simp] theorem State.receive_sk (p : Port) (r : Receiver) : (s.receive p r).sk = s.sk := rfl
@[simp] theorem State.receive_lines (p : Port) (r : Receiver) : (s.receive p r).lines = s.lines := rfl
@[simp] theorem State.receive_pins (p : Port) (r : Receiver) : (s.receive p r).pins = s.pins := rfl
@[simp] theorem State.receive_choices (p : Port) (r : Receiver) : (s.receive p r).choices = s.choices := rfl
@[simp] theorem State.receive_pending (p : Port) (r : Receiver) : (s.receive p r).pending = s.pending := rfl

/-! ## granted -/

@[simp] theorem State.granted_intake (r : Requester) : (s.granted r).intake = s.intake := rfl
@[simp] theorem State.granted_grading (r : Requester) : (s.granted r).grading = s.grading := rfl
@[simp] theorem State.granted_caches (r : Requester) : (s.granted r).caches = s.caches := rfl
@[simp] theorem State.granted_tracking (r : Requester) : (s.granted r).tracking = s.tracking := rfl
@[simp] theorem State.granted_routing (r : Requester) : (s.granted r).routing = s.routing := rfl
@[simp] theorem State.granted_sk (r : Requester) : (s.granted r).sk = s.sk := rfl
@[simp] theorem State.granted_lines (r : Requester) : (s.granted r).lines = s.lines := rfl
@[simp] theorem State.granted_ports (r : Requester) : (s.granted r).ports = s.ports := rfl
@[simp] theorem State.granted_pins (r : Requester) : (s.granted r).pins = s.pins := rfl
@[simp] theorem State.granted_choices (r : Requester) : (s.granted r).choices = s.choices := rfl
@[simp] theorem State.granted_pending (r : Requester) : (s.granted r).pending = s.pending := rfl

/-! ## writeCell -/

@[simp] theorem State.writeCell_intake (n : Nat) (x : Cell16) : (s.writeCell n x).intake = s.intake := rfl
@[simp] theorem State.writeCell_grading (n : Nat) (x : Cell16) : (s.writeCell n x).grading = s.grading := rfl
@[simp] theorem State.writeCell_caches (n : Nat) (x : Cell16) : (s.writeCell n x).caches = s.caches := rfl
@[simp] theorem State.writeCell_tracking (n : Nat) (x : Cell16) : (s.writeCell n x).tracking = s.tracking := rfl
@[simp] theorem State.writeCell_routing (n : Nat) (x : Cell16) : (s.writeCell n x).routing = s.routing := rfl
@[simp] theorem State.writeCell_sk (n : Nat) (x : Cell16) : (s.writeCell n x).sk = s.sk := rfl
@[simp] theorem State.writeCell_lines (n : Nat) (x : Cell16) : (s.writeCell n x).lines = s.lines := rfl
@[simp] theorem State.writeCell_ports (n : Nat) (x : Cell16) : (s.writeCell n x).ports = s.ports := rfl
@[simp] theorem State.writeCell_pins (n : Nat) (x : Cell16) : (s.writeCell n x).pins = s.pins := rfl
@[simp] theorem State.writeCell_choices (n : Nat) (x : Cell16) : (s.writeCell n x).choices = s.choices := rfl
@[simp] theorem State.writeCell_pending (n : Nat) (x : Cell16) : (s.writeCell n x).pending = s.pending := rfl

/-! ## setRoot -/

@[simp] theorem State.setRoot_intake (k : Slot) (d : Option Descriptor) : (s.setRoot k d).intake = s.intake := rfl
@[simp] theorem State.setRoot_grading (k : Slot) (d : Option Descriptor) : (s.setRoot k d).grading = s.grading := rfl
@[simp] theorem State.setRoot_caches (k : Slot) (d : Option Descriptor) : (s.setRoot k d).caches = s.caches := rfl
@[simp] theorem State.setRoot_tracking (k : Slot) (d : Option Descriptor) : (s.setRoot k d).tracking = s.tracking := rfl
@[simp] theorem State.setRoot_routing (k : Slot) (d : Option Descriptor) : (s.setRoot k d).routing = s.routing := rfl
@[simp] theorem State.setRoot_sk (k : Slot) (d : Option Descriptor) : (s.setRoot k d).sk = s.sk := rfl
@[simp] theorem State.setRoot_lines (k : Slot) (d : Option Descriptor) : (s.setRoot k d).lines = s.lines := rfl
@[simp] theorem State.setRoot_ports (k : Slot) (d : Option Descriptor) : (s.setRoot k d).ports = s.ports := rfl
@[simp] theorem State.setRoot_pins (k : Slot) (d : Option Descriptor) : (s.setRoot k d).pins = s.pins := rfl
@[simp] theorem State.setRoot_choices (k : Slot) (d : Option Descriptor) : (s.setRoot k d).choices = s.choices := rfl
@[simp] theorem State.setRoot_pending (k : Slot) (d : Option Descriptor) : (s.setRoot k d).pending = s.pending := rfl

/-! ## setGeometry -/

@[simp] theorem State.setGeometry_intake (g : Geometry) : (s.setGeometry g).intake = s.intake := rfl
@[simp] theorem State.setGeometry_grading (g : Geometry) : (s.setGeometry g).grading = s.grading := rfl
@[simp] theorem State.setGeometry_tables (g : Geometry) : (s.setGeometry g).tables = s.tables := rfl
@[simp] theorem State.setGeometry_caches (g : Geometry) : (s.setGeometry g).caches = s.caches := rfl
@[simp] theorem State.setGeometry_routing (g : Geometry) : (s.setGeometry g).routing = s.routing := rfl
@[simp] theorem State.setGeometry_sk (g : Geometry) : (s.setGeometry g).sk = s.sk := rfl
@[simp] theorem State.setGeometry_lines (g : Geometry) : (s.setGeometry g).lines = s.lines := rfl
@[simp] theorem State.setGeometry_ports (g : Geometry) : (s.setGeometry g).ports = s.ports := rfl
@[simp] theorem State.setGeometry_pins (g : Geometry) : (s.setGeometry g).pins = s.pins := rfl
@[simp] theorem State.setGeometry_choices (g : Geometry) : (s.setGeometry g).choices = s.choices := rfl
@[simp] theorem State.setGeometry_pending (g : Geometry) : (s.setGeometry g).pending = s.pending := rfl

/-! ## countSheet -/

@[simp] theorem State.countSheet_grading : (s.countSheet).grading = s.grading := rfl
@[simp] theorem State.countSheet_tables : (s.countSheet).tables = s.tables := rfl
@[simp] theorem State.countSheet_caches : (s.countSheet).caches = s.caches := rfl
@[simp] theorem State.countSheet_tracking : (s.countSheet).tracking = s.tracking := rfl
@[simp] theorem State.countSheet_routing : (s.countSheet).routing = s.routing := rfl
@[simp] theorem State.countSheet_sk : (s.countSheet).sk = s.sk := rfl
@[simp] theorem State.countSheet_lines : (s.countSheet).lines = s.lines := rfl
@[simp] theorem State.countSheet_ports : (s.countSheet).ports = s.ports := rfl
@[simp] theorem State.countSheet_pins : (s.countSheet).pins = s.pins := rfl
@[simp] theorem State.countSheet_choices : (s.countSheet).choices = s.choices := rfl
@[simp] theorem State.countSheet_pending : (s.countSheet).pending = s.pending := rfl

/-! ## countRunOut -/

@[simp] theorem State.countRunOut_intake : (s.countRunOut).intake = s.intake := rfl
@[simp] theorem State.countRunOut_grading : (s.countRunOut).grading = s.grading := rfl
@[simp] theorem State.countRunOut_tables : (s.countRunOut).tables = s.tables := rfl
@[simp] theorem State.countRunOut_caches : (s.countRunOut).caches = s.caches := rfl
@[simp] theorem State.countRunOut_tracking : (s.countRunOut).tracking = s.tracking := rfl
@[simp] theorem State.countRunOut_sk : (s.countRunOut).sk = s.sk := rfl
@[simp] theorem State.countRunOut_lines : (s.countRunOut).lines = s.lines := rfl
@[simp] theorem State.countRunOut_ports : (s.countRunOut).ports = s.ports := rfl
@[simp] theorem State.countRunOut_pins : (s.countRunOut).pins = s.pins := rfl
@[simp] theorem State.countRunOut_choices : (s.countRunOut).choices = s.choices := rfl
@[simp] theorem State.countRunOut_pending : (s.countRunOut).pending = s.pending := rfl

/-! ## onCaches -/

@[simp] theorem State.onCaches_intake (scope : Scope) (f : RuleCache → RuleCache) :
    (s.onCaches scope f).intake = s.intake := rfl
@[simp] theorem State.onCaches_grading (scope : Scope) (f : RuleCache → RuleCache) :
    (s.onCaches scope f).grading = s.grading := rfl
@[simp] theorem State.onCaches_tables (scope : Scope) (f : RuleCache → RuleCache) :
    (s.onCaches scope f).tables = s.tables := rfl
@[simp] theorem State.onCaches_tracking (scope : Scope) (f : RuleCache → RuleCache) :
    (s.onCaches scope f).tracking = s.tracking := rfl
@[simp] theorem State.onCaches_routing (scope : Scope) (f : RuleCache → RuleCache) :
    (s.onCaches scope f).routing = s.routing := rfl
@[simp] theorem State.onCaches_sk (scope : Scope) (f : RuleCache → RuleCache) : (s.onCaches scope f).sk = s.sk := rfl
@[simp] theorem State.onCaches_lines (scope : Scope) (f : RuleCache → RuleCache) :
    (s.onCaches scope f).lines = s.lines := rfl
@[simp] theorem State.onCaches_ports (scope : Scope) (f : RuleCache → RuleCache) :
    (s.onCaches scope f).ports = s.ports := rfl
@[simp] theorem State.onCaches_pins (scope : Scope) (f : RuleCache → RuleCache) :
    (s.onCaches scope f).pins = s.pins := rfl
@[simp] theorem State.onCaches_choices (scope : Scope) (f : RuleCache → RuleCache) :
    (s.onCaches scope f).choices = s.choices := rfl
@[simp] theorem State.onCaches_pending (scope : Scope) (f : RuleCache → RuleCache) :
    (s.onCaches scope f).pending = s.pending := rfl

/-! ## withPending -/

@[simp] theorem State.withPending_intake (cs : List Instr) : (s.withPending cs).intake = s.intake := rfl
@[simp] theorem State.withPending_grading (cs : List Instr) : (s.withPending cs).grading = s.grading := rfl
@[simp] theorem State.withPending_tables (cs : List Instr) : (s.withPending cs).tables = s.tables := rfl
@[simp] theorem State.withPending_caches (cs : List Instr) : (s.withPending cs).caches = s.caches := rfl
@[simp] theorem State.withPending_tracking (cs : List Instr) : (s.withPending cs).tracking = s.tracking := rfl
@[simp] theorem State.withPending_routing (cs : List Instr) : (s.withPending cs).routing = s.routing := rfl
@[simp] theorem State.withPending_sk (cs : List Instr) : (s.withPending cs).sk = s.sk := rfl
@[simp] theorem State.withPending_lines (cs : List Instr) : (s.withPending cs).lines = s.lines := rfl
@[simp] theorem State.withPending_ports (cs : List Instr) : (s.withPending cs).ports = s.ports := rfl
@[simp] theorem State.withPending_pins (cs : List Instr) : (s.withPending cs).pins = s.pins := rfl
@[simp] theorem State.withPending_choices (cs : List Instr) : (s.withPending cs).choices = s.choices := rfl

/-! ## The field an update writes -/

@[simp] theorem State.setIntake_intake (x : Intake) : (s.setIntake x).intake = x := rfl
@[simp] theorem State.setTables_tables (x : Tables) : (s.setTables x).tables = x := rfl
@[simp] theorem State.setTracking_tracking (x : Tracking) : (s.setTracking x).tracking = x := rfl
@[simp] theorem State.setRouting_routing (x : Routing) : (s.setRouting x).routing = x := rfl
@[simp] theorem State.setSk_sk (x : Stacks) : (s.setSk x).sk = x := rfl
@[simp] theorem State.setLines_lines (x : Lines) : (s.setLines x).lines = x := rfl
@[simp] theorem State.setPins_pins (x : Pins) : (s.setPins x).pins = x := rfl
@[simp] theorem State.withPending_pending (cs : List Instr) : (s.withPending cs).pending = cs := rfl

@[simp] theorem State.setQueue_queue (q : List TrackEntry) : (s.setQueue q).tracking.queue = q := rfl
@[simp] theorem State.setQueue_state (q : List TrackEntry) : (s.setQueue q).tracking.state = s.tracking.state := rfl
@[simp] theorem State.setQueue_geometry (q : List TrackEntry) :
    (s.setQueue q).tracking.geometry = s.tracking.geometry := rfl
@[simp] theorem State.setStack_landingLimit (k : StackId) (x : Stack) :
    (s.setStack k x).sk.landingLimit = s.sk.landingLimit := rfl
@[simp] theorem State.setStack_priority (k : StackId) (x : Stack) : (s.setStack k x).sk.priority = s.sk.priority := rfl
@[simp] theorem State.setStack_gatePulses (k : StackId) (x : Stack) :
    (s.setStack k x).sk.gatePulses = s.sk.gatePulses := rfl
@[simp] theorem State.setLine_pickLimit (l : Line) (x : LineState) :
    (s.setLine l x).lines.pickLimit = s.lines.pickLimit :=
  rfl
@[simp] theorem State.setLine_starveLimit (l : Line) (x : LineState) :
    (s.setLine l x).lines.starveLimit = s.lines.starveLimit := rfl
@[simp] theorem State.setLane_ageLimit (l : Lane) (x : IntakeLane) :
    (s.setLane l x).intake.ageLimit = s.intake.ageLimit :=
  rfl
@[simp] theorem State.setLane_counter (l : Lane) (x : IntakeLane) : (s.setLane l x).intake.counter = s.intake.counter :=
  rfl
@[simp] theorem State.setLane_round (l : Lane) (x : IntakeLane) : (s.setLane l x).intake.round = s.intake.round := rfl
@[simp] theorem State.setLane_current (l : Lane) (x : IntakeLane) : (s.setLane l x).intake.current = s.intake.current :=
  rfl
@[simp] theorem State.granted_mem (r : Requester) : (s.granted r).tables.mem = s.tables.mem := rfl
@[simp] theorem State.granted_roots (r : Requester) : (s.granted r).tables.roots = s.tables.roots := rfl
@[simp] theorem State.granted_portPath (r : Requester) : (s.granted r).tables.portPath = s.tables.portPath := rfl
@[simp] theorem State.granted_lastGrant (r : Requester) : (s.granted r).tables.lastGrant = r := rfl

/-! ## Pairs and triples -/

@[simp] theorem PerLane.get_set_same {α : Type} (p : PerLane α) (l : Lane) (x : α) : (p.set l x).get l = x := by
  cases l <;> rfl
theorem PerLane.get_set_other {α : Type} (p : PerLane α) {l m : Lane} (x : α) (h : m ≠ l) :
    (p.set l x).get m = p.get m := by
  cases l <;> cases m <;> first | rfl | exact absurd rfl h
@[simp] theorem PerLine.get_set_same {α : Type} (p : PerLine α) (l : Line) (x : α) : (p.set l x).get l = x := by
  cases l <;> rfl
theorem PerLine.get_set_other {α : Type} (p : PerLine α) {l m : Line} (x : α) (h : m ≠ l) :
    (p.set l x).get m = p.get m := by
  cases l <;> cases m <;> first | rfl | exact absurd rfl h
@[simp] theorem PerPort.get_set_same {α : Type} (p : PerPort α) (q : Port) (x : α) : (p.set q x).get q = x := by
  cases q <;> rfl
theorem PerPort.get_set_other {α : Type} (p : PerPort α) {q r : Port} (x : α) (h : r ≠ q) :
    (p.set q x).get r = p.get r := by
  cases q <;> cases r <;> first | rfl | exact absurd rfl h

/-! ## Accessors after an update -/

@[simp] theorem State.lane_setLane_same (l : Lane) (x : IntakeLane) : (s.setLane l x).lane l = x := by cases l <;> rfl
theorem State.lane_setLane_other {l m : Lane} (x : IntakeLane) (h : m ≠ l) : (s.setLane l x).lane m = s.lane m :=
  PerLane.get_set_other _ _ h
@[simp] theorem State.job_setJob_same (u : Lane) (x : Option GradingJob) :
    (s.setJob u x).job u = x := by cases u <;> rfl
theorem State.job_setJob_other {u v : Lane} (x : Option GradingJob) (h : v ≠ u) : (s.setJob u x).job v = s.job v :=
  PerLane.get_set_other _ _ h
@[simp] theorem State.cache_setCache_same (u : Lane) (x : RuleCache) :
    (s.setCache u x).cache u = x := by cases u <;> rfl
theorem State.cache_setCache_other {u v : Lane} (x : RuleCache) (h : v ≠ u) : (s.setCache u x).cache v = s.cache v :=
  PerLane.get_set_other _ _ h
@[simp] theorem State.line_setLine_same (l : Line) (x : LineState) : (s.setLine l x).line l = x := by cases l <;> rfl
theorem State.line_setLine_other {l m : Line} (x : LineState) (h : m ≠ l) : (s.setLine l x).line m = s.line m :=
  PerLine.get_set_other _ _ h
@[simp] theorem State.port_setPort_same (p : Port) (x : PortState) : (s.setPort p x).port p = x := by cases p <;> rfl
theorem State.port_setPort_other {p q : Port} (x : PortState) (h : q ≠ p) : (s.setPort p x).port q = s.port q :=
  PerPort.get_set_other _ _ h
@[simp] theorem State.stack_setStack_same (k : StackId) (x : Stack) : (s.setStack k x).stack k = x := by
  simp [State.stack, State.setStack]
theorem State.stack_setStack_other {k j : StackId} (x : Stack) (h : j ≠ k) :
    (s.setStack k x).stack j = s.stack j := by
  have : k.val ≠ j.val := fun e => h (Fin.ext e.symm)
  simp [State.stack, State.setStack, this]

@[simp] theorem State.job_setLane (l : Lane) (x : IntakeLane) (v : Lane) : (s.setLane l x).job v = s.job v := rfl
@[simp] theorem State.cache_setLane (l : Lane) (x : IntakeLane) (v : Lane) : (s.setLane l x).cache v = s.cache v := rfl
@[simp] theorem State.stack_setLane (l : Lane) (x : IntakeLane) (j : StackId) :
    (s.setLane l x).stack j = s.stack j := rfl
@[simp] theorem State.line_setLane (l : Lane) (x : IntakeLane) (m : Line) : (s.setLane l x).line m = s.line m := rfl
@[simp] theorem State.port_setLane (l : Lane) (x : IntakeLane) (pt : Port) : (s.setLane l x).port pt = s.port pt := rfl
@[simp] theorem State.estop_setLane (l : Lane) (x : IntakeLane) : (s.setLane l x).estop = s.estop := rfl

@[simp] theorem State.job_setIntake (x : Intake) (v : Lane) : (s.setIntake x).job v = s.job v := rfl
@[simp] theorem State.cache_setIntake (x : Intake) (v : Lane) : (s.setIntake x).cache v = s.cache v := rfl
@[simp] theorem State.stack_setIntake (x : Intake) (j : StackId) : (s.setIntake x).stack j = s.stack j := rfl
@[simp] theorem State.line_setIntake (x : Intake) (m : Line) : (s.setIntake x).line m = s.line m := rfl
@[simp] theorem State.port_setIntake (x : Intake) (pt : Port) : (s.setIntake x).port pt = s.port pt := rfl
@[simp] theorem State.estop_setIntake (x : Intake) : (s.setIntake x).estop = s.estop := rfl

@[simp] theorem State.lane_setJob (u : Lane) (x : Option GradingJob) (m : Lane) :
    (s.setJob u x).lane m = s.lane m := rfl
@[simp] theorem State.cache_setJob (u : Lane) (x : Option GradingJob) (v : Lane) :
    (s.setJob u x).cache v = s.cache v := rfl
@[simp] theorem State.stack_setJob (u : Lane) (x : Option GradingJob) (j : StackId) :
    (s.setJob u x).stack j = s.stack j := rfl
@[simp] theorem State.line_setJob (u : Lane) (x : Option GradingJob) (m : Line) :
    (s.setJob u x).line m = s.line m := rfl
@[simp] theorem State.port_setJob (u : Lane) (x : Option GradingJob) (pt : Port) : (s.setJob u x).port pt = s.port pt := rfl
@[simp] theorem State.estop_setJob (u : Lane) (x : Option GradingJob) : (s.setJob u x).estop = s.estop := rfl

@[simp] theorem State.lane_setTables (x : Tables) (m : Lane) : (s.setTables x).lane m = s.lane m := rfl
@[simp] theorem State.job_setTables (x : Tables) (v : Lane) : (s.setTables x).job v = s.job v := rfl
@[simp] theorem State.cache_setTables (x : Tables) (v : Lane) : (s.setTables x).cache v = s.cache v := rfl
@[simp] theorem State.stack_setTables (x : Tables) (j : StackId) : (s.setTables x).stack j = s.stack j := rfl
@[simp] theorem State.line_setTables (x : Tables) (m : Line) : (s.setTables x).line m = s.line m := rfl
@[simp] theorem State.port_setTables (x : Tables) (pt : Port) : (s.setTables x).port pt = s.port pt := rfl
@[simp] theorem State.estop_setTables (x : Tables) : (s.setTables x).estop = s.estop := rfl

@[simp] theorem State.lane_setCache (u : Lane) (x : RuleCache) (m : Lane) : (s.setCache u x).lane m = s.lane m := rfl
@[simp] theorem State.job_setCache (u : Lane) (x : RuleCache) (v : Lane) : (s.setCache u x).job v = s.job v := rfl
@[simp] theorem State.stack_setCache (u : Lane) (x : RuleCache) (j : StackId) :
    (s.setCache u x).stack j = s.stack j := rfl
@[simp] theorem State.line_setCache (u : Lane) (x : RuleCache) (m : Line) : (s.setCache u x).line m = s.line m := rfl
@[simp] theorem State.port_setCache (u : Lane) (x : RuleCache) (pt : Port) : (s.setCache u x).port pt = s.port pt := rfl
@[simp] theorem State.estop_setCache (u : Lane) (x : RuleCache) : (s.setCache u x).estop = s.estop := rfl

@[simp] theorem State.lane_setTracking (x : Tracking) (m : Lane) : (s.setTracking x).lane m = s.lane m := rfl
@[simp] theorem State.job_setTracking (x : Tracking) (v : Lane) : (s.setTracking x).job v = s.job v := rfl
@[simp] theorem State.cache_setTracking (x : Tracking) (v : Lane) : (s.setTracking x).cache v = s.cache v := rfl
@[simp] theorem State.stack_setTracking (x : Tracking) (j : StackId) : (s.setTracking x).stack j = s.stack j := rfl
@[simp] theorem State.line_setTracking (x : Tracking) (m : Line) : (s.setTracking x).line m = s.line m := rfl
@[simp] theorem State.port_setTracking (x : Tracking) (pt : Port) : (s.setTracking x).port pt = s.port pt := rfl
@[simp] theorem State.estop_setTracking (x : Tracking) : (s.setTracking x).estop = s.estop := rfl

@[simp] theorem State.lane_setQueue (q : List TrackEntry) (m : Lane) : (s.setQueue q).lane m = s.lane m := rfl
@[simp] theorem State.job_setQueue (q : List TrackEntry) (v : Lane) : (s.setQueue q).job v = s.job v := rfl
@[simp] theorem State.cache_setQueue (q : List TrackEntry) (v : Lane) : (s.setQueue q).cache v = s.cache v := rfl
@[simp] theorem State.stack_setQueue (q : List TrackEntry) (j : StackId) : (s.setQueue q).stack j = s.stack j := rfl
@[simp] theorem State.line_setQueue (q : List TrackEntry) (m : Line) : (s.setQueue q).line m = s.line m := rfl
@[simp] theorem State.port_setQueue (q : List TrackEntry) (pt : Port) : (s.setQueue q).port pt = s.port pt := rfl
@[simp] theorem State.estop_setQueue (q : List TrackEntry) : (s.setQueue q).estop = s.estop := rfl

@[simp] theorem State.lane_setRouting (x : Routing) (m : Lane) : (s.setRouting x).lane m = s.lane m := rfl
@[simp] theorem State.job_setRouting (x : Routing) (v : Lane) : (s.setRouting x).job v = s.job v := rfl
@[simp] theorem State.cache_setRouting (x : Routing) (v : Lane) : (s.setRouting x).cache v = s.cache v := rfl
@[simp] theorem State.stack_setRouting (x : Routing) (j : StackId) : (s.setRouting x).stack j = s.stack j := rfl
@[simp] theorem State.line_setRouting (x : Routing) (m : Line) : (s.setRouting x).line m = s.line m := rfl
@[simp] theorem State.port_setRouting (x : Routing) (pt : Port) : (s.setRouting x).port pt = s.port pt := rfl
@[simp] theorem State.estop_setRouting (x : Routing) : (s.setRouting x).estop = s.estop := rfl

@[simp] theorem State.lane_setStack (k : StackId) (x : Stack) (m : Lane) : (s.setStack k x).lane m = s.lane m := rfl
@[simp] theorem State.job_setStack (k : StackId) (x : Stack) (v : Lane) : (s.setStack k x).job v = s.job v := rfl
@[simp] theorem State.cache_setStack (k : StackId) (x : Stack) (v : Lane) : (s.setStack k x).cache v = s.cache v := rfl
@[simp] theorem State.line_setStack (k : StackId) (x : Stack) (m : Line) : (s.setStack k x).line m = s.line m := rfl
@[simp] theorem State.port_setStack (k : StackId) (x : Stack) (pt : Port) : (s.setStack k x).port pt = s.port pt := rfl
@[simp] theorem State.estop_setStack (k : StackId) (x : Stack) : (s.setStack k x).estop = s.estop := rfl

@[simp] theorem State.lane_setSk (x : Stacks) (m : Lane) : (s.setSk x).lane m = s.lane m := rfl
@[simp] theorem State.job_setSk (x : Stacks) (v : Lane) : (s.setSk x).job v = s.job v := rfl
@[simp] theorem State.cache_setSk (x : Stacks) (v : Lane) : (s.setSk x).cache v = s.cache v := rfl
@[simp] theorem State.line_setSk (x : Stacks) (m : Line) : (s.setSk x).line m = s.line m := rfl
@[simp] theorem State.port_setSk (x : Stacks) (pt : Port) : (s.setSk x).port pt = s.port pt := rfl
@[simp] theorem State.estop_setSk (x : Stacks) : (s.setSk x).estop = s.estop := rfl

@[simp] theorem State.lane_setLine (l : Line) (x : LineState) (m : Lane) : (s.setLine l x).lane m = s.lane m := rfl
@[simp] theorem State.job_setLine (l : Line) (x : LineState) (v : Lane) : (s.setLine l x).job v = s.job v := rfl
@[simp] theorem State.cache_setLine (l : Line) (x : LineState) (v : Lane) : (s.setLine l x).cache v = s.cache v := rfl
@[simp] theorem State.stack_setLine (l : Line) (x : LineState) (j : StackId) :
    (s.setLine l x).stack j = s.stack j := rfl
@[simp] theorem State.port_setLine (l : Line) (x : LineState) (pt : Port) : (s.setLine l x).port pt = s.port pt := rfl
@[simp] theorem State.estop_setLine (l : Line) (x : LineState) : (s.setLine l x).estop = s.estop := rfl

@[simp] theorem State.lane_setLines (x : Lines) (m : Lane) : (s.setLines x).lane m = s.lane m := rfl
@[simp] theorem State.job_setLines (x : Lines) (v : Lane) : (s.setLines x).job v = s.job v := rfl
@[simp] theorem State.cache_setLines (x : Lines) (v : Lane) : (s.setLines x).cache v = s.cache v := rfl
@[simp] theorem State.stack_setLines (x : Lines) (j : StackId) : (s.setLines x).stack j = s.stack j := rfl
@[simp] theorem State.port_setLines (x : Lines) (pt : Port) : (s.setLines x).port pt = s.port pt := rfl
@[simp] theorem State.estop_setLines (x : Lines) : (s.setLines x).estop = s.estop := rfl

@[simp] theorem State.lane_setPort (p : Port) (x : PortState) (m : Lane) : (s.setPort p x).lane m = s.lane m := rfl
@[simp] theorem State.job_setPort (p : Port) (x : PortState) (v : Lane) : (s.setPort p x).job v = s.job v := rfl
@[simp] theorem State.cache_setPort (p : Port) (x : PortState) (v : Lane) : (s.setPort p x).cache v = s.cache v := rfl
@[simp] theorem State.stack_setPort (p : Port) (x : PortState) (j : StackId) :
    (s.setPort p x).stack j = s.stack j := rfl
@[simp] theorem State.line_setPort (p : Port) (x : PortState) (m : Line) : (s.setPort p x).line m = s.line m := rfl
@[simp] theorem State.estop_setPort (p : Port) (x : PortState) : (s.setPort p x).estop = s.estop := rfl

@[simp] theorem State.lane_setPins (x : Pins) (m : Lane) : (s.setPins x).lane m = s.lane m := rfl
@[simp] theorem State.job_setPins (x : Pins) (v : Lane) : (s.setPins x).job v = s.job v := rfl
@[simp] theorem State.cache_setPins (x : Pins) (v : Lane) : (s.setPins x).cache v = s.cache v := rfl
@[simp] theorem State.stack_setPins (x : Pins) (j : StackId) : (s.setPins x).stack j = s.stack j := rfl
@[simp] theorem State.line_setPins (x : Pins) (m : Line) : (s.setPins x).line m = s.line m := rfl
@[simp] theorem State.port_setPins (x : Pins) (pt : Port) : (s.setPins x).port pt = s.port pt := rfl

@[simp] theorem State.lane_raise (n : Notice) (m : Lane) : (s.raise n).lane m = s.lane m := rfl
@[simp] theorem State.job_raise (n : Notice) (v : Lane) : (s.raise n).job v = s.job v := rfl
@[simp] theorem State.cache_raise (n : Notice) (v : Lane) : (s.raise n).cache v = s.cache v := rfl
@[simp] theorem State.stack_raise (n : Notice) (j : StackId) : (s.raise n).stack j = s.stack j := rfl
@[simp] theorem State.line_raise (n : Notice) (m : Line) : (s.raise n).line m = s.line m := rfl
@[simp] theorem State.estop_raise (n : Notice) : (s.raise n).estop = s.estop := rfl

@[simp] theorem State.lane_answer (p : Port) (code tag : Byte) (st : Status) (body : List Byte) (m : Lane) :
    (s.answer p code tag st body).lane m = s.lane m := rfl
@[simp] theorem State.job_answer (p : Port) (code tag : Byte) (st : Status) (body : List Byte) (v : Lane) :
    (s.answer p code tag st body).job v = s.job v := rfl
@[simp] theorem State.cache_answer (p : Port) (code tag : Byte) (st : Status) (body : List Byte) (v : Lane) :
    (s.answer p code tag st body).cache v = s.cache v := rfl
@[simp] theorem State.stack_answer (p : Port) (code tag : Byte) (st : Status) (body : List Byte) (j : StackId) :
    (s.answer p code tag st body).stack j = s.stack j := rfl
@[simp] theorem State.line_answer (p : Port) (code tag : Byte) (st : Status) (body : List Byte) (m : Line) :
    (s.answer p code tag st body).line m = s.line m := rfl
@[simp] theorem State.estop_answer (p : Port) (code tag : Byte) (st : Status) (body : List Byte) :
    (s.answer p code tag st body).estop = s.estop := rfl

@[simp] theorem State.lane_hunt (p : Port) (m : Lane) : (s.hunt p).lane m = s.lane m := rfl
@[simp] theorem State.job_hunt (p : Port) (v : Lane) : (s.hunt p).job v = s.job v := rfl
@[simp] theorem State.cache_hunt (p : Port) (v : Lane) : (s.hunt p).cache v = s.cache v := rfl
@[simp] theorem State.stack_hunt (p : Port) (j : StackId) : (s.hunt p).stack j = s.stack j := rfl
@[simp] theorem State.line_hunt (p : Port) (m : Line) : (s.hunt p).line m = s.line m := rfl
@[simp] theorem State.estop_hunt (p : Port) : (s.hunt p).estop = s.estop := rfl

@[simp] theorem State.lane_receive (p : Port) (r : Receiver) (m : Lane) : (s.receive p r).lane m = s.lane m := rfl
@[simp] theorem State.job_receive (p : Port) (r : Receiver) (v : Lane) : (s.receive p r).job v = s.job v := rfl
@[simp] theorem State.cache_receive (p : Port) (r : Receiver) (v : Lane) : (s.receive p r).cache v = s.cache v := rfl
@[simp] theorem State.stack_receive (p : Port) (r : Receiver) (j : StackId) : (s.receive p r).stack j = s.stack j := rfl
@[simp] theorem State.line_receive (p : Port) (r : Receiver) (m : Line) : (s.receive p r).line m = s.line m := rfl
@[simp] theorem State.estop_receive (p : Port) (r : Receiver) : (s.receive p r).estop = s.estop := rfl

@[simp] theorem State.lane_granted (r : Requester) (m : Lane) : (s.granted r).lane m = s.lane m := rfl
@[simp] theorem State.job_granted (r : Requester) (v : Lane) : (s.granted r).job v = s.job v := rfl
@[simp] theorem State.cache_granted (r : Requester) (v : Lane) : (s.granted r).cache v = s.cache v := rfl
@[simp] theorem State.stack_granted (r : Requester) (j : StackId) : (s.granted r).stack j = s.stack j := rfl
@[simp] theorem State.line_granted (r : Requester) (m : Line) : (s.granted r).line m = s.line m := rfl
@[simp] theorem State.port_granted (r : Requester) (pt : Port) : (s.granted r).port pt = s.port pt := rfl
@[simp] theorem State.estop_granted (r : Requester) : (s.granted r).estop = s.estop := rfl

@[simp] theorem State.lane_writeCell (n : Nat) (x : Cell16) (m : Lane) : (s.writeCell n x).lane m = s.lane m := rfl
@[simp] theorem State.job_writeCell (n : Nat) (x : Cell16) (v : Lane) : (s.writeCell n x).job v = s.job v := rfl
@[simp] theorem State.cache_writeCell (n : Nat) (x : Cell16) (v : Lane) : (s.writeCell n x).cache v = s.cache v := rfl
@[simp] theorem State.stack_writeCell (n : Nat) (x : Cell16) (j : StackId) :
    (s.writeCell n x).stack j = s.stack j := rfl
@[simp] theorem State.line_writeCell (n : Nat) (x : Cell16) (m : Line) : (s.writeCell n x).line m = s.line m := rfl
@[simp] theorem State.port_writeCell (n : Nat) (x : Cell16) (pt : Port) : (s.writeCell n x).port pt = s.port pt := rfl
@[simp] theorem State.estop_writeCell (n : Nat) (x : Cell16) : (s.writeCell n x).estop = s.estop := rfl

@[simp] theorem State.lane_setRoot (k : Slot) (d : Option Descriptor) (m : Lane) :
    (s.setRoot k d).lane m = s.lane m := rfl
@[simp] theorem State.job_setRoot (k : Slot) (d : Option Descriptor) (v : Lane) : (s.setRoot k d).job v = s.job v := rfl
@[simp] theorem State.cache_setRoot (k : Slot) (d : Option Descriptor) (v : Lane) :
    (s.setRoot k d).cache v = s.cache v := rfl
@[simp] theorem State.stack_setRoot (k : Slot) (d : Option Descriptor) (j : StackId) :
    (s.setRoot k d).stack j = s.stack j := rfl
@[simp] theorem State.line_setRoot (k : Slot) (d : Option Descriptor) (m : Line) :
    (s.setRoot k d).line m = s.line m := rfl
@[simp] theorem State.port_setRoot (k : Slot) (d : Option Descriptor) (pt : Port) : (s.setRoot k d).port pt = s.port pt := rfl
@[simp] theorem State.estop_setRoot (k : Slot) (d : Option Descriptor) : (s.setRoot k d).estop = s.estop := rfl

@[simp] theorem State.lane_setGeometry (g : Geometry) (m : Lane) : (s.setGeometry g).lane m = s.lane m := rfl
@[simp] theorem State.job_setGeometry (g : Geometry) (v : Lane) : (s.setGeometry g).job v = s.job v := rfl
@[simp] theorem State.cache_setGeometry (g : Geometry) (v : Lane) : (s.setGeometry g).cache v = s.cache v := rfl
@[simp] theorem State.stack_setGeometry (g : Geometry) (j : StackId) : (s.setGeometry g).stack j = s.stack j := rfl
@[simp] theorem State.line_setGeometry (g : Geometry) (m : Line) : (s.setGeometry g).line m = s.line m := rfl
@[simp] theorem State.port_setGeometry (g : Geometry) (pt : Port) : (s.setGeometry g).port pt = s.port pt := rfl
@[simp] theorem State.estop_setGeometry (g : Geometry) : (s.setGeometry g).estop = s.estop := rfl

@[simp] theorem State.job_countSheet (v : Lane) : (s.countSheet).job v = s.job v := rfl
@[simp] theorem State.cache_countSheet (v : Lane) : (s.countSheet).cache v = s.cache v := rfl
@[simp] theorem State.stack_countSheet (j : StackId) : (s.countSheet).stack j = s.stack j := rfl
@[simp] theorem State.line_countSheet (m : Line) : (s.countSheet).line m = s.line m := rfl
@[simp] theorem State.port_countSheet (pt : Port) : (s.countSheet).port pt = s.port pt := rfl
@[simp] theorem State.estop_countSheet : (s.countSheet).estop = s.estop := rfl

@[simp] theorem State.lane_countRunOut (m : Lane) : (s.countRunOut).lane m = s.lane m := rfl
@[simp] theorem State.job_countRunOut (v : Lane) : (s.countRunOut).job v = s.job v := rfl
@[simp] theorem State.cache_countRunOut (v : Lane) : (s.countRunOut).cache v = s.cache v := rfl
@[simp] theorem State.stack_countRunOut (j : StackId) : (s.countRunOut).stack j = s.stack j := rfl
@[simp] theorem State.line_countRunOut (m : Line) : (s.countRunOut).line m = s.line m := rfl
@[simp] theorem State.port_countRunOut (pt : Port) : (s.countRunOut).port pt = s.port pt := rfl
@[simp] theorem State.estop_countRunOut : (s.countRunOut).estop = s.estop := rfl

@[simp] theorem State.lane_onCaches (scope : Scope) (f : RuleCache → RuleCache) (m : Lane) :
    (s.onCaches scope f).lane m = s.lane m := rfl
@[simp] theorem State.job_onCaches (scope : Scope) (f : RuleCache → RuleCache) (v : Lane) :
    (s.onCaches scope f).job v = s.job v := rfl
@[simp] theorem State.stack_onCaches (scope : Scope) (f : RuleCache → RuleCache) (j : StackId) :
    (s.onCaches scope f).stack j = s.stack j := rfl
@[simp] theorem State.line_onCaches (scope : Scope) (f : RuleCache → RuleCache) (m : Line) :
    (s.onCaches scope f).line m = s.line m := rfl
@[simp] theorem State.port_onCaches (scope : Scope) (f : RuleCache → RuleCache) (pt : Port) : (s.onCaches scope f).port pt = s.port pt := rfl
@[simp] theorem State.estop_onCaches (scope : Scope) (f : RuleCache → RuleCache) :
    (s.onCaches scope f).estop = s.estop := rfl

@[simp] theorem State.lane_withPending (cs : List Instr) (m : Lane) : (s.withPending cs).lane m = s.lane m := rfl
@[simp] theorem State.job_withPending (cs : List Instr) (v : Lane) : (s.withPending cs).job v = s.job v := rfl
@[simp] theorem State.cache_withPending (cs : List Instr) (v : Lane) : (s.withPending cs).cache v = s.cache v := rfl
@[simp] theorem State.stack_withPending (cs : List Instr) (j : StackId) : (s.withPending cs).stack j = s.stack j := rfl
@[simp] theorem State.line_withPending (cs : List Instr) (m : Line) : (s.withPending cs).line m = s.line m := rfl
@[simp] theorem State.port_withPending (cs : List Instr) (pt : Port) : (s.withPending cs).port pt = s.port pt := rfl
@[simp] theorem State.estop_withPending (cs : List Instr) : (s.withPending cs).estop = s.estop := rfl

/-! ## raiseIf -/

@[simp] theorem State.raiseIf_intake (c : Bool) (n : Notice) : (s.raiseIf c n).intake = s.intake := by
  unfold State.raiseIf; split <;> rfl
@[simp] theorem State.raiseIf_grading (c : Bool) (n : Notice) : (s.raiseIf c n).grading = s.grading := by
  unfold State.raiseIf; split <;> rfl
@[simp] theorem State.raiseIf_tables (c : Bool) (n : Notice) : (s.raiseIf c n).tables = s.tables := by
  unfold State.raiseIf; split <;> rfl
@[simp] theorem State.raiseIf_caches (c : Bool) (n : Notice) : (s.raiseIf c n).caches = s.caches := by
  unfold State.raiseIf; split <;> rfl
@[simp] theorem State.raiseIf_tracking (c : Bool) (n : Notice) : (s.raiseIf c n).tracking = s.tracking := by
  unfold State.raiseIf; split <;> rfl
@[simp] theorem State.raiseIf_routing (c : Bool) (n : Notice) : (s.raiseIf c n).routing = s.routing := by
  unfold State.raiseIf; split <;> rfl
@[simp] theorem State.raiseIf_sk (c : Bool) (n : Notice) : (s.raiseIf c n).sk = s.sk := by
  unfold State.raiseIf; split <;> rfl
@[simp] theorem State.raiseIf_lines (c : Bool) (n : Notice) : (s.raiseIf c n).lines = s.lines := by
  unfold State.raiseIf; split <;> rfl
@[simp] theorem State.raiseIf_pins (c : Bool) (n : Notice) : (s.raiseIf c n).pins = s.pins := by
  unfold State.raiseIf; split <;> rfl
@[simp] theorem State.raiseIf_choices (c : Bool) (n : Notice) : (s.raiseIf c n).choices = s.choices := by
  unfold State.raiseIf; split <;> rfl
@[simp] theorem State.raiseIf_pending (c : Bool) (n : Notice) : (s.raiseIf c n).pending = s.pending := by
  unfold State.raiseIf; split <;> rfl
@[simp] theorem State.lane_raiseIf (c : Bool) (n : Notice) (m : Lane) : (s.raiseIf c n).lane m = s.lane m := by
  unfold State.raiseIf; split <;> rfl
@[simp] theorem State.job_raiseIf (c : Bool) (n : Notice) (v : Lane) : (s.raiseIf c n).job v = s.job v := by
  unfold State.raiseIf; split <;> rfl
@[simp] theorem State.cache_raiseIf (c : Bool) (n : Notice) (v : Lane) : (s.raiseIf c n).cache v = s.cache v := by
  unfold State.raiseIf; split <;> rfl
@[simp] theorem State.stack_raiseIf (c : Bool) (n : Notice) (j : StackId) : (s.raiseIf c n).stack j = s.stack j := by
  unfold State.raiseIf; split <;> rfl
@[simp] theorem State.line_raiseIf (c : Bool) (n : Notice) (m : Line) : (s.raiseIf c n).line m = s.line m := by
  unfold State.raiseIf; split <;> rfl
@[simp] theorem State.estop_raiseIf (c : Bool) (n : Notice) : (s.raiseIf c n).estop = s.estop := by
  unfold State.raiseIf; split <;> rfl

end Sys2Proof.Machine
end

