-- ==== Sys2Proof/Laws/Memory.lean ====
section
/-!
SUPPORT. Table memory: every operation keeps the canonical form, a byte written is read back, and every other byte reads
as before.
-/

namespace Sys2Proof.Machine

/-! ## The canonical form from an address up -/

theorem Memory.risesFrom_weaken {m : Memory} {lo lo' : Nat} (h : Memory.risesFrom lo m = true) (hl : lo' ≤ lo) :
    Memory.risesFrom lo' m = true := by
  cases m with
  | nil => rfl
  | cons e m =>
    obtain ⟨a, b⟩ := e
    simp only [Memory.risesFrom, Bool.and_eq_true, decide_eq_true_eq] at h ⊢
    exact ⟨⟨by omega, h.1.2⟩, h.2⟩

/-- Below the first address a canonical memory lists nothing. -/
theorem Memory.read_below {m : Memory} {lo x : Nat} (h : Memory.risesFrom lo m = true) (hx : x < lo) :
    Memory.read m x = Memory.default := by
  induction m generalizing lo with
  | nil => rfl
  | cons e m ih =>
    obtain ⟨a, b⟩ := e
    simp only [Memory.risesFrom, Bool.and_eq_true, decide_eq_true_eq] at h
    have : a ≠ x := by omega
    simp only [Memory.read, this, if_false]
    exact ih h.2 (by omega)

theorem Memory.write_risesFrom {m : Memory} {lo x : Nat} {v : Byte} (h : Memory.risesFrom lo m = true) (hx : lo ≤ x) :
    Memory.risesFrom lo (Memory.write m x v) = true := by
  induction m generalizing lo with
  | nil =>
    by_cases hv : v = Memory.default
    · simp [Memory.write, hv, Memory.risesFrom]
    · simp [Memory.write, hv, Memory.risesFrom, hx]
  | cons e m ih =>
    obtain ⟨a, b⟩ := e
    have h' := h
    simp only [Memory.risesFrom, Bool.and_eq_true, decide_eq_true_eq] at h
    by_cases hxa : x < a
    · by_cases hv : v = Memory.default
      · simpa [Memory.write, hxa, hv] using h'
      · have : Memory.risesFrom (x + 1) ((a, b) :: m) = true := by
          simp only [Memory.risesFrom, Bool.and_eq_true, decide_eq_true_eq]
          exact ⟨⟨by omega, h.1.2⟩, h.2⟩
        simp [Memory.write, hxa, hv, Memory.risesFrom, hx] at this ⊢
        exact this
    · by_cases he : x = a
      · by_cases hv : v = Memory.default
        · simpa [Memory.write, he, hv] using Memory.risesFrom_weaken h.2 (show lo ≤ a + 1 by omega)
        · simp [Memory.write, he, hv, Memory.risesFrom, h.1.1, h.2]
      · simp only [Memory.write, hxa, if_false, he, Memory.risesFrom, Bool.and_eq_true, decide_eq_true_eq]
        exact ⟨h.1, ih h.2 (by omega)⟩

theorem Memory.write_addresses {m : Memory} {x : Nat} {v : Byte} {e : Host.Cell} (h : e ∈ Memory.write m x v) :
    e ∈ m ∨ e.1 = x := by
  induction m with
  | nil =>
    by_cases hv : v = Memory.default <;> simp [Memory.write, hv] at h
    exact .inr (by rw [h])
  | cons f m ih =>
    obtain ⟨a, b⟩ := f
    unfold Memory.write at h
    split at h
    · split at h
      · exact .inl h
      · rcases List.mem_cons.1 h with rfl | h
        · exact .inr rfl
        · exact .inl h
    · split at h
      · rename_i hxa
        split at h
        · exact .inl (List.mem_cons_of_mem _ h)
        · rcases List.mem_cons.1 h with rfl | h
          · exact .inr hxa.symm
          · exact .inl (List.mem_cons_of_mem _ h)
      · rcases List.mem_cons.1 h with rfl | h
        · exact .inl (List.mem_cons_self ..)
        · exact (ih h).imp (List.mem_cons_of_mem _) id

/-! ## Every operation keeps the canonical form -/

theorem Memory.wf_nil : Memory.wf [] = true := rfl

theorem Memory.write_wf {m : Memory} {x : Nat} {v : Byte} (h : m.wf = true)
    (hx : x < Config.cellCount * Config.cellBytes) : (Memory.write m x v).wf = true := by
  simp only [Memory.wf, Bool.and_eq_true, List.all_eq_true, decide_eq_true_eq] at h ⊢
  refine ⟨Memory.write_risesFrom h.1 (Nat.zero_le _), fun e he => ?_⟩
  rcases Memory.write_addresses he with he | he
  · exact h.2 e he
  · omega

theorem Memory.writeBytes_wf {vs : List Byte} {m : Memory} {x : Nat} (h : m.wf = true)
    (hx : x + vs.length ≤ Config.cellCount * Config.cellBytes) : (Memory.writeBytes m x vs).wf = true := by
  induction vs generalizing m x with
  | nil => exact h
  | cons v vs ih =>
    simp only [List.length_cons] at hx
    exact ih (Memory.write_wf h (by omega)) (by omega)

theorem Memory.setCell_wf {m : Memory} {n : Nat} {x : Cell16} (h : m.wf = true) (hn : n < Config.cellCount) :
    (m.setCell n x).wf = true := by
  refine Memory.writeBytes_wf h ?_
  simp only [Vector.length_toList, Config.cellBytes, Config.cellCount] at hn ⊢
  omega

theorem State.reset_memory_wf : State.reset.tables.mem.wf = true := rfl

/-! ## Read after write -/

theorem Memory.read_write {m : Memory} {lo x : Nat} {v : Byte} (h : Memory.risesFrom lo m = true) (y : Nat) :
    Memory.read (Memory.write m x v) y = if y = x then v else Memory.read m y := by
  induction m generalizing lo with
  | nil =>
    by_cases hv : v = Memory.default
    · simp [Memory.write, hv, Memory.read]
    · by_cases hy : y = x
      · simp [Memory.write, hv, Memory.read, hy]
      · simp [Memory.write, hv, Memory.read, hy, Ne.symm hy]
  | cons e m ih =>
    obtain ⟨a, b⟩ := e
    have hr := h
    simp only [Memory.risesFrom, Bool.and_eq_true, decide_eq_true_eq] at h
    by_cases hxa : x < a
    · have hb : Memory.read ((a, b) :: m) x = Memory.default :=
        Memory.read_below (lo := a) (by simp [Memory.risesFrom] at h ⊢; exact ⟨h.1.2, h.2⟩) hxa
      by_cases hv : v = Memory.default
      · by_cases hy : y = x
        · simp [Memory.write, hxa, hv, hy, hb]
        · simp [Memory.write, hxa, hv, hy]
      · by_cases hy : y = x
        · simp [Memory.write, hxa, hv, hy, Memory.read]
        · simp [Memory.write, hxa, hv, hy, Ne.symm hy, Memory.read]
    · by_cases he : x = a
      · subst he
        have hb : Memory.read m x = Memory.default := Memory.read_below h.2 (Nat.lt_succ_self x)
        by_cases hv : v = Memory.default
        · by_cases hy : y = x
          · simp [Memory.write, hv, hy, hb]
          · simp [Memory.write, hv, hy, Ne.symm hy, Memory.read]
        · by_cases hy : y = x
          · simp [Memory.write, hv, hy, Memory.read]
          · simp [Memory.write, hv, hy, Ne.symm hy, Memory.read]
      · simp only [Memory.write, hxa, if_false, he, Memory.read, ih h.2]
        by_cases hay : a = y
        · have : y ≠ x := by omega
          simp [hay, this]
        · simp [hay]

theorem Memory.read_writeBytes {vs : List Byte} {m : Memory} {x : Nat} (h : Memory.risesFrom 0 m = true) (y : Nat) :
    Memory.read (Memory.writeBytes m x vs) y =
      if x ≤ y ∧ y < x + vs.length then vs[y - x]?.getD 0 else Memory.read m y := by
  induction vs generalizing m x with
  | nil => simp [Memory.writeBytes]
  | cons v vs ih =>
    rw [Memory.writeBytes, ih (Memory.write_risesFrom h (Nat.zero_le _)), Memory.read_write h]
    by_cases h1 : y = x
    · subst h1; simp
    · by_cases h2 : x + 1 ≤ y ∧ y < x + 1 + vs.length
      · have h3 : x ≤ y ∧ y < x + (v :: vs).length := by simp; omega
        have h4 : y - x = (y - (x + 1)) + 1 := by omega
        rw [if_pos h2, if_pos h3, h4]; rfl
      · have h3 : ¬ (x ≤ y ∧ y < x + (v :: vs).length) := by simp; omega
        rw [if_neg h2, if_neg h3, if_neg h1]

end Sys2Proof.Machine
end

