-- ==== Sys2Proof/Laws/Selection.lean ====
section
/-!
SUPPORT. What picks, waits and selections can do: each shared operation of chapters 7 and 9 that selects, grants or
withdraws changes nothing outside `SelectsOnly`.
-/

namespace Sys2Proof.Machine

@[simp] theorem LineState.keepsProgram_refl (x : LineState) : x.KeepsProgram x := by simp [LineState.KeepsProgram]

theorem SelectsOnly.refl (s : State) : SelectsOnly s s := by
  constructor <;> simp

theorem SelectsOnly.trans {s t u : State} (h : SelectsOnly s t) (k : SelectsOnly t u) : SelectsOnly s u where
  intake := k.intake.trans h.intake
  grading := k.grading.trans h.grading
  tables := k.tables.trans h.tables
  caches := k.caches.trans h.caches
  tracking := k.tracking.trans h.tracking
  routing := k.routing.trans h.routing
  ports := k.ports.trans h.ports
  pins := k.pins.trans h.pins
  pending := k.pending.trans h.pending
  stackParams := ⟨k.stackParams.1.trans h.stackParams.1, k.stackParams.2.1.trans h.stackParams.2.1,
    k.stackParams.2.2.trans h.stackParams.2.2⟩
  lineParams := ⟨k.lineParams.1.trans h.lineParams.1, k.lineParams.2.trans h.lineParams.2⟩
  stackFields := fun j => by
    obtain ⟨a, b, c, d, e, f, g⟩ := h.stackFields j
    obtain ⟨a', b', c', d', e', f', g'⟩ := k.stackFields j
    exact ⟨a'.trans a, b'.trans b, c'.trans c, d'.trans d, e'.trans e, f'.trans f, g'.trans g⟩
  lineFields := fun l => by
    obtain ⟨a, b, c, d, e, f, g, i, j, m, n⟩ := h.lineFields l
    obtain ⟨a', b', c', d', e', f', g', i', j', m', n'⟩ := k.lineFields l
    exact ⟨a'.trans a, b'.trans b, c'.trans c, d'.trans d, e'.trans e, f'.trans f, g'.trans g, i'.trans i, j'.trans j,
      m'.trans m, n'.trans n⟩

/-- Replacing a stack by one with other holder, waiters or last grant. -/
theorem SelectsOnly.setStack {s : State} {k : StackId} {x : Stack}
    (h : x.state = (s.stack k).state ∧ x.capacity = (s.stack k).capacity ∧ x.access = (s.stack k).access
      ∧ x.inventory = (s.stack k).inventory ∧ x.allocated = (s.stack k).allocated
      ∧ x.reservations = (s.stack k).reservations ∧ x.falling = (s.stack k).falling) :
    SelectsOnly s (s.setStack k x) where
  intake := rfl
  grading := rfl
  tables := rfl
  caches := rfl
  tracking := rfl
  routing := rfl
  ports := rfl
  pins := rfl
  pending := rfl
  stackParams := ⟨rfl, rfl, rfl⟩
  lineParams := ⟨rfl, rfl⟩
  stackFields := fun j => by
    by_cases hj : j = k
    · subst hj; simpa using h
    · simp [State.stack_setStack_other _ _ hj]
  lineFields := fun l => by simp

/-- Replacing a line by one with other activity, step, draw, timers or PICK_REQ. -/
theorem SelectsOnly.setLine {s : State} {l : Line} {x : LineState}
    (h : x.mode = (s.line l).mode ∧ x.exec = (s.line l).exec ∧ x.pointer = (s.line l).pointer
      ∧ x.pattern = (s.line l).pattern ∧ x.counters = (s.line l).counters ∧ x.latch = (s.line l).latch
      ∧ x.fault = (s.line l).fault ∧ x.openPanel = (s.line l).openPanel ∧ x.panelQueue = (s.line l).panelQueue
      ∧ x.panelCounter = (s.line l).panelCounter ∧ x.lastDraw = (s.line l).lastDraw) :
    SelectsOnly s (s.setLine l x) where
  intake := rfl
  grading := rfl
  tables := rfl
  caches := rfl
  tracking := rfl
  routing := rfl
  ports := rfl
  pins := rfl
  pending := rfl
  stackParams := ⟨rfl, rfl, rfl⟩
  lineParams := ⟨rfl, rfl⟩
  stackFields := fun j => by simp
  lineFields := fun m => by
    by_cases hm : m = l
    · subst hm; simpa [LineState.KeepsProgram] using h
    · simp [State.line_setLine_other _ _ hm]

/-! ## The operations -/

theorem beginPick_selectsOnly (l : Line) (k : StackId) (s : State) : SelectsOnly s (beginPick l k s) := by
  unfold beginPick
  refine (SelectsOnly.setStack ?_).trans (SelectsOnly.setLine ?_) <;> simp

theorem joinWaiters_selectsOnly (l : Line) (k : StackId) (g : GradeSet) (s : State) :
    SelectsOnly s (joinWaiters l k g s) := by
  unfold joinWaiters
  refine (SelectsOnly.setStack ?_).trans (SelectsOnly.setLine ?_) <;> simp

theorem leaveWaiters_selectsOnly (l : Line) (k : StackId) (s : State) : SelectsOnly s (leaveWaiters l k s) :=
  SelectsOnly.setStack (by simp)

theorem withdrawLine_selectsOnly (l : Line) (s : State) : SelectsOnly s (withdrawLine l s) := by
  unfold withdrawLine
  split
  · exact leaveWaiters_selectsOnly ..
  · exact .refl s

theorem ask_selectsOnly (l : Line) (k : StackId) (g : GradeSet) (s : State) : SelectsOnly s (ask l k g s) := by
  simp only [ask]
  split
  · exact .refl s
  · split
    · split
      · exact beginPick_selectsOnly ..
      · exact .refl s
    · exact joinWaiters_selectsOnly ..

theorem starve_selectsOnly (l : Line) (s : State) : SelectsOnly s (starve l s) := by
  simp only [starve]
  split
  · exact .refl s
  · exact SelectsOnly.setLine (by simp)

theorem select_selectsOnly (l : Line) (s : State) : SelectsOnly s (select l s) := by
  unfold select
  split
  · exact .refl s
  · split
    · exact ask_selectsOnly ..
    · exact starve_selectsOnly ..

theorem stood_selectsOnly (l : Line) (s : State) : SelectsOnly s (s.setLine l (s.line l).stood) :=
  SelectsOnly.setLine (by simp [LineState.stood])

theorem reselect_selectsOnly (l : Line) (s : State) : SelectsOnly s (reselect l s) := by
  unfold reselect
  split
  · exact stood_selectsOnly l s
  · exact select_selectsOnly l s

theorem choices_selectsOnly (s : State) (n : Nat) : SelectsOnly s { s with choices := n } := by
  constructor <;> simp [State.stack, State.line]

/-! ## Events at the stacks -/

theorem StackEvent.withdrawAll_selectsOnly (e : StackEvent) (k : StackId) : SelectsOnly e.st (e.withdrawAll k).st :=
  SelectsOnly.setStack (by simp)

theorem StackEvent.offer_selectsOnly (k : StackId) (ls : List Line) (e : StackEvent) :
    SelectsOnly e.st (StackEvent.offer k ls e).st := by
  induction ls generalizing e with
  | nil => exact .refl _
  | cons l ls ih =>
    simp only [StackEvent.offer]
    split
    · exact ih e
    · split
      · exact beginPick_selectsOnly ..
      · exact (leaveWaiters_selectsOnly l k e.st).trans
          (ih { st := leaveWaiters l k e.st, told := e.told.set l true, heard := e.heard })

theorem StackEvent.grantCheck_selectsOnly (e : StackEvent) (k : StackId) : SelectsOnly e.st (e.grantCheck k).st := by
  simp only [StackEvent.grantCheck]
  split
  · exact StackEvent.offer_selectsOnly ..
  · exact .refl _

theorem StackEvent.grantChecks_selectsOnly (ks : List StackId) (e : StackEvent) :
    SelectsOnly e.st (ks.foldl StackEvent.grantCheck e).st := by
  induction ks generalizing e with
  | nil => exact .refl _
  | cons k ks ih => exact (e.grantCheck_selectsOnly k).trans (ih _)

theorem StackEvent.settle_selectsOnly (e : StackEvent) : SelectsOnly e.st e.settle := by
  simp only [StackEvent.settle]
  split
  · exact .refl _
  · exact reselect_selectsOnly ..
  · exact reselect_selectsOnly ..
  · split
    · exact (choices_selectsOnly e.st _).trans ((reselect_selectsOnly .a _).trans (reselect_selectsOnly .b _))
    · exact (choices_selectsOnly e.st _).trans ((reselect_selectsOnly .b _).trans (reselect_selectsOnly .a _))

/-- With nobody told and nobody starved, an event is settled as it stands. -/
theorem StackEvent.settle_quiet {e : StackEvent} (ha : e.told = ⟨false, false⟩)
    (hs : ∀ l, (e.st.line l).activity ≠ .starved) : e.settle = e.st := by
  have h : ∀ l, e.selects l = false := fun l => by
    cases l <;> simp [StackEvent.selects, PerLine.get, ha, hs]
  simp [StackEvent.settle, h]

end Sys2Proof.Machine
end

