-- ==== Sys2Proof/Laws/Requests.lean ====
section
/-!
SUPPORT. How a frame is received: as the data of a partial frame, or else taken, BUSY, or held off by RESET_N; what bytes
on RX keep; that an event always answers a next state; and what abandoning a grading and a run-out can do.
-/

namespace Sys2Proof.Machine

variable {s : State} {p : Port} {code tag : Byte} {body : List Byte}

/-! ## Ports -/

@[simp] theorem State.port_hunt_same (s : State) (p : Port) : (s.hunt p).port p = { s.port p with receiver := .hunting } := by
  cases p <;> rfl
theorem State.port_hunt_other (s : State) {p q : Port} (h : q ≠ p) : (s.hunt p).port q = s.port q :=
  State.port_setPort_other _ _ h
theorem State.port_answer_same (s : State) (p : Port) (code tag : Byte) (st : Status) (body : List Byte) :
    (s.answer p code tag st body).port p = (s.port p).send (answerFrame code tag st body) := by
  simp [State.answer]
theorem State.port_answer_other (s : State) {p q : Port} (code tag : Byte) (st : Status) (body : List Byte) (h : q ≠ p) :
    (s.answer p code tag st body).port q = s.port q := State.port_setPort_other _ _ h

@[simp] theorem PortState.send_pending (x : PortState) (f : List Byte) : (x.send f).pending = x.pending := by
  unfold PortState.send; split
  · rfl
  · split <;> rfl
@[simp] theorem PortState.send_notices (x : PortState) (f : List Byte) : (x.send f).notices = x.notices := by
  unfold PortState.send; split
  · rfl
  · split <;> rfl
@[simp] theorem PortState.send_mask (x : PortState) (f : List Byte) : (x.send f).mask = x.mask := by
  unfold PortState.send; split
  · rfl
  · split <;> rfl
@[simp] theorem PortState.send_receiver (x : PortState) (f : List Byte) : (x.send f).receiver = x.receiver := by
  unfold PortState.send; split
  · rfl
  · split <;> rfl

/-! ## Requests answered in their event (R176, R177) -/

theorem serve_held (block : State → Reply) (h : s.pins.resetHeld = true) : serve code p tag block s = .next s := by
  simp [serve, h]

theorem serve_busy (block : State → Reply) (h : s.pins.resetHeld = false) (hp : (s.port p).pending ≠ none) :
    serve code p tag block s = .next (s.answered p code tag .busy []) := by
  cases h' : (s.port p).pending with
  | none => exact absurd h' hp
  | some r => simp [serve, h, h', State.answered]

theorem serve_ready (block : State → Reply) (h : Ready s p) :
    serve code p tag block s = .next ((block (s.hunt p)).st.answer p code tag (block (s.hunt p)).status
      (block (s.hunt p)).body) := by
  simp [serve, h.1.1, h.2]

theorem serve_refuse {block : State → Reply} {st : Status} (h : Ready s p)
    (hb : block (s.hunt p) = refuse (s.hunt p) st) :
    serve code p tag block s = .next (s.answered p code tag st []) := by
  rw [serve_ready block h, hb]; rfl

theorem serve_ok {block : State → Reply} {t : State} {out : List Byte} (h : Ready s p)
    (hb : block (s.hunt p) = okReply t out) :
    serve code p tag block s = .next (t.answer p code tag .ok out) := by
  rw [serve_ready block h, hb]; rfl

theorem serve_next (block : State → Reply) (s : State) : ∃ t, serve code p tag block s = .next t := by
  simp only [serve]; split
  · exact ⟨_, rfl⟩
  · split <;> exact ⟨_, rfl⟩

theorem serveLine_owned (block : State → Reply) (h : notOwner p body = false) :
    serveLine code p tag body block s = serve code p tag block s := by
  simp [serveLine, h]

theorem serveLine_notOwner (block : State → Reply) (h : Ready s p) (ho : notOwner p body = true) :
    serveLine code p tag body block s = .next (s.answered p code tag .notOwner []) := by
  refine serve_refuse h ?_
  simp [ho]

theorem serveLine_next (block : State → Reply) (s : State) : ∃ t, serveLine code p tag body block s = .next t :=
  serve_next ..

/-! ## Requests of the port path (R51) -/

theorem serveTable_held (check : Except Status TableWork) (h : s.pins.resetHeld = true) :
    serveTable code p tag check s = .next s := by simp [serveTable, h]

theorem serveTable_busy (check : Except Status TableWork) (h : s.pins.resetHeld = false)
    (hp : (s.port p).pending ≠ none) : serveTable code p tag check s = .next (s.answered p code tag .busy []) := by
  cases h' : (s.port p).pending with
  | none => exact absurd h' hp
  | some r => simp [serveTable, h, h', State.answered]

theorem serveTable_error {check : Except Status TableWork} {st : Status} (h : Ready s p) (hc : check = .error st) :
    serveTable code p tag check s = .next (s.answered p code tag st []) := by
  simp [serveTable, h.1.1, h.2, hc, State.answered]

theorem serveTable_ok {check : Except Status TableWork} {w : TableWork} (h : Ready s p) (hc : check = .ok w) :
    serveTable code p tag check s =
      .next (joinPath { port := p, code := code, tag := tag, work := w } (s.hunt p)) := by
  simp [serveTable, h.1.1, h.2, hc]

theorem serveTable_next (check : Except Status TableWork) (s : State) : ∃ t, serveTable code p tag check s = .next t := by
  simp only [serveTable]; split
  · exact ⟨_, rfl⟩
  · split
    · exact ⟨_, rfl⟩
    · split <;> exact ⟨_, rfl⟩

/-! ## Bytes and frames on RX (R174) -/

theorem Ready.listening (h : Ready s p) : Listening s p := h.1
theorem Ready.running (h : Ready s p) : s.pins.resetHeld = false := h.1.1
theorem Ready.whole (h : Ready s p) : s.midFrame p = false := h.1.2

/-- A port that is not in the middle of a frame receives a request frame whole. -/
@[simp] theorem receiveRequest_whole (taken : State → Result) (h : s.midFrame p = false) :
    receiveRequest code p tag body taken s = taken s := by simp [receiveRequest, onLink, h]

/-- In the middle of a frame, the bytes of a request frame are data of that frame. -/
theorem receiveRequest_inside (taken : State → Result) (h : s.midFrame p = true) :
    receiveRequest code p tag body taken s =
      receiveBytes p (frameBytes code tag body (requestCrc code tag body)) s := by simp [receiveRequest, onLink, h]

/-- What one byte on RX keeps, a run of bytes keeps. -/
theorem receiveBytes_keeps {P : State → Prop} (hb : ∀ b s t, P s → receiveByte p b s = .next t → P t) :
    ∀ (bs : List Byte) {s t : State}, P s → receiveBytes p bs s = .next t → P t
  | [], s, t, hs, h => by cases h; exact hs
  | b :: bs, s, t, hs, h => by
    simp only [receiveBytes] at h
    split at h
    · next u hu => exact receiveBytes_keeps hb bs (hb b s u hs hu) h
    · cases h
    · cases h

/-- A request command keeps what its taken frame and what one byte on RX keep. -/
theorem receiveRequest_keeps {P : State → Prop} {taken : State → Result}
    (hb : ∀ b s t, P s → receiveByte p b s = .next t → P t) (ht : ∀ t, taken s = .next t → P t) {t : State} (hs : P s)
    (h : receiveRequest code p tag body taken s = .next t) : P t := by
  by_cases hm : s.midFrame p = true
  · rw [receiveRequest_inside _ hm] at h
    exact receiveBytes_keeps hb _ hs h
  · rw [receiveRequest_whole _ (by simpa using hm)] at h
    exact ht t h

/-- A choice between two outcomes that answer a next state answers one. -/
theorem next_of_ite {c : Prop} [Decidable c] {a b : Result} (ha : ∃ t, a = .next t) (hb : ∃ t, b = .next t) :
    ∃ t, (if c then a else b) = .next t := by
  split
  · exact ha
  · exact hb

theorem frameReceived_next (s : State) : ∃ t, frameReceived p code tag body s = .next t := by
  unfold frameReceived
  repeat' first
    | exact serve_next ..
    | exact serveLine_next ..
    | exact serveTable_next ..
    | apply next_of_ite

theorem receiveByte_next (b : Byte) (s : State) : ∃ t, receiveByte p b s = .next t := by
  unfold receiveByte
  refine next_of_ite ⟨_, rfl⟩ ?_
  split
  · exact ⟨_, rfl⟩
  · refine next_of_ite ⟨_, rfl⟩ (next_of_ite ⟨_, rfl⟩ (next_of_ite ⟨_, rfl⟩ ?_))
    exact next_of_ite ⟨_, rfl⟩ (next_of_ite (frameReceived_next s) ⟨_, rfl⟩)

theorem receiveBytes_next : ∀ (bs : List Byte) (s : State), ∃ t, receiveBytes p bs s = .next t
  | [], s => ⟨s, rfl⟩
  | b :: bs, s => by
    obtain ⟨t, h⟩ := receiveByte_next (p := p) b s
    simpa [receiveBytes, h] using receiveBytes_next bs t

theorem receiveRequest_next {taken : State → Result} (ht : ∃ t, taken s = .next t) :
    ∃ t, receiveRequest code p tag body taken s = .next t := by
  cases hm : s.midFrame p with
  | true => rw [receiveRequest_inside _ hm]; exact receiveBytes_next ..
  | false => rw [receiveRequest_whole _ hm]; exact ht

/-! ## Events -/

theorem event_held (f : State → State) (h : s.pins.resetHeld = true) : event f s = .next s := by simp [event, h]

theorem event_taken (f : State → State) (h : s.pins.resetHeld = false) : event f s = .next (f s) := by simp [event, h]

/-! ## Abandoned gradings and the run-out (R37, R39, R96) -/

theorem GradingJob.isFor_iff (j : GradingJob) (r : SheetRecord) :
    j.isFor r = true ↔ j.number = r.number ∧ j.round = r.round := by simp [GradingJob.isFor]

/-- What abandoning a record's grading can do: nothing, or mark the job of its unit, the only part it changes. -/
theorem State.abandon_cases (s : State) (r : SheetRecord) (discarded : Bool) :
    s.abandon r discarded = s ∨ ∃ j, s.job r.lane = some j ∧ j.isFor r = true ∧ r.status = .grading ∧
      (r.cls = none ∨ j.abandoned = true) ∧ s.abandon r discarded = s.setJob r.lane
        (some { j with abandoned := true, slotHeld := if discarded then none else j.slotHeld }) := by
  unfold State.abandon
  split
  · exact .inl rfl
  · next j hj =>
    split
    · next h => exact .inr ⟨j, hj, h.1, h.2.1, h.2.2, rfl⟩
    · exact .inl rfl

theorem State.abandon_only_grading (s : State) (r : SheetRecord) (discarded : Bool) :
    ∃ g, s.abandon r discarded = { s with grading := g } := by
  rcases s.abandon_cases r discarded with h | ⟨j, -, -, -, -, h⟩
  · exact ⟨s.grading, h⟩
  · exact ⟨_, h⟩

/-- Records that are discarded or leave the part change nothing but the gradings. -/
theorem State.abandonAll_only_grading (s : State) (rs : List SheetRecord) :
    ∃ g, s.abandonAll rs = { s with grading := g } := by
  induction rs generalizing s with
  | nil => exact ⟨s.grading, rfl⟩
  | cons r rs ih =>
    obtain ⟨g, hg⟩ := s.abandon_only_grading r true
    obtain ⟨g', hg'⟩ := ih (s.abandon r true)
    exact ⟨g', by rw [show s.abandonAll (r :: rs) = (s.abandon r true).abandonAll rs from rfl, hg', hg]⟩

@[simp] theorem State.line_abandonAll (s : State) (rs : List SheetRecord) (l : Line) : (s.abandonAll rs).line l = s.line l := by
  obtain ⟨g, h⟩ := s.abandonAll_only_grading rs; rw [h]; rfl

@[simp] theorem State.stack_abandonAll (s : State) (rs : List SheetRecord) (k : StackId) :
    (s.abandonAll rs).stack k = s.stack k := by
  obtain ⟨g, h⟩ := s.abandonAll_only_grading rs; rw [h]; rfl

@[simp] theorem State.port_abandonAll (s : State) (rs : List SheetRecord) (q : Port) : (s.abandonAll rs).port q = s.port q := by
  obtain ⟨g, h⟩ := s.abandonAll_only_grading rs; rw [h]; rfl

/-- What a run-out can do: nothing, or discard the entry it finds and count it. -/
theorem takeRunOut_cases (f : TrackEntry → Bool) (s : State) :
    takeRunOut f s = s ∨ ∃ e, s.tracking.queue.find? f = some e ∧
      takeRunOut f s = ((s.abandon e.sheet true).setQueue (dropFirst f s.tracking.queue)).countRunOut := by
  unfold takeRunOut
  split
  · exact .inl rfl
  · next e he => exact .inr ⟨e, he, rfl⟩

end Sys2Proof.Machine
end

