-- ==== Sys2Proof/WellFormed.lean ====
section
/-!
DEFINITION. When a command's operands are ones the part can meet: a body fits a frame (R185), an unknown code is unknown
(R177), a discarded frame's CRC word disagrees (R175), a long length byte is above 250 (R174), a sheet number is one
(R1).
-/

namespace Sys2Proof

/-- A frame's body holds at most 250 bytes (R185). -/
def bodyFits (body : List Byte) : Bool := body.length ≤ Config.maxBody

/-- A sheet number (R1). -/
def isSheetNumber (n : Nat) : Bool := 1 ≤ n && n ≤ Config.maxNumber

/-- The operands of a command are ones the part can meet. -/
def Instr.wellFormed : Instr → Bool
  | .readNotices _ _ body | .ackNotices _ _ body | .setNoticeMask _ _ body | .setParameter _ _ body
  | .getParameter _ _ body | .submitSheet _ _ body | .laneResync _ _ body | .readIntake _ _ body
  | .writeCell _ _ body | .readCell _ _ body | .replaceCell _ _ body | .invalidateCell _ _ body
  | .writeRoot _ _ body | .changeover _ _ body | .readRoots _ _ body | .probePath _ _ body
  | .setCacheMode _ _ body | .lockPaths _ _ body | .purgeCache _ _ body | .readCache _ _ body
  | .trackClear _ _ body | .readTracking _ _ body | .writeRoute _ _ body | .swapGroup _ _ body
  | .readRoutes _ _ body | .readRunout _ _ body | .clearRunout _ _ body | .openStack _ _ body
  | .drainStack _ _ body | .closeStack _ _ body | .clearStackFault _ _ body | .clearStack _ _ body
  | .setStackCapacity _ _ body | .setStackAccess _ _ body | .readStack _ _ body | .setLineMode _ _ body
  | .setLineExec _ _ body | .writeSteps _ _ body | .readSteps _ _ body | .setStepPointer _ _ body
  | .clearLineFault _ _ body | .readLineStatus _ _ body | .signalLine _ _ body | .draw _ _ body
  | .cancelDraw _ _ body | .closePanel _ _ body | .takePanel _ _ body | .peekPanel _ _ body => bodyFits body
  | .unknownCode _ code _ body => bodyFits body && !isRequestCode code
  | .crcDiscard _ code tag body crc => bodyFits body && crc != requestCrc code tag body
  | .lengthAbove250 _ length => decide (Config.maxBody < length.toNat)
  | .decisionPoint n | .approach n | .gate n | .runOut n => isSheetNumber n
  | .recordExpired _ | .mergeEvent _ | .guWalkRead _ | .portAccessGrant | .encoderCount | .convRunAssert
  | .convRunDeassert | .encoderStall | .landing _ | .missedLanding _ | .lineStarved _ | .pickDone _ | .pickEmpty _
  | .pickTimeout _ | .stepBegin _ | .byteGapTimeout _ | .answerSent _ | .estopAssert | .estopRelease | .resetN
  | .leadByteWhileHunting _ | .resetNRelease => true

end Sys2Proof
end

