-- ==== Sys2Proof/Tests/Slice0.lean ====
section
/-!
SUPPORT. The author's own tests: ill-formed commands that the check refuses, worked examples of the manual (each names
its section), and for every statement with hypotheses a state and operands that meet them, clause by clause.
-/

set_option maxRecDepth 20000

namespace Sys2Proof.Tests

open Sys2Proof.Machine

/-! ## Well-formedness -/

theorem test_body_of_251_bytes_refused : (Instr.readNotices .pg 0 (List.replicate 251 0)).wellFormed = false := by decide
theorem test_unknown_code_that_is_known_refused : (Instr.unknownCode .pg 0x08 0 []).wellFormed = false := by decide
theorem test_unknown_code_of_251_bytes_refused :
    (Instr.unknownCode .pg 0xEE 0 (List.replicate 251 0)).wellFormed = false := by decide
theorem test_discard_with_right_crc_refused :
    (Instr.crcDiscard .pa 0x08 7 [] (requestCrc 0x08 7 [])).wellFormed = false := by decide
theorem test_discard_of_251_bytes_refused :
    (Instr.crcDiscard .pa 0x08 7 (List.replicate 251 0) 0).wellFormed = false := by decide
theorem test_length_250_refused : (Instr.lengthAbove250 .pb 250).wellFormed = false := by decide
theorem test_sheet_0_refused : (Instr.decisionPoint 0).wellFormed = false := by decide
theorem test_sheet_65536_refused : (Instr.gate 65536).wellFormed = false := by decide
theorem test_well_formed_commands : [Instr.readNotices .pg 0 (List.replicate 250 0), .lengthAbove250 .pb 251,
    .decisionPoint 65535, .unknownCode .pg 0xEE 0 [], .crcDiscard .pa 0x08 7 [] 0].all Instr.wellFormed = true := by
  decide

/-! ## Small states -/

/-- The state after a command. -/
def after (i : Instr) (s : State) : State :=
  match exec i s with
  | .next t => t
  | .fault _ => s
  | .refused _ => s

/-- The status and body of the answer being sent on a port. -/
def answerOf (s : State) (p : Port) : List Byte := ((((s.port p).sending.getD []).drop 4).dropLast).dropLast

/-- A graded record of lane 1. -/
def sheetOf (n : Nat) (c : Option SheetClass) : SheetRecord :=
  { number := n, lane := .lane1, slot := .slot0, species := some 2, thickness := some 2650, moisture := some 64,
    width := some 1270, length := some 2540,
    defects := [⟨0, .field, 20⟩, ⟨1, .field, 12⟩, ⟨2, .field, 150⟩], flags := {}, fault := none,
    status := if c.isSome then .graded else .waiting, cls := c, gapsAfter := 0, thickClass := none,
    round := 0 }

def entryOf (n d : Nat) (c : Option SheetClass) (k : Option StackId) (x : DropState) : TrackEntry :=
  { sheet := sheetOf n c, distance := d, stack := k, drop := x, decided := x != .noDrop }

def withEntries (es : List TrackEntry) (s : State) : State := s.setTracking { s.tracking with queue := es }
def withStack (k : StackId) (f : Stack → Stack) (s : State) : State := s.setStack k (f (s.stack k))
def withLine (l : Line) (f : LineState → LineState) (s : State) : State := s.setLine l (f (s.line l))
def withQueue (l : Lane) (es : List IntakeEntry) (s : State) : State := s.setLane l { s.lane l with queue := es }

/-- A line in RUN that picks from a stack for a PLY step; the stack holds the given records. -/
def picking (k : StackId) (inv : List SheetRecord) (s : State) : State :=
  withStack k (fun x => { x with state := .opened, inventory := inv, holder := some .a, lastGrant := some .a })
    (withLine .a (fun y =>
      { y with mode := .run, exec := .run, activity := .picking, step := some .walk, pickTimer := some 3000,
               pickReq := some k, pattern := y.pattern.set 0 (.ply 3 .face .best),
               draw := some { grades := 3, pref := .best, role := .face, origin := .ply, stack := some k } }) s)

/-- Line B waits for a stack top with a grade set. -/
def waitingB (k : StackId) (g : GradeSet) (s : State) : State :=
  withStack k (fun x => { x with waiters := x.waiters.set .b (some g) })
    (withLine .b (fun y =>
      { y with mode := .direct, activity := .waitingTop,
               draw := some { grades := g, pref := .best, role := .core, origin := .direct, stack := some k } }) s)

/-- A line starved in DIRECT with a starve timer. -/
def starved (l : Line) (n : Nat) (s : State) : State :=
  withLine l (fun y =>
    { y with mode := .direct, activity := .starved, starveTimer := some n,
             draw := some { grades := 2, pref := .best, role := .core, origin := .direct, stack := none } }) s

def s0 : State := State.reset

/-! ## The link and the codes -/

/-- The check value of this CRC over the digits 1 to 9 is 29B1h. -/
theorem test_crc_check_value : crcWord [0x31, 0x32, 0x33, 0x34, 0x35, 0x36, 0x37, 0x38, 0x39] = 0x29B1 := by decide

theorem test_no_word_spells_a_command : decodeTableWord 16 0x1234 = none := rfl

/-! ## Grading (2.6, 2.7) -/

/-- The species cell of 2.6: base 1000, step 400, count 6. -/
def species26 : Cell16 := #v[1, 1, 1, 0x2C, 6, 0x03, 0xE8, 0x01, 0x90, 0, 0, 0, 0, 0, 0, 0]

/-- The thickness cell and limit cells of 2.6. -/
def path26 : PathCopy :=
  { thickCell := 304, lim1Cell := 600, lim2Cell := 601,
    thick := #v[2, 1, 0x02, 0x58, 0, 100, 0, 30, 0, 0, 0, 0, 0, 0, 0, 0],
    lim1 := #v[3, 0x62, 0x01, 0, 0, 20, 0, 0, 0, 0, 60, 2, 0, 50, 0, 0],
    lim2 := #v[4, 0, 120, 4, 0, 200, 0x01, 0x2C, 8, 0x02, 0x58, 0x03, 0x84, 16, 0x07, 0xD0] }

theorem test_thickness_class_2_6 : (thicknessClass (some 2650) species26).toOption = some 4 := by decide
theorem test_thickness_3400_2_7 : (thicknessClass (some 3400) species26).toOption = none := by decide
theorem test_figures_2_6 : (defectScore path26.lim1 (sheetOf 417 none).defects,
    defectDensity 262 (1270 * 2540), openCount (sheetOf 417 none).defects, openSize (sheetOf 417 none).defects)
    = (262, 81, 2, 150) := by decide
theorem test_grade_2_6 : computeResult (sheetOf 417 none) 4 path26 =
    { cls := .g3, status := .graded, fault := none, overdry := false, noMoisture := false, thickClass := some 4 } := by
  decide +kernel
theorem test_wet_sheet_2_7 : (computeResult { sheetOf 417 none with moisture := some 105 } 4 path26).cls = .redry := by
  decide +kernel
theorem test_adjustments_2_7 : (computeResult { sheetOf 417 none with
    moisture := some 25, flags := { defectsOmitted := true } } 4 path26).cls = .g4 := by decide
theorem test_saturated_score_2_7 : defectDensity 65535 (1600 * 3200) = 12799 ∧ defectDensity 6000 (200 * 400) = 65535 := by
  decide
theorem test_edge_halving_2_7 :
    defectScore path26.lim1 [⟨2, .edge, 151⟩, ⟨2, .edge, 151⟩] = 150 ∧ openSize [⟨2, .edge, 151⟩] = 151 := by decide

/-! ## Intake (1.10) -/

/-- A sheet of lane 1 with no defects, as SUBMIT SHEET's body. -/
def body110 : List Byte := [1, 15, 0, 0, 0x0A, 0x5A, 0, 64, 0x04, 0xF6, 0x09, 0xEC]

/-- Lane 1 with the eight records 201 to 208, the last with the given gaps. -/
def lane110 (gaps : Nat) : State :=
  withQueue .lane1 ((List.range 8).map fun i =>
    { sheet := { sheetOf (201 + i) (some .g3) with gapsAfter := if i = 7 then gaps else 0 }, age := 800 - 100 * i })
    (s0.setIntake { s0.intake with counter := 209, current := .slot1 })

theorem test_overrun_1_10 :
    let t := after (.submitSheet .pg 5 body110) (lane110 0)
    answerOf t .pg = [Status.overrun.code] ∧ t.intake.counter = 209 ∧
      ((t.lane .lane1).queue.map fun e => (e.sheet.number, e.sheet.gapsAfter)).getLast? = some (208, 1) := by decide

theorem test_merge_1_10 :
    let t := after (.mergeEvent .lane1) (lane110 1)
    (t.lane .lane1).queue.length = 7 ∧ (t.lane .lane1).gaps = 0 ∧ t.tracking.queue.map (·.sheet.number) = [201] := by
  decide

theorem test_expiry_1_10 :
    let t := after (.recordExpired .lane1) (withQueue .lane1
      [{ sheet := { sheetOf 208 (some .g3) with gapsAfter := 1 }, age := 4000 }] s0)
    (t.lane .lane1).queue = [] ∧ (t.lane .lane1).gaps = 1 ∧ (t.port .pb).notices.getLsbD 2 = true := by decide

/-! ## Tracking, routing and stacks (5.11, 6.7, 7.8) -/

/-- G2 goes to S2, then S5, in group 1; both are OPEN. -/
def mill67 : State :=
  let s := s0.setRouting { s0.routing with routes := s0.routing.routes.set 1 ⟨some 2, some 5, 1⟩ }
  withStack 2 (fun x => { x with state := .opened, capacity := 60, inventory := List.replicate 57 (sheetOf 1 (some .g2)),
                                 allocated := 2 })
    (withStack 5 (fun x => { x with state := .opened }) s)

theorem test_decision_fills_stack_6_7 :
    let t := after (.decisionPoint 700) (withEntries [entryOf 700 1500 (some .g2) none .noDrop] mill67)
    (t.stack 2).allocated = 3 ∧ t.tracking.queue.map (·.stack) = [some 2] ∧
      (t.port .pg).notices.getLsbD Notice.stackFull.number = true := by decide

theorem test_swapped_decision_6_7 :
    let s := withEntries [entryOf 702 1500 (some .g2) none .noDrop] mill67
    let t := after (.decisionPoint 702) (after (.swapGroup .pg 1 [1, 1]) s)
    t.tracking.queue.map (·.stack) = [some 5] := by decide

theorem test_gate_while_pick_holds_5_11 :
    let s := picking 2 [sheetOf 611 (some .g2)] (withStack 2 (fun x => { x with allocated := 2, reservations := 1 })
      (withEntries [entryOf 612 6600 (some .g2) (some 2) .reserved] s0))
    let t := after (.gate 612) s
    t.tracking.queue.map (·.drop) = [.abandoned] ∧ (t.stack 2).allocated = 1 ∧ (t.stack 2).reservations = 0 ∧
      (t.port .pa).notices.getLsbD Notice.dropAbandoned.number = true ∧ (t.stack 2).holder = some .a := by decide

theorem test_gate_fires_5_11 :
    let s := withStack 2 (fun x => { x with state := .opened, allocated := 1, reservations := 1 })
      (withEntries [entryOf 613 6600 (some .g2) (some 2) .reserved] s0)
    let t := after (.gate 613) s
    t.tracking.queue = [] ∧ (t.stack 2).falling.map (·.sheet.number) = [613] ∧ t.sk.gatePulses[2] = 1 := by decide

/-- Both lines wait at S3 while sheet 820 falls: A for grades 3 and 4, B for grade 2; B had the last grant. -/
def top78 : State :=
  waitingB 3 2 (withStack 3 (fun x => { x with
      state := .opened, inventory := [sheetOf 791 (some .g2)], allocated := 1, lastGrant := some .b,
      falling := [⟨sheetOf 820 (some .g3), 0⟩], waiters := ⟨some 12, none⟩ })
    (withLine .a (fun y => { y with
      mode := .direct, activity := .waitingTop,
      draw := some { grades := 12, pref := .best, role := .core, origin := .direct, stack := some 3 } }) s0))

theorem test_landing_grants_A_7_8 :
    let t := after (.landing 3) top78
    (t.stack 3).holder = some .a ∧ (t.stack 3).waiters = ⟨none, some 2⟩ ∧ (t.line .a).activity = .picking ∧
      (t.stack 3).allocated = 0 ∧ (t.stack 3).inventory.map (·.number) = [820, 791] := by decide

theorem test_pick_done_grants_B_7_8 :
    let t := after (.pickDone .a) (after (.landing 3) top78)
    (t.stack 3).holder = some .b ∧ (t.line .b).activity = .picking ∧ (t.line .a).openPanel.map (·.sheet.number) = [820] ∧
      (t.line .a).lastDraw = some .done := by decide

theorem test_fixed_B_withdraws_B_7_8 :
    let t := after (.landing 3) (top78.setSk { top78.sk with priority := .fixedB })
    (t.stack 3).holder = some .a ∧ (t.stack 3).waiters.a = none := by decide

/-! ## Sequencers (8.9) -/

theorem test_repeat_loads_and_jumps_8_9 :
    let s := withLine .a (fun y => { y with
      mode := .run, exec := .run, pointer := 3, pattern := y.pattern.set 3 (.loop 1 1) }) s0
    let t := after (.stepBegin .a) s
    (t.line .a).pointer = 1 ∧ (t.line .a).counters[3] = some 0 ∧ (after (.stepBegin .a) (withLine .a (fun y => { y with
      pointer := 3 }) t)).lines.line.a.pointer = 4 := by decide

theorem test_signal_ends_await_8_9 :
    let s := withLine .b (fun y => { y with
      mode := .run, exec := .run, activity := .awaiting, step := some .walk, pattern := y.pattern.set 0 (.await ⟨0, 0, 0⟩) }) s0
    let t := after (.signalLine .pg 1 [1]) s
    (t.line .b).activity = .idle ∧ (t.line .b).pointer = 1 ∧ (t.line .b).latch = false := by decide

/-! ## Witnesses: the hypotheses of the statements, clause by clause

Each theorem names its statement and gives a state and operands that meet the hypotheses of each clause, at a boundary
value where the clause has one. -/

/-- A state in which a port takes a frame. -/
theorem ready_of {s : State} {p : Port} (h : s.pins.resetHeld = false) (m : s.midFrame p = false)
    (n : (s.port p).pending = none) : Ready s p := ⟨⟨h, m⟩, n⟩

theorem ready0 (p : Port) : Ready s0 p := by cases p <;> exact ready_of rfl rfl rfl

/-- The state while RESET_N is held. -/
def held : State := after .resetN s0

/-- Entry 5 stands at the decision point and entry 4 at the run-out, neither taken. -/
def owed : State := withEntries [entryOf 4 21000 none none .abandoned, entryOf 5 1500 (some .g2) none .noDrop] s0

theorem witness_IdleStepPassesOneMillisecond :
    (owed.pending = [] ∧ owed.tracks = true ∧ (owing owed).length = 2 ∧ owed.tracking.geometry.valid = true) ∧
    s0.pending = [] ∧ s0.pins.resetHeld = false ∧ (s0.tracks = true → owing s0 = []) ∧
      held.pending = [] ∧ held.pins.resetHeld = true ∧ (s0.port .pa).receiver = .hunting ∧
      ((s0.setPort .pa { s0.port .pa with receiver := .receiving [0] 50 }).port .pa).receiver = .receiving [0] 50 := by
  decide

theorem witness_ResetReturnsEveryBlock :
    held.pins.resetHeld = true ∧ s0.pins.resetHeld = false ∧ held.tracking.state = .running ∧
      Instr.encoderCount ≠ .resetN ∧ Instr.encoderCount ≠ .resetNRelease ∧ Instr.encoderCount ≠ .estopAssert ∧
      Instr.encoderCount ≠ .estopRelease ∧ Instr.encoderCount ≠ .convRunAssert ∧
      Instr.encoderCount ≠ .convRunDeassert := by decide

/-- A walk whose next reads are cells 2046 and 2047, and a read of cell 2047 in the port path. -/
def tableState : State :=
  let job : GradingJob :=
    { number := 5, round := 0, code := 2, slotHeld := some .slot0, descriptor := ⟨100, 12, false⟩, species := some ⟨102, species26⟩,
      thickClass := some 4, walk := .limits1 304 path26.thick 2046, abandoned := false }
  let s := s0.setTables { mem := Memory.setCell [] 2047 species26, roots := ⟨some ⟨100, 12, false⟩, none⟩,
                          lastGrant := .port, portPath := [⟨.pg, Code.readCell, 1, .read 2047⟩] }
  ((s.setJob .lane1 (some job)).setPort .pg { s.port .pg with pending := some ⟨Code.readCell, 1⟩ }).withPending
    [.guWalkRead .lane1]

theorem witness_TablesSoundKept : TablesSound tableState ∧ ∃ t, step tableState = .next t := by
  refine ⟨⟨by decide, ?_, ?_⟩, _, rfl⟩
  · intro u j h
    cases u
    · obtain rfl : _ = j := Option.some.inj h
      show 2046 + 1 < 2048
      decide
    · cases h
  · intro q h
    obtain rfl : q = ⟨.pg, Code.readCell, 1, .read 2047⟩ := List.mem_singleton.mp h
    show 2047 < 2048
    decide

theorem witness_SoundTablesMeetNoStop : TablesSound tableState := witness_TablesSoundKept.1

/-- RC1 in SPLIT with a locked entry; RC2 in OFF with a full path buffer. -/
def cacheState : State :=
  let b : BufferEntry := { origin := 100, code := 2, index := 4, species := ⟨102, species26⟩, path := path26 }
  (s0.setCache .lane1 { mode := .split, buffer := [], entries :=
    [{ body := .species (some 100) 2 ⟨102, species26⟩, locked := true },
     { body := .path 300 4 path26, locked := false }] }).setCache .lane2
    { mode := .off, entries := [], buffer := [b, { b with code := 3 }] }

theorem witness_CachesSoundKept : CachesSound cacheState ∧ ∃ t, step cacheState = .next t := by
  refine ⟨?_, _, rfl⟩
  intro u
  cases u <;> exact ⟨by decide, by decide, by decide, by decide, by decide, by decide, by decide⟩

theorem witness_BoundedKept : Bounded (lane110 15) ∧ ∃ t, step (lane110 15) = .next t := by
  refine ⟨?_, _, rfl⟩
  constructor
  · intro l; cases l <;> decide
  · intro l; cases l <;> decide
  · intro l; cases l <;> decide
  · intro l; cases l <;> decide
  · decide
  · decide
  · decide
  · intro l; cases l <;> decide
  · intro l; cases l <;> decide
  · intro l; cases l <;> decide
  · intro q
    cases q
    case gate k => revert k; decide
    all_goals decide
  · decide
  · intro p; cases p <;> decide
  · intro p; cases p <;> decide

theorem witness_PendingSoundKept : PendingSound tableState ∧ ∃ t, step tableState = .next t := by
  refine ⟨⟨?_, by decide, ?_, ?_⟩, _, rfl⟩
  · intro q h
    obtain rfl : q = ⟨.pg, Code.readCell, 1, .read 2047⟩ := List.mem_singleton.mp h
    decide
  · intro p h
    cases p
    · exact ⟨⟨.pg, Code.readCell, 1, .read 2047⟩, by decide, rfl⟩
    · exact absurd rfl h
    · exact absurd rfl h
  · intro q rest h
    have : (⟨.pg, Code.readCell, 1, .read 2047⟩ : PathRequest) = q := (List.cons.inj h).1
    subst this
    decide

/-- S2, full, with an entry ALLOCATED, an entry RESERVED, a falling record and one in the inventory. -/
def claimState : State :=
  withStack 2 (fun x => { x with
      state := .opened, capacity := 4, allocated := 3, reservations := 1, falling := [⟨sheetOf 9 (some .g2), 7⟩],
      inventory := [sheetOf 1 (some .g2)] })
    (withEntries [entryOf 7 6300 (some .g2) (some 2) .reserved, entryOf 8 2000 (some .g2) (some 2) .allocated] s0)

theorem witness_ClaimsSoundKept : ClaimsSound claimState ∧ ∃ t, step claimState = .next t := by
  refine ⟨⟨?_, ?_, ?_, ?_, ?_⟩, _, rfl⟩ <;> decide

/-- Line A picks from S2, and line B waits there. -/
def topState : State := waitingB 2 2 (picking 2 [sheetOf 611 (some .g2)] s0)

theorem witness_TopsSoundKept : TopsSound topState ∧ ∃ t, step topState = .next t := by
  refine ⟨?_, _, rfl⟩
  constructor
  · intro l
    cases l <;> constructor <;> first | decide | (intro h; cases h)
  · intro k l
    cases l <;> revert k <;> decide
  · intro k l g
    cases l
    · constructor
      · intro h
        revert h
        revert k
        decide +revert
      · rintro ⟨h, -⟩
        cases h
    · constructor
      · intro h
        by_cases hk : k = 2
        · subst hk
          obtain rfl : _ = g := Option.some.inj h
          exact ⟨rfl, _, rfl, rfl, rfl⟩
        · exfalso
          revert hk h
          revert k
          decide +revert
      · rintro ⟨-, d, hd, hk, hg⟩
        obtain rfl : _ = d := Option.some.inj hd
        obtain rfl : _ = k := Option.some.inj hk
        subst hg
        rfl
  · intro k l
    cases l
    · intro h
      obtain rfl : k = 2 := by revert h; revert k; decide
      exact ⟨rfl, _, rfl, by decide⟩
    · intro h
      exfalso; revert h; revert k; decide
  · intro k l
    cases l <;> revert k <;> decide
  · decide
  · intro h
    exact absurd h (by decide)

theorem witness_NoGrantUnderEstop :
    let s := (picking 2 [sheetOf 611 (some .g2)] s0).setPins { s0.pins with estop := true }
    s.estop = true ∧ ∃ t, exec (.answerSent .pg) s = .next t ∧ (t.stack 2).holder = some .a := ⟨rfl, _, rfl, rfl⟩

theorem witness_OnlyOwnPortProgramsLine :
    Instr.signalLine .pb 1 [0] ≠ .resetN ∧ (Instr.signalLine .pb 1 [0]).port ≠ some (ownPort .a) ∧
      ∃ t, exec (.signalLine .pb 1 [0]) s0 = .next t := ⟨by decide, by decide, _, rfl⟩

theorem witness_WrittenCellReadsBack : Memory.wf [] = true ∧ 2047 < Config.cellCount ∧ (2046 : Nat) ≠ 2047 := by decide

/-- Port PA has a request pending. -/
def busyPA : State := s0.setPort .pa { s0.port .pa with pending := some ⟨Code.readCell, 1⟩ }

theorem witness_PortRefusesBeforeItsBlocks :
    (Listening busyPA .pa ∧ (busyPA.port .pa).pending ≠ none ∧
      (Instr.readRoots .pa 1 []).frame = some ⟨.pa, Code.readRoots, 1, []⟩) ∧
    (Ready s0 .pa ∧ Ready s0 .pg ∧ isRequestCode 0xEE = false) ∧
    ((Instr.setLineMode .pg 1 [0, 1]).frame = some ⟨.pg, Code.setLineMode, 1, [0, 1]⟩ ∧
      isLineRequest Code.setLineMode = true ∧ lineOf (0 : Byte).toNat = some .a ∧ Port.pg ≠ ownPort .a) ∧
    ((Instr.takePanel .pa 1 []).frame = some ⟨.pa, Code.takePanel, 1, []⟩ ∧ isLineRequest Code.takePanel = true ∧
      lineOf (2 : Byte).toNat = none) :=
  ⟨⟨⟨rfl, rfl⟩, by decide⟩, ⟨ready0 _, ready0 _, by decide⟩, by decide, by decide⟩

theorem witness_WrongLengthIsBadRequest :
    ((Instr.draw .pa 1 [0, 1, 0]).frame = some ⟨.pa, Code.draw, 1, [0, 1, 0]⟩ ∧ bodyLength Code.draw = some 4 ∧
      notOwner .pa [0, 1, 0] = false) ∧
    ((Instr.readRoots .pg 1 [0]).frame = some ⟨.pg, Code.readRoots, 1, [0]⟩ ∧ bodyLength Code.readRoots = some 0 ∧
      isLineRequest Code.readRoots = false) ∧
    ([1, 2, 3] : List Byte).length < 4 ∧ (body110.dropLast).length ≠ 12 + 3 * byteAt body110.dropLast 3 ∧
    ([0, 0, 1, 2] : List Byte).length ≠ 3 + 2 * byteAt [0, 0, 1, 2] 2 ∧
    (notOwner .pb [1, 0, 17] = false ∧ 16 < byteAt [1, 0, 17] 2) ∧ byteAt [1, 0, 0] 2 < 1 := by decide

/-- A receiver of port PA in a given state. -/
def receiving (bytes : List Byte) (gap : Nat) : State :=
  s0.setPort .pa { s0.port .pa with receiver := .receiving bytes gap }

theorem witness_ReceiverTakesBytes :
    s0.pins.resetHeld = false ∧ (s0.port .pa).receiver = .hunting ∧
    ((receiving [0] 51).port .pa).receiver = .receiving [0] 51 ∧
    ((receiving [0] 50).port .pa).receiver = .receiving [0] 50 ∧
    (((receiving [] 50).port .pa).receiver = .receiving [] 50 ∧ 250 < (251 : Byte).toNat) ∧
    ((250 : Byte).toNat ≤ 250 ∧ ([7, 8, 9] : List Byte).length + 2 < (1 : Byte).toNat + 5) ∧
    (0 : BitVec 16) ≠ requestCrc 0x08 7 [] ∧
    ((Instr.readNotices .pa 0x99 []).frame = some ⟨.pa, Code.readNotices, 0x99, []⟩ ∧
      crcBytes (requestCrc Code.readNotices 0x99 []) = [0x57, 0xA5] ∧
      ((receiving [0, 0x08, 0x99, 0x57] 50).port .pa).receiver =
        .receiving (b8 0 :: Code.readNotices :: 0x99 :: ([] : List Byte) ++ [0x57]) 50) ∧
    ((0xA4 : Byte) ≠ 0xA5 ∧ (250 : Byte).toNat ≤ 250 ∧ ([] : List Byte).length + 2 < (0 : Byte).toNat + 5) ∧
    (crcBytes (requestCrc Code.readNotices 0x99 []) ≠ [0x57, 0xA4] ∧ (251 : Byte) ≠ 0xA5) ∧
    s0.midFrame .pa = false ∧ ((receiving [0] 50).midFrame .pa = true ∧ (receiving [0] 51).midFrame .pa = false) ∧
    receiveBytes .pa [0xA5] s0 = .next (receiving [] 0) := by
  refine ⟨by decide, by decide, by decide, by decide, by decide, by decide, by decide, by decide, by decide, by decide,
    by decide, by decide, rfl⟩

/-- An A5h that is the last byte of a frame completes it, and leaves the port hunting (R174). -/
theorem test_lead_byte_completes_frame :
    let t := after (.leadByteWhileHunting .pa) (receiving [0, 0x08, 0x99, 0x57] 50)
    (t.port .pa).receiver = .hunting ∧ answerOf t .pa = answerOf (after (.readNotices .pa 0x99 []) s0) .pa ∧
      (t.port .pa).sending ≠ none := by decide

/-- The bytes of a request that comes in the middle of a partial frame of 40 are that frame's data (R174). -/
theorem test_request_inside_partial_frame_is_data :
    let t := after (.readNotices .pa 0x99 []) (receiving [40] 50)
    (t.port .pa).receiver = .receiving [40, 0xA5, 0, 0x08, 0x99, 0x57, 0xA5] 0 ∧ (t.port .pa).sending = none := by decide

/-- A partial frame that has waited more than 50 ms gives way to the next one (R174). -/
theorem test_request_after_gap_is_taken :
    let t := after (.readNotices .pa 0x99 []) (receiving [40] 51)
    (t.port .pa).receiver = .hunting ∧ (t.port .pa).sending ≠ none := by decide

theorem witness_TransmitterKeepsOrder :
    s0.pins.resetHeld = false ∧ (s0.port .pa).sending = none ∧
    ((after (.readRoots .pa 1 []) s0).port .pa).sending ≠ none ∧
    ((after (.readRoots .pa 1 []) s0).port .pa).waiting.length < 8 ∧ Port.pb ≠ .pa ∧
    (let x := { s0.port .pa with sending := some [1], waiting := List.replicate 8 [2] }
     x.sending = some [1] ∧ 8 ≤ x.waiting.length) := by decide

theorem witness_NoticeRequestsActOnOwnPort : Ready s0 .pb ∧ ([] : List Byte).length ≠ 4 ∧ ([1] : List Byte).length ≠ 0 :=
  ⟨ready0 _, by decide, by decide⟩

theorem witness_SetParameterSetsOneValue :
    Ready s0 .pg ∧ paramOf 0x1E = none ∧
    (paramOf 0x01 = some .ageLimit ∧ 99 < Param.ageLimit.range.1 ∧ Param.ageLimit.range.2 < 60001) ∧
    (paramOf 0x10 = some .decision ∧ s0.tracking.queue = [] ∧
      ((Param.decision.geometry 2599 s0.tracking.geometry).map Geometry.valid) = some true ∧
      ((Param.decision.geometry 2600 s0.tracking.geometry).map Geometry.valid) = some false ∧
      (withEntries [entryOf 1 0 none none .noDrop] s0).tracking.queue ≠ []) ∧
    (∀ l e, e ∈ ((withQueue .lane1 [⟨sheetOf 1 none, 99⟩] s0).lane l).queue → e.age < 100) ∧
    (paramOf 0x20 = some .landingLimit ∧ ∀ k f, f ∈ (claimState.stack k).falling → f.timer < 50) ∧
    (paramOf 0x21 = some .priority ∧ PickPriority.rotating.code = 2) ∧
    (paramOf 0x30 = some .pickLimit ∧ ∀ l n, (topState.line l).pickTimer = some n → n < 3001) ∧
    (paramOf 0x31 = some .starveLimit ∧ ∀ l n, ((starved .b 7 s0).line l).starveTimer = some n → n < 8) ∧
    (paramOf 0x1D = some .stallLimit ∧ s0.tracking.stallLimit ≠ 0 ∧ s0.tracking.stallTimer = none ∧
      (let t := after (.setParameter .pg 1 [0x1D, 0, 0]) (after .convRunAssert s0)
       t.tracking.stallLimit = 0 ∧ t.tracking.state = .running ∧ t.pins.convRun = true) ∧
      (after (.setParameter .pg 1 [0x1D, 0, 0]) s0).pins.convRun = false) ∧
    (let v := (3 : Byte).toNat * 256 + (32 : Byte).toNat
     100 ≤ v ∧ v ≤ 60000 ∧ 1 ≤ v ∧ v ≤ 5000 ∧ 50 ≤ v ∧ v ≤ 2000 ∧ 200 ≤ v ∧ v ≤ 20000) := by
  refine ⟨ready0 _, by decide, by decide, by decide, ?_, ⟨by decide, by decide⟩, by decide, ⟨by decide, ?_⟩,
    ⟨by decide, ?_⟩, by decide, by decide⟩
  · intro l; cases l <;> decide
  · intro l n h
    cases l
    · obtain rfl : 3000 = n := Option.some.inj h
      decide
    · cases h
  · intro l n h
    cases l
    · cases h
    · obtain rfl : 7 = n := Option.some.inj h
      decide

/-- A lower age limit expires at once the records that have reached it: of 800 ms to 100 ms, those from 300 ms on (R10). -/
theorem test_lower_age_limit_expires_at_once :
    let t := after (.setParameter .pg 1 [0x01, 0x01, 0x2C]) (lane110 1)
    (t.lane .lane1).queue.map (·.age) = [200, 100] ∧ answerOf t .pg = Status.ok.code :: [0x0F, 0xA0] := by decide

/-- A lower starve limit is noticed at once (R160). -/
theorem test_lower_starve_limit_notices_at_once :
    let t := after (.setParameter .pg 1 [0x31, 0, 7]) (starved .b 7 s0)
    (t.line .b).starveNoted = true ∧ (t.port .pb).notices.getLsbD (Notice.lineStarved .b).number = true := by decide

/-- The root slot 0 of 2.6's tables, and a job on GU1. -/
def rooted : State :=
  s0.setTables { s0.tables with roots := ⟨some ⟨2032, 16, false⟩, none⟩ }

def jobOf (w : Walk) (abandoned : Bool) : GradingJob :=
  { number := 417, round := 0, code := 2, slotHeld := some .slot0, descriptor := ⟨2032, 16, false⟩, species := some ⟨2034, species26⟩,
    thickClass := some 4, walk := w, abandoned := abandoned }

/-- Sheet 417 in intake as its grading runs. -/
def inGrading : IntakeEntry := { sheet := { sheetOf 417 none with status := .grading }, age := 5 }

def grading (w : Walk) (abandoned : Bool) : State :=
  withQueue .lane1 [inGrading] (rooted.setJob .lane1 (some (jobOf w abandoned)))

theorem witness_SubmitSheetAcceptsOrOverruns :
    Ready s0 .pg ∧ (4 ≤ body110.length ∧ body110.length = 12 + 3 * byteAt body110 3) ∧
    (laneOf 0 = none ∧ laneOf 3 = none ∧ laneOf (byteAt body110 0) = some .lane1 ∧ byteAt body110 1 ≤ 15 ∧
      byteAt body110 3 ≤ 24) ∧
    (let s := grading (.species 2034) false
     (s.lane .lane1).queue.length < 8 ∧ s.job .lane1 ≠ none) ∧
    (s0.job .lane1 = none ∧ worklistLength .lane1 s0 = 0 ∧ s0.tables.roots.get s0.intake.current = none ∧
      ∀ e, e ∈ (s0.lane .lane1).queue → e.sheet.number = s0.intake.counter → e.sheet.status ≠ .grading) ∧
    (rooted.tables.roots.get rooted.intake.current = some ⟨2032, 16, false⟩ ∧
      (rooted.cache .lane1).lookupSpecies ⟨2032, 16, false⟩ (byteAt body110 1) = none ∧ byteAt body110 1 < 16 ∧
      2032 + byteAt body110 1 ≤ 2047) ∧
    (8 ≤ ((lane110 14).lane .lane1).queue.length ∧ ∃ older e, ((lane110 14).lane .lane1).queue = older ++ [e] ∧
      e.sheet.gapsAfter = 14) := by
  refine ⟨ready0 _, by decide, by decide, by decide, by decide, by decide, by decide,
    ((lane110 14).lane .lane1).queue.dropLast, ((lane110 14).lane .lane1).queue.getLast (by decide), by decide, by decide⟩

/-- RC1 holds both levels of species 2 under the root at 2032. -/
def cached : State :=
  rooted.setCache .lane1 { mode := .normal, buffer := [], entries :=
    [{ body := .species (some 2032) 2 ⟨2034, species26⟩, locked := false },
     { body := .path 300 4 path26, locked := false }] }

/-- The part of the statement about gradeNext: records that wait in tracking and in intake, and each way one begins. -/
theorem witness_SubmitSheetAcceptsOrOverruns_begins :
    let e := entryOf 417 10 none none .noDrop
    let there := withEntries ([entryOf 416 10 (some .g2) none .noDrop] ++ e :: []) rooted
    let here := withQueue .lane1 ([⟨sheetOf 416 (some .g2), 9⟩] ++ ⟨sheetOf 417 none, 5⟩ :: []) rooted
    (there.job .lane1 = none ∧ e.sheet.lane = .lane1 ∧ e.sheet.status = .waiting ∧ e.sheet.cls = none ∧
      (entryOf 416 10 (some .g2) none .noDrop).sheet.status ≠ .waiting) ∧
    (here.job .lane1 = none ∧ here.tracking.queue = [] ∧ (sheetOf 416 (some .g2)).status ≠ .waiting ∧
      (sheetOf 417 none).status = .waiting ∧ ∀ y, y ∈ (here.lane .lane1).queue → y.sheet.status ≠ .grading) ∧
    (tableState.job .lane1 ≠ none ∧ worklistLength .lane1 s0 = 0) ∧
    (s0.tables.roots.get .slot0 = none ∧ rooted.tables.roots.get .slot0 = some ⟨2032, 16, false⟩) ∧
    (∀ d, d ∈ [(⟨2046, 2, false⟩ : Descriptor), ⟨2046, 3, true⟩, ⟨2045, 3, false⟩] →
      (s0.cache .lane1).lookupSpecies d 2 = none) ∧ (2 ≤ 2 ∧ 2 < 3 ∧ 2047 < 2046 + 2 ∧ 2045 + 2 ≤ 2047) ∧
    ((cached.cache .lane1).lookupSpecies ⟨2032, 16, false⟩ 2 = some ⟨2034, species26⟩ ∧
      (thicknessClass (some 3400) species26).toOption = none ∧ (thicknessClass (some 2650) species26).toOption = some 4 ∧
      (cached.cache .lane1).lookupPath ⟨2032, 16, false⟩ 2 species26 4 = some path26 ∧
      (s0.cache .lane1).lookupPath ⟨2032, 16, false⟩ 2 species26 4 = none ∧ 0x012C + 4 ≤ 2047 ∧ 2047 < 0x07FC + 4) := by
  refine ⟨by decide, by decide, by decide, by decide, by decide, by decide, by decide⟩

/-- A sheet in the cache is graded in the event that submits it, and the next one begins with it (R24 to R28). -/
theorem test_cached_sheets_are_graded_at_once :
    let t := gradeNext .lane1 (withQueue .lane1 [⟨sheetOf 417 none, 5⟩, ⟨sheetOf 418 none, 0⟩] cached)
    (t.lane .lane1).queue.map (·.sheet.cls) = [some .g3, some .g3] ∧ t.job .lane1 = none := by decide +kernel

theorem witness_ResyncAndExpiryRemoveRecords :
    (Ready s0 .pg ∧ laneOf (3 : Byte).toNat = none ∧ laneOf (2 : Byte).toNat = some .lane2) ∧
    (∀ e, e ∈ ((lane110 1).lane .lane1).queue → e.sheet.lane = .lane1) ∧ (lane110 1).job .lane1 = none ∧
    (let s := grading (.species 2034) false
     s.job .lane1 = some (jobOf (.species 2034) false) ∧ inGrading ∈ (s.lane .lane1).queue ∧
      inGrading.sheet.number = 417 ∧ inGrading.sheet.status = .grading ∧ inGrading.sheet.cls = none ∧
      inGrading.sheet.lane = .lane1) ∧
    (let s := withQueue .lane1 [⟨sheetOf 208 (some .g3), 4000⟩] s0
     s.pins.resetHeld = false ∧ (s.lane .lane1).queue = [⟨sheetOf 208 (some .g3), 4000⟩] ∧ s.intake.ageLimit ≤ 4000) ∧
    ((withQueue .lane1 [⟨sheetOf 208 (some .g3), 3999⟩] s0).lane .lane1).queue = [⟨sheetOf 208 (some .g3), 3999⟩] ∧
    s0.job (sheetOf 1 none).lane = none := by
  refine ⟨⟨ready0 _, by decide, by decide⟩, ?_⟩
  decide

theorem witness_MergeHandsOneSheetOver :
    s0.pins.resetHeld = false ∧ 0 < ((s0.setLane .lane2 ⟨[], 1⟩).lane .lane2).gaps ∧
    ((lane110 1).lane .lane1).gaps = 0 ∧ (∃ e rest, ((lane110 1).lane .lane1).queue = e :: rest) ∧
    (s0.lane .lane1).gaps = 0 ∧ (s0.lane .lane1).queue = [] := ⟨rfl, by decide, rfl, ⟨_, _, rfl⟩, rfl, rfl⟩

theorem witness_ClassTestsAndPathResult :
    (1 ≤ species26[4].toNat ∧ species26[4].toNat ≤ 8 ∧ species26[7].toNat * 256 + species26[8].toNat ≠ 0) ∧
    999 < species26[5].toNat * 256 + species26[6].toNat ∧
    (1000 ≤ 3399 ∧ 5 * 400 ≤ 3399 - 1000 ∧ 3399 - 1000 < (5 + 1) * 400 ∧ 5 < species26[4].toNat) ∧
    (6 * 400 ≤ 3400 - 1000 ∧ 3400 - 1000 < (6 + 1) * 400 ∧ species26[4].toNat ≤ 6) ∧
    ((species26.set 4 0)[4].toNat < 1 ∧ 8 < (species26.set 4 9)[4].toNat) ∧
    (let redry := path26.thick[4].toNat * 256 + path26.thick[5].toNat
     ({ sheetOf 1 none with flags := { badDefect := true } }).flags.badDefect = true ∧
     ((sheetOf 1 none).flags.badDefect = false ∧ redry < 101) ∧
     (∀ m, some 100 = some m → m ≤ redry) ∧ ∀ m, (none : Option Nat) = some m → m ≤ redry) := by decide

theorem witness_GradeFromDefectFigures :
    (1 ≤ 1 ∧ 5 ≤ 5 ∧ computedGrade (sheetOf 417 none) path26 = 3) ∧
    (∀ d, d ∈ (sheetOf 417 none).defects → d.kind ≤ 5) ∧ 0 < 1270 * 2540 ∧
      ∃ d, d ∈ (sheetOf 417 none).defects ∧ (d.kind = 1 ∨ d.kind = 2 ∨ d.kind = 3) := by
  refine ⟨⟨by decide, by decide, by decide +kernel⟩, by decide, by decide, by decide⟩

/-- The tables of 2.6 in memory, below a root at cell 2032. -/
def tables26 (s : State) : State :=
  let m := ((((Memory.setCell [] 2034 species26).setCell 304 path26.thick).setCell 600 path26.lim1).setCell 601 path26.lim2)
  s.setTables { s.tables with mem := m }

/-- The record of sheet 417 has gone from its lane to tracking while its grading runs. -/
def pendingInTracking (s : State) : State :=
  withEntries [{ entryOf 417 10 none none .noDrop with sheet := inGrading.sheet }] (s.setLane .lane1 ⟨[], 0⟩)

theorem witness_WalkReadAdvancesGrading :
    (s0.pins.resetHeld = false ∧ arbiterNext s0 ≠ some (unitRequester .lane1)) ∧
    (let s := tables26 (grading (.thickness 304) false)
     let x := s.tables.mem.cell 304
     arbiterNext s = some (unitRequester .lane1) ∧ s.job .lane1 = some (jobOf (.thickness 304) false) ∧ x[0] = 2 ∧
      x[1].getLsbD 0 = true ∧ x[2].toNat * 256 + x[3].toNat + 1 ≤ 2047) ∧
    (let s := tables26 (grading (.limits1 304 path26.thick 600) false)
     s.job .lane1 = some (jobOf (.limits1 304 path26.thick 600) false) ∧ (s.tables.mem.cell 600)[0] = 3) ∧
    (let s := tables26 (grading (.species 2034) false)
     let x := s.tables.mem.cell 2034
     let formed := (s.cache .lane1).form (.species (some 2032) 2 ⟨2034, x⟩)
     let path := (cacheState.cache .lane1).form (.species (some 2032) 2 ⟨2034, x⟩)
     arbiterNext s = some (unitRequester .lane1) ∧ x[0] = 1 ∧ x[1].getLsbD 0 = true ∧ worklistLength .lane1 s = 0 ∧
      (recordInGrading .lane1 417 s).map (·.number) = some 417 ∧ (thicknessClass (some 2650) x).toOption = some 4 ∧
      (thicknessClass (some 3400) x).toOption = none ∧ x[2].toNat * 256 + x[3].toNat + 4 ≤ 2047 ∧
      2047 < (0x07 : Byte).toNat * 256 + (0xFC : Byte).toNat + 4 ∧
      formed.lookupPath ⟨2032, 16, false⟩ 2 x 4 = none ∧ path.lookupPath ⟨2032, 16, false⟩ 2 x 4 = some path26) ∧
    (∀ abandoned, let s := grading (.species 2034) abandoned
     worklistLength .lane1 s = 0 ∧ (∃ f, (Walk.species 2034).feed (s.tables.mem.cell 2034) = .fault f) ∧
      (s.lane .lane1).queue = [] ++ inGrading :: []) ∧
    (let s := pendingInTracking (grading (.species 2034) false)
     arbiterNext s = some (unitRequester .lane1) ∧ worklistLength .lane1 s = 0 ∧ (s.lane .lane1).queue = [] ∧
      s.tracking.queue = [] ++ { entryOf 417 10 none none .noDrop with sheet := inGrading.sheet } :: [] ∧
      inGrading.sheet.lane = .lane1 ∧ inGrading.sheet.number = 417 ∧ inGrading.sheet.status = .grading ∧
      inGrading.sheet.cls = none) ∧
    (∀ abandoned, let w := Walk.limits2 304 path26.thick 600 path26.lim1 601
     let s := tables26 (grading w abandoned)
     worklistLength .lane1 s = 0 ∧ (s.tables.mem.cell 601)[0] = 4 ∧ (s.cache .lane1).mode ≠ .off ∧
      (cacheState.cache .lane2).mode = .off ∧ 2 ≤ (cacheState.cache .lane2).buffer.length ∧
      (jobOf w abandoned).species = some ⟨2034, species26⟩ ∧ (jobOf w abandoned).thickClass = some 4 ∧
      (s.lane .lane1).queue = [] ++ inGrading :: []) := by
  refine ⟨by decide, by decide, by decide, by decide, ?_, by decide, ?_⟩
  · intro abandoned
    cases abandoned <;> exact ⟨by decide, ⟨_, rfl⟩, rfl⟩
  · intro abandoned
    cases abandoned <;> exact ⟨by decide, by decide, by decide, by decide, by decide, rfl, rfl, rfl⟩

/-- A unit that ends its grading begins the record that waits behind it in the same event (R25, R36). -/
theorem test_walk_end_begins_next_record :
    let s := tables26 (grading (.limits2 304 path26.thick 600 path26.lim1 601) false)
    let t := after (.guWalkRead .lane1) (withQueue .lane1 [inGrading, ⟨sheetOf 418 none, 0⟩] s)
    (t.lane .lane1).queue.map (·.sheet.status) = [.graded, .grading] ∧ (t.job .lane1).map (·.number) = some 418 := by
  decide +kernel

theorem witness_ArbiterServesEachInTurn :
    let s := tableState
    isWaiting s .gu1 = true ∧ arbiterNext s = some .gu1 ∧ isWaiting s .port = true ∧ Requester.gu1 ≠ .port ∧
    (let t := (s.setTables { s.tables with lastGrant := .gu1 }).setJob .lane2 (some (jobOf (.species 2034) false))
     t.tables.lastGrant = .gu1 ∧ isWaiting t .port = true ∧ arbiterNext t = some .gu2 ∧
      (t.setTables { t.tables with lastGrant := .gu2 }).tables.lastGrant = .gu2) ∧
    (isWaiting rooted .gu1 = false ∧ isWaiting (grading (.species 2034) false) .gu1 = true) := by decide

/-- WRITE CELL's body: cell 2047, with zero content; and PROBE PATH's and LOCK PATHS' bodies. -/
def writeBody : List Byte := [0x07, 0xFF] ++ List.replicate 16 0
def probeBody : List Byte := [0, 2, 0x0A, 0x5A, 0, 1]
def lockBody : List Byte := [0, 0, 1, 15, 7]

theorem witness_TableRequestsJoinPortPath :
    Ready s0 .pg ∧ HeadTaken s0.tables.portPath ∧ HeadTaken tableState.tables.portPath ∧ Ready tableState .pa ∧
      tableState.tables.portPath ≠ [] ∧
    (writeBody.length = 18 ∧ wordAt writeBody 0 ≤ 2047 ∧ byteAt writeBody 2 ≤ 4 ∧ 2047 < wordAt [8, 0] 0 ∧
      wordAt [7, 255] 0 ≤ 2047) ∧
    (let b : List Byte := writeBody ++ List.replicate 16 4 ++ [2]
     b.length = 35 ∧ wordAt b 0 ≤ 2047 ∧ byteAt b 2 ≤ 4 ∧ byteAt b 18 ≤ 4 ∧ scopeOf (byteAt b 34) = some .both) ∧
    (scopeOf (byteAt [7, 255, 1] 2) = some .gu2 ∧ 2 < byteAt [7, 255, 3] 2) ∧
    (∃ a : ProbeArgs, probeBody.length = 6 ∧ slotOf (byteAt probeBody 0) = some a.slot ∧ byteAt probeBody 1 = a.code ∧
      a.code ≤ 15 ∧ probeThickness (wordAt probeBody 2) = some a.thickness ∧ unitOf (byteAt probeBody 4) = some a.unit ∧
      yesNo (byteAt probeBody 5) = some a.useCache ∧ 9999 < 10000 ∧ 10000 ≠ 0xFFFF) ∧
    (∃ a : LockArgs, lockBody.length = 3 + 2 * byteAt lockBody 2 ∧ unitOf (byteAt lockBody 0) = some a.unit ∧
      slotOf (byteAt lockBody 1) = some a.slot ∧ byteAt lockBody 2 = a.paths.length ∧ 1 ≤ a.paths.length ∧
      a.paths.length ≤ 8 ∧ ∀ i, i < a.paths.length →
        a.paths[i]? = some (byteAt lockBody (3 + 2 * i), byteAt lockBody (4 + 2 * i)) ∧
        byteAt lockBody (3 + 2 * i) ≤ 15 ∧ byteAt lockBody (4 + 2 * i) ≤ 7) ∧
    (1 < byteAt [2, 0, 1, 0, 0] 0 ∧ byteAt [0, 0, 0] 2 < 1 ∧ 15 < byteAt [0, 0, 1, 16, 0] (3 + 2 * 0)) := by
  refine ⟨ready0 _, ?_, witness_PendingSoundKept.1.taken, ready_of rfl rfl rfl, by decide, by decide, by decide, by decide,
    ⟨{ slot := .slot0, code := 2, thickness := some 2650, unit := .lane1, useCache := true }, by decide⟩,
    ⟨{ unit := .lane1, slot := .slot0, paths := [(15, 7)] }, by decide⟩, by decide⟩
  intro q rest h
  cases h

theorem witness_ProbeAndLockAreTakenAtHead :
    Ready s0 .pg ∧ s0.tables.portPath = [] ∧ Ready cached .pg ∧ cached.tables.portPath = [] ∧
    (∃ a, checkProbePath probeBody = .ok (.probe a none) ∧ a.slot = .slot0 ∧ a.code = 2 ∧ a.useCache = true ∧
      a.unit = .lane1 ∧ a.thickness = some 2650) ∧
    s0.tables.roots.get .slot0 = none ∧ rooted.tables.roots.get .slot0 = some ⟨2032, 16, false⟩ ∧
    ((rooted.cache .lane1).lookupSpecies ⟨2032, 16, false⟩ 2 = none ∧ 15 < 16 ∧ 2032 + 15 ≤ 2047) ∧
    ((cached.cache .lane1).lookupSpecies ⟨2032, 16, false⟩ 2 = some ⟨2034, species26⟩ ∧
      (thicknessClass (some 2650) species26).toOption = some 4 ∧
      (cached.cache .lane1).lookupPath ⟨2032, 16, false⟩ 2 species26 4 = some path26) ∧
    (∃ a, checkLockPaths lockBody = .ok (.lock a none) ∧ a.slot = .slot0 ∧ a.paths = (15, 7) :: []) := by
  refine ⟨ready0 _, rfl, ready_of rfl rfl rfl, rfl, ⟨_, rfl, rfl, rfl, rfl, rfl, rfl⟩, rfl, rfl, by decide, by decide,
    ⟨_, rfl, rfl, rfl⟩⟩

/-- The part of the statement about takeHead: a head taken before, a PROBE PATH and a LOCK PATHS to take, with the probe's
cases as in witness_SubmitSheetAcceptsOrOverruns_begins, and paths that end before an access. -/
theorem witness_ProbeAndLockAreTakenAtHead_takeHead :
    (tableState.tables.portPath.head?.bind (·.work.cell)) = some 2047 ∧
    (∀ a : ProbeArgs, (PathRequest.mk .pg Code.probePath 1 (.probe a none)).work = .probe a none ∧
      (TableWork.probe a none).cell = none) ∧
    (∀ a : LockArgs, (TableWork.lock a none).cell = none) ∧
    (let early := fun x : Nat × Nat => 2 ≤ x.1 ∨ 2047 < 2046 + x.1
     (∀ x, x ∈ [(2, 0), (15, 7)] → early x) ∧
     ([(2, 0), (1, 3), (0, 1)] = [(2, 0)] ++ (1, 3) :: [(0, 1)] ∧ (∀ x, x ∈ [(2, 0)] → early x) ∧ ¬ early (1, 3))) ∧
    (1 < 2 ∧ 2047 < 2047 + 1) := by
  refine ⟨by decide, fun a => ⟨rfl, rfl⟩, fun a => rfl, by decide, by decide⟩

/-- A PROBE PATH that waited behind another request is taken as that one leaves, and answered if no root is there (R51). -/
theorem test_waiting_probe_is_taken_as_head_leaves :
    let s := tableState.setJob .lane1 none
    let s := s.setTables { s.tables with roots := ⟨none, none⟩ }
    let t := after .portAccessGrant (after (.probePath .pa 7 probeBody) s)
    t.tables.portPath = [] ∧ (t.port .pa).pending = none ∧ answerOf t .pa =
      Status.ok.code :: probeBytes { fault := some .noRoot } := by decide

/-- A port path whose only request, of PG, does the given work. -/
def working (w : TableWork) : State :=
  tables26 ((s0.setTables { s0.tables with portPath := [⟨.pg, Code.readCell, 1, w⟩] }).setPort .pg
    { s0.port .pg with pending := some ⟨Code.readCell, 1⟩ })

def probeRun : ProbeRun :=
  { descriptor := ⟨2032, 16, false⟩, report := {}, walk := .limits2 304 path26.thick 600 path26.lim1 601 }

def lockRun : LockRun :=
  { descriptor := ⟨2032, 16, false⟩, results := [], code := 2, index := 4, rest := [], species := none,
    walk := .species 2034 }

theorem witness_PortAccessServesHead :
    s0.pins.resetHeld = false ∧ arbiterNext s0 ≠ some .port ∧
    (∀ w, arbiterNext (working w) = some .port ∧ (working w).tables.portPath = ⟨.pg, Code.readCell, 1, w⟩ :: [] ∧
      HeadTaken [] ∧ 2047 < 2048) ∧
    ((working (.read 304)).tables.mem.cell 304 = path26.thick ∧ path26.thick ≠ species26) ∧
    (((working (.read 304)).tables.mem.cell 304)[0] = 2 ∧ ((working (.read 304)).tables.mem.cell 600)[0] ≠ 1 ∧
      ((working (.read 304)).tables.mem.cell 600)[0] ≠ 2) ∧
    (probeRun.walk = .limits2 304 path26.thick 600 path26.lim1 601 ∧
      ((working (.read 304)).tables.mem.cell 601)[0] = 4 ∧ (s0.tables.mem.cell 601)[0] ≠ 4) ∧
    (lockRun.walk = .species 2034 ∧ lockRun.rest = [] ∧ (s0.tables.mem.cell 2034)[0] ≠ 1) := by
  refine ⟨rfl, by decide, ?_, by decide, by decide, by decide, by decide⟩
  intro w
  refine ⟨rfl, rfl, ?_, by decide⟩
  intro q rest h
  cases h

/-- A run of PROBE PATH and one of LOCK PATHS with a given next read. -/
def probeAt (w : Walk) : TableWork :=
  .probe { slot := .slot0, code := 2, thickness := some 2650, unit := .lane1, useCache := true } (some { probeRun with walk := w })
def lockAt (w : Walk) (rest : List (Nat × Nat)) : TableWork :=
  .lock { unit := .lane1, slot := .slot0, paths := [(2, 4)] }
    (some { lockRun with walk := w, rest := rest, species := some ⟨2034, species26⟩ })

theorem witness_ProbeAndLockWalksGoOn :
    (∀ w, (working w).pins.resetHeld = false ∧ arbiterNext (working w) = some .port ∧
      (working w).tables.portPath = ⟨.pg, Code.readCell, 1, w⟩ :: [] ∧ HeadTaken [] ∧ 2034 < 2048) ∧
    (let m := (working (probeAt (.species 2034))).tables.mem
     let x := m.cell 2034
     let y := m.cell 304
     (s0.tables.mem.cell 2034)[0] ≠ 1 ∧ (x[0] = 1 ∧ x[1].getLsbD 0 = true ∧ (x.set 1 0)[1].getLsbD 0 = false) ∧
     ((thicknessClass (some 2650) x).toOption = some 4 ∧ (thicknessClass (some 3400) x).toOption = none ∧
       (cached.cache .lane1).lookupPath ⟨2032, 16, false⟩ 2 x 4 = some path26 ∧
       (s0.cache .lane1).lookupPath ⟨2032, 16, false⟩ 2 x 4 = none ∧ x[2].toNat * 256 + x[3].toNat + 4 ≤ 2047) ∧
     (y[0] = 2 ∧ y[1].getLsbD 0 = true ∧ y[2].toNat * 256 + y[3].toNat + 1 ≤ 2047) ∧ (m.cell 600)[0] = 3 ∧
     (m.cell 601)[0] = 4 ∧ 2047 < (0x07 : Byte).toNat * 256 + (0xFF : Byte).toNat + 1 ∧
     (1 ≤ x[4].toNat ∧ x[4].toNat ≤ 8 ∧ x[8] ≠ 0 ∧ 5 < x[4].toNat ∧ x[4].toNat ≤ 6)) ∧
    ((∀ x, x ∈ ([] : List (Nat × Nat)) → 16 ≤ x.1 ∨ 2047 < 2032 + x.1) ∧ ¬ (16 ≤ 15 ∨ 2047 < 2032 + 15) ∧
      (let after := (cacheState.cache .lane1).lockEntry (.path 300 4 path26)
       after.mode = .split ∧
        (∃ e, e ∈ after.entries ∧ e.locked = true ∧ e.body.tag = (CacheBody.species (some 100) 2 ⟨102, species26⟩).tag) ∧
        ∃ e, e ∈ after.entries ∧ e.locked = true ∧ e.body.tag = (CacheBody.path 300 4 path26).tag)) := by
  refine ⟨?_, by decide, by decide⟩
  intro w
  refine ⟨rfl, rfl, rfl, ?_, by decide⟩
  intro q rest h
  cases h

/-- A probe's first read finds the species cell and waits for the thickness cell (R57, R60). -/
theorem test_probe_waits_for_thickness_cell :
    let t := after .portAccessGrant (working (probeAt (.species 2034)))
    t.tables.portPath.map (fun q => q.work.cell) = [some 304] ∧ (t.port .pg).sending = none := by decide

theorem witness_EditPurgesAndLocksByRows :
    let x := cacheState.cache .lane1
    let full : RuleCache := { x with
      entries := (List.range 8).map fun i => { body := .species (some 100) i ⟨100, species26⟩, locked := true } }
    (x.mode = .split ∧ (s0.cache .lane1).mode ≠ .split) ∧
    (∃ e, e ∈ x.entries ∧ e.locked = true ∧ e.body.tag = .species 100 2) ∧
    (∀ e, e ∈ x.entries → e.locked = true → e.body.tag ≠ (CacheBody.path 300 4 path26).tag) ∧ x.lockedCount < 8 ∧
    (8 ≤ full.lockedCount ∧ ∀ e, e ∈ full.entries → e.locked = true → e.body.tag ≠ (CacheBody.path 300 4 path26).tag) := by
  decide

theorem witness_CacheFormsAndFindsByTag :
    let x := cacheState.cache .lane1
    let full : RuleCache := { s0.cache .lane1 with
      entries := (List.range 16).map fun i => { body := .path 300 i path26, locked := false } }
    ((cacheState.cache .lane2).mode = .off ∧ x.mode ≠ .off) ∧
    (∃ e, e ∈ x.entries ∧ e.body.tag = (CacheBody.path 300 4 path26).tag) ∧
    ((∀ e, e ∈ x.entries → e.body.tag ≠ (CacheBody.path 300 5 path26).tag) ∧ x.entries.countP (fun e => !e.locked) < 8) ∧
    (16 ≤ full.entries.countP (fun e => !e.locked) ∧
      (∀ e, e ∈ full.entries → e.body.tag ≠ (CacheBody.path 301 0 path26).tag) ∧
      ∃ e newer, full.entries = [] ++ e :: newer ∧ e.locked = false) ∧
    (∃ e newer, x.entries = [] ++ e :: newer ∧ e.body = .species (some 100) 2 ⟨102, species26⟩ ∧ 2 < 12) ∧
    (∃ e, [({ body := .species none 2 ⟨102, species26⟩, locked := false } : CacheEntry)] = [] ++ e :: [] ∧
      e.body = .species none 2 ⟨102, species26⟩ ∧ e.body.tag ≠ .species 100 2) ∧
    (∃ older e, x.entries = older ++ e :: [] ∧ (∀ y, y ∈ older → y.body.tag ≠ .path 300 4) ∧ e.body = .path 300 4 path26) ∧
    (∀ e, e ∈ x.entries → e.body.tag ≠ .path 300 5) ∧
    (let b := (cacheState.cache .lane2).buffer
     (∃ older e, b = older ++ e :: [] ∧ e.origin = 100 ∧ e.code = 3 ∧ e.index = 4 ∧ ∀ y, y ∈ older → y.code ≠ 3) ∧
      (∃ older newer, b = [older, newer]) ∧ b.length = 2 ∧ (∀ e, e ∈ b → e.code ≠ 4) ∧ (b.drop 1).length < 2) := by
  refine ⟨by decide, by decide, by decide, ⟨by decide, by decide, _, _, rfl, rfl⟩, ⟨_, _, rfl, rfl, by decide⟩,
    ⟨_, rfl, rfl, by decide⟩, ⟨[_], _, rfl, by decide, rfl⟩, by decide, ⟨[_], _, rfl, rfl, rfl, rfl, by decide⟩,
    ⟨_, _, rfl⟩, by decide, by decide, by decide⟩

theorem witness_RootRequestsKeepUsedSlots :
    Ready s0 .pg ∧ 1 < (2 : Byte).toNat ∧ slotOf (1 : Byte).toNat = some .slot1 ∧ (16 : Byte).toNat ≤ 16 ∧
    (16 < (17 : Byte).toNat ∧ (0 : Byte).toNat < 1) ∧ s0.intake.current ≠ .slot1 ∧
    (∀ l e, e ∈ (s0.lane l).queue → e.sheet.slot ≠ .slot1) ∧
    (∃ l e, e ∈ ((withQueue .lane1 [⟨{ sheetOf 1 none with slot := .slot1 }, 0⟩] s0).lane l).queue ∧
      e.sheet.slot = .slot1 ∧ e.sheet.status = .waiting ∧ e.sheet.cls = none) ∧
    s0.tables.roots.get (otherSlot s0.intake.current) = none ∧
    (let s := rooted.setIntake { rooted.intake with current := .slot1 }
     s.tables.roots.get (otherSlot s.intake.current) = some ⟨2032, 16, false⟩) := by
  refine ⟨ready0 _, by decide, rfl, by decide, by decide, by decide, ?_, ⟨.lane1, _, List.mem_singleton.mpr rfl, rfl, rfl, rfl⟩, rfl, rfl⟩
  intro l; cases l <;> decide

theorem witness_CacheRequestsActOnNamedCaches :
    Ready cacheState .pg ∧ 2 < (3 : Byte).toNat ∧ ((1 : Byte).toNat ≠ 0 ∧ (1 : Byte).toNat ≠ 2) ∧
      scopeOf (2 : Byte).toNat = some .both ∧ 1 < (2 : Byte).toNat ∧ yesNo (1 : Byte).toNat = some true :=
  ⟨ready_of rfl rfl rfl, by decide, by decide, rfl, by decide, rfl⟩

/-- Sheet 417, decided LATE with its abandoned grading still in flight, at the run-out. -/
def lateEntry : TrackEntry :=
  { sheet := { sheetOf 417 (some .regrade) with status := .grading, flags := { late := true } }, distance := 21000,
    stack := none, drop := .noDrop, decided := true }
def lateAtRunOut : State := withEntries [lateEntry] (rooted.setJob .lane1 (some (jobOf (.species 2034) true)))

theorem witness_EncoderApproachAndRunOutMoveEntries :
    let s := withEntries [entryOf 5 20999 none none .abandoned, entryOf 7 6200 (some .g2) (some 2) .allocated] s0
    let t := withEntries [entryOf 5 21000 none none .abandoned, entryOf 7 6200 (some .g2) (some 2) .allocated] s0
    let g := s0.tracking.geometry
    s0.pins.resetHeld = false ∧ s0.tracking.state = .running ∧ owing s0 = [] ∧
    (s.tracking.queue = [entryOf 5 20999 none none .abandoned] ++ entryOf 7 6200 (some .g2) (some 2) .allocated :: [] ∧
      6200 + g.window = g.gates[(2 : StackId)]) ∧
    (t.tracking.queue = [] ++ entryOf 5 21000 none none .abandoned :: [entryOf 7 6200 (some .g2) (some 2) .allocated] ∧
      21000 = g.runOut) ∧
    (∀ e, e ∈ s.tracking.queue → e.sheet.number ≠ 6) ∧
    (s.setTracking { s.tracking with state := .faulted }).tracking.state = .faulted ∧
    (lateAtRunOut.job .lane1 = some (jobOf (.species 2034) true) ∧
      lateAtRunOut.tracking.queue = [] ++ lateEntry :: [] ∧ lateEntry.sheet.lane = .lane1 ∧
      lateEntry.sheet.number = 417 ∧ lateEntry.sheet.status = .grading ∧ 21000 = g.runOut) ∧
    ((grading (.species 2034) false).job .lane1 = some (jobOf (.species 2034) false) ∧ (417 : Nat) ≠ 5) ∧
    (owed.tracking.geometry.valid = true ∧ owed.tracking.state = .running ∧ (owing owed).length = 2 ∧
      (∀ e y, e ∈ owed.tracking.queue → y ∈ owed.tracking.queue → y.sheet.number = e.sheet.number → y = e)) ∧
    (let x := withEntries [entryOf 7 6200 (some .g2) (some 2) .allocated, entryOf 6 6600 (some .g2) (some 2) .reserved] s0
     (owing x).length = 2 ∧ x.tracking.geometry.valid = true) := by
  refine ⟨by decide, by decide, by decide, by decide, by decide, by decide, by decide, by decide, by decide,
    ⟨by decide, by decide, by decide, ?_⟩, by decide⟩
  intro e y he hy
  simp only [owed, withEntries, State.setTracking, List.mem_cons, List.not_mem_nil, or_false] at he hy
  rcases he with rfl | rfl <;> rcases hy with rfl | rfl <;> decide

/-- What a count still owes is taken before the next one: the entry decided is S2's (R88). -/
theorem test_encoder_count_takes_what_is_owed :
    let t := after .encoderCount (withEntries [entryOf 5 1500 (some .g2) none .noDrop] mill67)
    t.tracking.queue.map (fun e => (e.distance, e.stack)) = [(1501, some 2)] := by decide

/-- A LATE record that CLEAR STACK, a panel dropped at a full queue or TAKE PANEL takes away gives up the root slot of its
abandoned grading, whose walk goes on (R39, R120, R169, R172). -/
theorem test_discards_give_up_slot :
    let r := lateEntry.sheet
    let s := withEntries [] lateAtRunOut
    let stacked := withStack 2 (fun x => { x with inventory := [r] }) s
    let open_ := withLine .a (fun x => { x with openPanel := [⟨r, 2, .core⟩] }) s
    let full := withLine .a (fun x => { x with mode := .run, panelQueue := List.replicate 4 ⟨1, .a, .complete, []⟩ }) open_
    let held := fun t => slotInUse .slot0 t
    let cleared := after (.clearStack .pg 1 [2]) stacked
    let off := after (.setLineMode .pa 1 [0, 0])
    let taken := after (.takePanel .pa 1 [0]) (withLine .a (fun x => { x with
      panelQueue := [⟨1, .a, .complete, [⟨r, 2, .core⟩]⟩] }) s)
    held s = true ∧ held stacked = true ∧ held cleared = false ∧ (cleared.job .lane1).map (·.abandoned) = some true ∧
      held (off (withLine .a (fun x => { x with mode := .run }) open_)) = true ∧ held (off full) = false ∧
      held taken = false := by decide

/-- Number 65535 is followed by 1 in the next round (R4). -/
theorem test_number_65535_ends_round :
    let s := s0.setIntake { s0.intake with counter := 65535 }
    let t := after (.mergeEvent .lane2) (after (.mergeEvent .lane1) s)
    t.tracking.queue.map (fun e => (e.sheet.number, e.sheet.round)) = [(65535, 0), (1, 1)] ∧ t.intake.round = 1 := by decide

/-- An old LATE record of a number given again keeps its hands off the slot of the new one, in every discard (R4, R39). -/
theorem test_old_record_of_same_number_frees_no_slot :
    let r := { lateEntry.sheet with round := 1 }
    let stacked := withStack 2 (fun x => { x with inventory := [r] }) lateAtRunOut
    let taken := withLine .a (fun x => { x with panelQueue := [⟨1, .a, .complete, [⟨r, 2, .core⟩]⟩] }) lateAtRunOut
    slotInUse .slot0 (after (.clearStack .pg 1 [2]) stacked) = true ∧
      slotInUse .slot0 (after (.takePanel .pa 1 [0]) taken) = true := by decide

/-- What the clauses on several records ask: one of a grading in flight, and one of an abandoned grading. -/
theorem witness_GivesUp :
    (let s := grading (.species 2034) false
     (sheetOf 417 none).lane = .lane1 ∧ s.job .lane1 = some (jobOf (.species 2034) false) ∧
      inGrading.sheet.number = 417 ∧ inGrading.sheet.status = .grading ∧ inGrading.sheet.cls = none) ∧
    (lateAtRunOut.job .lane1 = some (jobOf (.species 2034) true) ∧ lateEntry.sheet.cls ≠ none ∧
      lateEntry.sheet.status = .grading ∧ (jobOf (.species 2034) true).abandoned = true ∧
      (jobOf (.species 2034) true).round = lateEntry.sheet.round) := by decide

/-- A record discarded at the run-out gives up the root slot of its abandoned grading (R39). -/
theorem test_run_out_gives_up_slot :
    slotInUse .slot0 lateAtRunOut = true ∧ slotInUse .slot0 (after (.runOut 417) lateAtRunOut) = false ∧
      (after (.runOut 417) lateAtRunOut).job .lane1 ≠ none := by decide

theorem witness_DecisionAssignsFirstEligibleStack :
    let s := withEntries [entryOf 700 1500 (some .g2) none .noDrop] mill67
    let full := withStack 2 (fun x => { x with allocated := 3 }) s
    (s.pins.resetHeld = false ∧ s.tracking.state = .running ∧
      s.tracking.queue = [] ++ entryOf 700 1500 (some .g2) none .noDrop :: [] ∧ 1500 = s.tracking.geometry.decision) ∧
    (s.routing.routes[SheetClass.g2.code].primary = some 2 ∧ (s.stack 2).state = .opened ∧
      (s.stack 2).inventory.length + (s.stack 2).allocated < (s.stack 2).capacity) ∧
    (¬ (full.stack 2).inventory.length + (full.stack 2).allocated < (full.stack 2).capacity ∧
      full.routing.routes[SheetClass.g2.code].alternate = some 5 ∧ (full.stack 5).state = .opened ∧
      (full.stack 5).inventory.length + (full.stack 5).allocated < (full.stack 5).capacity) ∧
    (s0.routing.routes[SheetClass.g1.code].primary = none ∧ s0.routing.routes[SheetClass.g1.code].alternate = none) ∧
    (∀ e, e ∈ s.tracking.queue → e.sheet.number ≠ 701) := by decide

theorem witness_GateFiresOrAbandonsDrop :
    let e := entryOf 613 6600 (some .g2) (some 2) .reserved
    let base := withEntries [e] s0
    let opened := withStack 2 (fun x => { x with state := .opened, allocated := 1, reservations := 1 }) base
    let last := withStack 2 (fun x => { x with state := .drain, allocated := 1, reservations := 1, holder := some .a }) base
    (opened.pins.resetHeld = false ∧ opened.tracking.state = .running ∧ opened.tracking.queue = [] ++ e :: [] ∧
      6600 = opened.tracking.geometry.gates[(2 : StackId)] ∧ (opened.stack 2).holder = none ∧
      (opened.stack 2).falling.length < 2) ∧
    ((base.stack 2).state = .closed ∧ Unwatched base) ∧
    ((last.stack 2).holder ≠ none ∧ (last.stack 2).state = .drain ∧ (last.stack 2).inventory = [] ∧
      (last.stack 2).allocated - 1 = 0) ∧
    ∀ x, x ∈ base.tracking.queue → x.sheet.number ≠ 612 := by
  refine ⟨by decide, ⟨by decide, by decide, ?_⟩, by decide, by decide⟩
  intro l; cases l <;> decide

theorem witness_ConveyorRunDrivesStallTimerToItsStall :
    let s := s0.setTracking { s0.tracking with stallTimer := some 800 }
    (s0.pins.convRun = false ∧ (after .convRunAssert s0).pins.convRun = true ∧ s0.pins.resetHeld = false ∧
      s0.tracking.state = .running ∧ s0.tracking.stallLimit ≠ 0 ∧ held.pins.resetHeld = true) ∧
    (s.pins.resetHeld = false ∧ s.tracking.state = .running ∧ s.tracking.stallLimit ≠ 0 ∧
      s.tracking.stallTimer = some 800 ∧ s.tracking.stallLimit ≤ 800) ∧ s0.tracking.stallTimer = none := by decide

theorem witness_TrackClearReleasesEveryClaim :
    let s := (grading (.species 2034) false).setTracking { s0.tracking with
      queue := [{ entryOf 417 10 none none .noDrop with sheet := inGrading.sheet }] }
    Ready s .pg ∧ s.job .lane1 = some (jobOf (.species 2034) false) ∧
      (∃ e, e ∈ s.tracking.queue ∧ e.sheet.lane = .lane1 ∧ e.sheet.number = 417 ∧ e.sheet.status = .grading ∧
        e.sheet.cls = none) ∧ ∀ e, e ∈ s0.tracking.queue → e.sheet.number ≠ 417 :=
  ⟨ready_of rfl rfl rfl, rfl, ⟨_, List.mem_singleton.mpr rfl, rfl, rfl, rfl, rfl⟩, by decide⟩

theorem witness_RoutingRequestsSetTableSwapAndCount :
    Ready s0 .pg ∧ ([0, 0] : List Byte).length ≠ 3 ∧ 7 < (8 : Byte).toNat ∧
      (9 < (0xFA : Byte).toNat % 16 ∧ (0xFA : Byte).toNat % 16 ≠ 15) ∧ 3 < (4 : Byte).toNat ∧ ([0] : List Byte).length ≠ 2 ∧
      1 < (2 : Byte).toNat ∧ s0.routing.swaps[(3 : Fin 4)] = false ∧ s0.routing.routes[SheetClass.g1.code].group = 0 ∧
      ([0] : List Byte) ≠ [] := ⟨ready0 _, by decide⟩

theorem witness_StackStateAndAccessRequests :
    let inState := fun st : StackState => withStack 9 (fun x => { x with state := st }) s0
    Ready s0 .pg ∧ 9 < (10 : Byte).toNat ∧ stackOf (9 : Byte).toNat = some 9 ∧
    (∀ st, Ready (inState st) .pg ∧ ((inState st).stack 9).state = st ∧ ((inState st).stack 9).inventory = [] ∧
      ((inState st).stack 9).allocated = 0) ∧
    (claimState.stack 2).inventory ≠ [] ∧ Unwatched s0 ∧
    (Ready topState .pg ∧ 3 < (4 : Byte).toNat ∧ (⟨true, false⟩ : PerLine Bool).get .b = false ∧
      (topState.stack 2).holder = some .a) := by
  refine ⟨ready0 _, by decide, rfl, ?_, by decide, ⟨by decide, ?_⟩, ready_of rfl rfl rfl, by decide, rfl, rfl⟩
  · intro st
    exact ⟨ready_of rfl rfl rfl, rfl, rfl, rfl⟩
  · intro l; cases l <;> decide

theorem witness_ClearAndCapacityRequests :
    let s := withStack 9 (fun x => { x with falling := [⟨sheetOf 9 (some .g2), 7⟩] }) s0
    let t := withStack 9 (fun x => { x with state := .faulted }) s0
    Ready s .pg ∧ ([] : List Byte).length ≠ 1 ∧ 9 < (10 : Byte).toNat ∧ (s.stack 9).state = .closed ∧
      (s.stack 9).holder = none ∧ (s.stack 9).falling = ⟨sheetOf 9 (some .g2), 7⟩ :: [] ∧ Ready t .pg ∧
      (t.stack 9).state = .faulted ∧ Ready claimState .pg ∧ ([] : List Byte).length ≠ 3 ∧
    (let x := claimState.stack 2
     3 < x.inventory.length + x.allocated ∧ x.inventory.length + x.allocated = 4 ∧
      x.inventory.length + x.allocated < 400 ∧ x.state = .opened ∧ 400 < (401 : Nat)) :=
  ⟨ready_of rfl rfl rfl, by decide, by decide, rfl, rfl, rfl, ready_of rfl rfl rfl, rfl, ready_of rfl rfl rfl, by decide,
    by decide⟩

theorem witness_LandingJoinsInventory :
    let f : Falling := ⟨sheetOf 9 (some .g2), 400⟩
    let s := withStack 9 (fun x => { x with falling := [f] }) s0
    s.pins.resetHeld = false ∧ (s.stack 9).falling = f :: [] ∧ s.sk.landingLimit ≤ f.timer ∧ 399 < s.sk.landingLimit ∧
      (s.stack 9).state ≠ .faulted ∧ Unwatched s ∧ (s0.stack 9).falling = [] := by
  refine ⟨rfl, rfl, by decide, by decide, by decide, ⟨by decide, ?_⟩, rfl⟩
  intro l; cases l <;> decide

/-- S3's top is free and OPEN with both lines waiting, A for grades 3 and 4, B for grade 2; the top is grade 2. -/
def offered (p : PickPriority) : StackEvent :=
  StackEvent.of ((withStack 3 (fun x => { x with falling := [] }) top78).setSk
    { (withStack 3 (fun x => { x with falling := [] }) top78).sk with priority := p })

theorem witness_GrantOffersTopInOrder :
    (∀ p, let s := (offered p).st
      let x := s.stack 3
      x.reservations = 0 ∧ x.falling = [] ∧ x.holder = none ∧ x.state = .opened ∧ s.estop = false ∧
      x.lastGrant = some .b ∧ s.sk.priority = p ∧ x.waiters.get .a = some 12 ∧ x.waiters.get .b = some 2 ∧
      ∃ r rest, x.inventory = r :: rest ∧ r.cls = some .g2 ∧ SheetClass.g2.code.val < 5 ∧
        (2 : GradeSet).getLsbD SheetClass.g2.code.val = true ∧ (12 : GradeSet).getLsbD SheetClass.g2.code.val = false) ∧
    (((offered .fixedA).st.stack 2).waiters.get .a = none ∧ (s0.stack 3).state = .closed) ∧
    (let s := top78
     let x := s.stack 3
     s.pins.resetHeld = false ∧ s.estop = false ∧ (∀ m, (s.line m).activity ≠ .starved) ∧
      x.falling = [⟨sheetOf 820 (some .g3), 0⟩] ∧ x.reservations = 0 ∧ x.holder = none ∧ x.state = .opened ∧
      x.waiters.get .a = some 12 ∧ (12 : GradeSet).getLsbD SheetClass.g3.code.val = true ∧
      s.sk.priority = .rotating ∧ x.lastGrant = some (otherLine .a)) := by
  refine ⟨?_, by decide, by decide, by decide, ?_, by decide⟩
  · intro p
    exact ⟨rfl, rfl, rfl, rfl, rfl, rfl, rfl, rfl, rfl, _, _, rfl, rfl, by decide, by decide, by decide⟩
  · intro m; cases m <;> decide

/-- FIXED_A offers the top to A, whose set fails: A is withdrawn and told to select again, and B is granted (R132). -/
theorem test_withdrawn_then_granted :
    let e := (offered .fixedA).grantCheck 3
    (e.st.stack 3).holder = some .b ∧ (e.st.stack 3).waiters = ⟨none, none⟩ ∧ e.told.a = true ∧
      (e.st.stack 3).lastGrant = some .b := by decide

/-- Line A's pick from S2, in a given activity and for a draw of a given origin. -/
def pickOf (a : Activity) (o : Origin) : State :=
  withLine .a (fun y => { y with
    mode := match o with
      | .ply => .run
      | .direct => .direct,
    exec := .hold, activity := a, draw := y.draw.map fun d => { d with origin := o } })
    (picking 2 [sheetOf 611 (some .g2)] s0)

theorem witness_PickDoneMovesTopRecord :
    ∀ a o, let s := pickOf a o
      s.pins.resetHeld = false ∧ (s.line .a).emptied = false ∧ (s.line .a).activity = a ∧
      (s.line .a).draw = some { grades := 3, pref := .best, role := .face, origin := o, stack := some 2 } ∧
      (s.stack 2).inventory = sheetOf 611 (some .g2) :: [] ∧ (s.stack 2).waiters.get .a = none ∧ Unwatched (pickOf .picking o) := by
  intro a o
  refine ⟨rfl, rfl, rfl, rfl, rfl, rfl, by cases o <;> decide, ?_⟩
  intro l; cases l <;> cases o <;> decide

theorem witness_PicksEndWithoutSheet :
    (s0.pins.resetHeld = false ∧ (s0.line .a).activity ≠ .picking ∧ (s0.line .a).activity ≠ .stopping ∧
      (s0.line .a).pickTimer = none) ∧
    (∀ a o, let s := pickOf a o
      (s.line .a).activity = a ∧ (s.line .a).draw.bind (·.stack) = some 2 ∧ (s.line .a).pickTimer = some 3000 ∧
      s.lines.pickLimit ≤ 3000) ∧
    (let s := withLine .a (fun y => { y with emptied := true }) (pickOf .picking .ply)
     (s.line .a).emptied = true ∧ (s.line .a).activity = .picking) ∧ ((pickOf .picking .ply).line .a).mode = .run ∧ ((pickOf .picking .ply).line .a).exec = .hold ∧
    (let s := starved .b 10000 s0
     (s.line .b).activity = .starved ∧ (s.line .b).starveNoted = false ∧ s.lines.starveLimit ≠ 0 ∧
      (s.line .b).starveTimer = some 10000 ∧ s.lines.starveLimit ≤ 10000) := by
  refine ⟨by decide, ?_, ⟨rfl, rfl⟩, rfl, rfl, by decide⟩
  intro a o
  exact ⟨rfl, rfl, rfl, Nat.le_refl 3000⟩

/-- A PICK_EMPTY whose line selects again and picks at once marks that pick, and the mark lasts for its millisecond (R165,
assumption 30). -/
theorem test_pick_at_pick_empty_is_marked :
    let s := withLine .a (fun y => { y with exec := .run })
      (withStack 3 (fun x => { x with state := .opened, inventory := [sheetOf 7 (some .g1)] }) (pickOf .picking .ply))
    let t := after (.pickEmpty .a) s
    (t.stack 2).state = .faulted ∧ (t.stack 3).holder = some .a ∧ (t.line .a).activity = .picking ∧
      (t.line .a).emptied = true := by decide

/-- Line A in a given mode, exec and activity. -/
def lineIn (m : LineMode) (e : Exec) (a : Activity) : State :=
  withLine .a (fun y => { y with mode := m, exec := e, activity := a }) s0

theorem test_line_off_while_picking_ends_its_step :
    let t := after (.setLineMode .pa 1 [0, 0]) (picking 2 [sheetOf 611 (some .g2)] s0)
    (t.line .a).activity = .stopping ∧ (t.line .a).step = none ∧ (t.stack 2).holder = some .a := by decide

/-- A panel of line A with plies, and a queue with the given number of records. -/
def panels (plies records : Nat) (s : State) : State :=
  withLine .a (fun y => { y with
    openPanel := List.replicate plies { sheet := sheetOf 611 (some .g2), stack := 2, role := .face },
    panelQueue := List.replicate records { number := 1, line := .a, status := .complete, plies := [] } }) s

theorem witness_SetLineModeEntersModes :
    (∀ m e a, Ready (lineIn m e a) (ownPort .a) ∧ ((lineIn m e a).line .a).mode = m ∧
      ((lineIn m e a).line .a).activity = a) ∧
    (s0.line .a).openPanel = [] ∧ ((panels 1 3 s0).line .a).panelQueue.length < 4 ∧
    (((panels 1 4 s0).line .a).openPanel ≠ [] ∧ 4 ≤ ((panels 1 4 s0).line .a).panelQueue.length) ∧
    ((topState.line .b).activity = .waitingTop ∧ (topState.line .b).draw.bind (·.stack) = some 2 ∧
      (topState.line .b).draw.map (·.origin) = some .direct) ∧
    (topState.line .a).draw.map (·.origin) = some .ply ∧ 3 < (4 : Byte).toNat := by
  refine ⟨?_, by decide⟩
  intro m e a
  exact ⟨ready_of rfl rfl rfl, rfl, rfl⟩

theorem witness_SetLineExecAndStepBegin :
    (∀ m e a, let s := lineIn m e a
      Ready s (ownPort .a) ∧ (s.line .a).mode = m ∧ (s.line .a).exec = e ∧ (s.line .a).activity = a ∧
        (s.line .a).step = none ∧ s.estop = false ∧ s.pins.resetHeld = false) ∧
    (((pickOf .picking .ply).line .a).exec = .hold ∧ ((pickOf .picking .ply).line .a).step ≠ none) ∧
    (let s := withLine .b (fun y => { y with mode := .run, exec := .step }) (waitingB 2 2 s0)
     (s.line .b).mode = .run ∧ (s.line .b).activity = .waitingTop ∧ (s.line .b).draw.bind (·.stack) = some 2) ∧
    3 < (4 : Byte).toNat := by
  refine ⟨?_, by decide, by decide, by decide⟩
  intro m e a
  exact ⟨ready_of rfl rfl rfl, rfl, rfl, rfl, rfl, rfl, rfl⟩

/-- Line A with a step at its pointer. -/
def stepIs (x : PatternStep) (s : State) : State := withLine .a (fun y => { y with pattern := y.pattern.set 0 x }) s

theorem witness_StepsActByKindAndManner :
    (∀ x, ((stepIs x s0).line .a).pattern[((stepIs x s0).line .a).pointer] = x) ∧
    ((0 : Fin 64) = 0 ∧ (63 : Fin 64) ≠ 0 ∧ (s0.line .a).counters[(s0.line .a).pointer] = none) ∧
    (∀ n, ((withLine .a (fun y => { y with counters := y.counters.set 0 (some n) }) s0).line .a).counters[(0 : Fin 16)]
      = some n) ∧
    ((s0.line (otherLine .a)).activity ≠ .awaiting ∧
      ((withLine .b (fun y => { y with activity := .awaiting }) s0).line (otherLine .a)).activity = .awaiting) ∧
    ((s0.line .a).latch = false ∧ ((withLine .a (fun y => { y with latch := true }) s0).line .a).latch = true) ∧
    ((s0.line .a).openPanel = [] ∧ ((panels 1 3 s0).line .a).openPanel ≠ [] ∧
      ((panels 1 3 s0).line .a).panelQueue.length < 4 ∧ 4 ≤ ((panels 1 4 s0).line .a).panelQueue.length) ∧
    ((31 : GradeSet) ≠ 0 ∧ 24 ≤ ((panels 24 0 s0).line .a).openPanel.length) := by
  refine ⟨fun _ => rfl, by decide, fun _ => rfl, by decide, by decide, by decide, by decide⟩

/-- S2 and S3 hold G2; S2's top is free, and S3's, reserved, is not. -/
def twoStacks (reserved : Nat) : State :=
  stepIs (.ply 3 .face .best) (withStack 2 (fun x => { x with
      state := .opened, inventory := [sheetOf 611 (some .g2)], reservations := reserved })
    (withStack 3 (fun x => { x with state := .opened, inventory := [sheetOf 612 (some .g2)], reservations := 1 }) s0))

theorem witness_PlySelectsFirstRankedStack :
    ((twoStacks 0).line .a).pattern[((twoStacks 0).line .a).pointer] = .ply 3 .face .best ∧ (3 : GradeSet) ≠ 0 ∧
      ((panels 23 0 (twoStacks 0)).line .a).openPanel.length < 24 ∧
    (let s := twoStacks 0
     (∀ k, isCandidate .a { grades := 3, pref := .best, role := .face, origin := .ply, stack := none } (s.stack k) = true
      ↔ k = 2 ∨ k = 3) ∧ (s.stack 2).free = true ∧ (s.stack 3).free = false ∧ s.estop = false) ∧
    ((twoStacks 1).stack 2).free = false ∧
    ((s0.line .a).activity ≠ .starved ∧ ∀ k, (s0.stack k).state ≠ .opened ∧ (s0.stack k).state ≠ .drain) := by decide

/-- Line A starved for a draw of grades 1 and 2, with the stacks of `twoStacks`. -/
def starvedA (n : Nat) : State :=
  withLine .a (fun y => { y with
    activity := .starved, starveTimer := some 7,
    draw := some { grades := 3, pref := .best, role := .face, origin := .direct, stack := none } }) (twoStacks n)

theorem witness_WithdrawnAndStarvedLinesSelectAgain :
    (let y := (pickOf .waitingTop .ply).line .a
     y.mode = .run ∧ y.exec = .hold) ∧
    ((s0.line .a).mode ≠ .run ∧ (s0.line .a).draw = none) ∧
    (let s := starvedA 0
     let d : Draw := { grades := 3, pref := .best, role := .face, origin := .direct, stack := none }
     (s.line .a).mode ≠ .run ∧ (s.line .a).draw = some d ∧
      (∀ k, isCandidate .a d (s.stack k) = true ↔ k = 2 ∨ k = 3) ∧ (s.stack 2).free = true ∧ (s.stack 3).free = false ∧
      ((starvedA 1).stack 2).free = false ∧ s.estop = false) ∧
    ((starved .a 7 s0).line .a).activity = .starved ∧ (topState.line .b).activity ≠ .starved ∧
    (∀ k, (s0.stack k).state ≠ .opened ∧ (s0.stack k).state ≠ .drain) ∧
    (let e := { StackEvent.of (starved .a 7 s0) with heard := ⟨true, true⟩ }
     (e.heard.get .a = true ∧ (e.st.line .a).activity = .starved) ∧ e.told.get .b = false ∧
      (e.st.line .b).activity ≠ .starved ∧ ({ e with told := ⟨true, true⟩ } : StackEvent).told.get .b = true) ∧
    (let s := starved .b 7 (picking 2 [sheetOf 611 (some .g2)] s0)
     s.pins.resetHeld = false ∧ (∀ k, (s.stack k).waiters = ⟨none, none⟩) ∧ (s.line .b).activity = .starved ∧
      (s.line .a).activity ≠ .starved ∧ (s.line .a).activity = .picking ∧ (s.line .a).emptied = false ∧
      (s.line .a).draw = some { grades := 3, pref := .best, role := .face, origin := .ply, stack := some 2 } ∧
      (s.stack 2).inventory = sheetOf 611 (some .g2) :: [] ∧ (s.stack 2).state ≠ .drain ∧ (s.stack 2).access.get .b = true ∧
      (s.stack 1).state = .closed) ∧
    Ready (starved .b 7 (picking 2 [sheetOf 611 (some .g2)] s0)) .pg :=
  ⟨by decide, by decide, by decide, by decide, by decide, by decide, by decide, by decide, ready_of rfl rfl rfl⟩

/-- A starved line picks the sheet that lands on a stack open to it (R160). -/
theorem test_landing_ends_starvation :
    let t := after (.landing 3) (starved .b 7 (withStack 3 (fun x => { x with
      state := .opened, allocated := 1, falling := [⟨sheetOf 9 (some .g2), 0⟩] }) s0))
    (t.line .b).activity = .picking ∧ (t.stack 3).holder = some .b ∧ (t.line .b).starveTimer = none := by decide

theorem witness_LineIsProgrammedAndCleared :
    (∀ m e a, Ready (lineIn m e a) (ownPort .a) ∧ ((lineIn m e a).line .a).mode = m ∧
      ((lineIn m e a).line .a).activity = a ∧ ((lineIn m e a).line .a).step = none) ∧
    (1 ≤ ([.signal ⟨0, 0, 0⟩] : List PatternStep).length ∧ ([.signal ⟨0, 0, 0⟩] : List PatternStep).length ≤ 16 ∧
      (15 : Byte).toNat + 1 ≤ 16 ∧ 16 < (16 : Byte).toNat + 1) ∧
    (15 < (16 : Byte).toNat ∧ (15 : Byte).toNat = (15 : Fin 16).val) := by
  refine ⟨?_, by decide, by decide⟩
  intro m e a
  exact ⟨ready_of rfl rfl rfl, rfl, rfl, rfl⟩

theorem witness_DirectDrawBeginsAndCancels :
    (let s := lineIn .direct .hold .idle
     Ready s (ownPort .a) ∧ (s.line .a).mode = .direct ∧ s.estop = false ∧ (s.line .a).activity ≠ .fault ∧
      (s.line .a).activity ≠ .stopping ∧ (s.line .a).draw = none ∧ (s.line .a).openPanel.length < 24 ∧
      24 ≤ ((panels 24 0 s).line .a).openPanel.length) ∧
    (31 < (32 : Byte).toNat ∧ 1 < (2 : Byte).toNat ∧ 3 < (4 : Byte).toNat ∧ (31 : GradeSet) ≠ 0) ∧
    (Ready (starved .b 7 s0) (ownPort .b) ∧ ((starved .b 7 s0).line .b).mode = .direct ∧
      ((starved .b 7 s0).line .b).draw ≠ none ∧ ((starved .b 7 s0).line .b).activity ≠ .waitingTop) ∧
    (Ready topState (ownPort .b) ∧ (topState.line .b).mode = .direct ∧ (topState.line .b).activity = .waitingTop ∧
      (topState.line .b).draw.map (·.origin) = some .direct ∧ (topState.line .b).draw.bind (·.stack) = some 2) :=
  ⟨⟨ready_of rfl rfl rfl, by decide⟩, by decide, ⟨ready_of rfl rfl rfl, by decide⟩, ready_of rfl rfl rfl, by decide⟩

theorem witness_PanelsCloseAndLeaveInOrder :
    (let s := lineIn .direct .hold .idle
     Ready s (ownPort .a) ∧ (s.line .a).draw = none ∧ (s.line .a).activity ≠ .stopping ∧ (s.line .a).openPanel = [] ∧
      (s.line .a).panelQueue = [] ∧ ((panels 1 4 s).line .a).openPanel ≠ [] ∧
      4 ≤ ((panels 1 4 s).line .a).panelQueue.length ∧ ((panels 1 3 s).line .a).panelQueue.length < 4) ∧
    (s0.line .a).mode ≠ .direct ∧
    (let s := stepIs (.panelEnd true .stop) (panels 1 4 (lineIn .run .run .waitRecord))
     Ready s (ownPort .a) ∧ (s.line .a).activity = .waitRecord ∧ (s.line .a).openPanel ≠ [] ∧
      (s.line .a).pattern[(s.line .a).pointer] = .panelEnd true .stop ∧
      ∃ r rest, (s.line .a).panelQueue = r :: rest ∧ rest.length < 4) :=
  ⟨⟨ready_of rfl rfl rfl, by decide⟩, by decide, ready_of rfl rfl rfl, by decide, by decide, rfl, _, _, rfl, by decide⟩

theorem witness_EmergencyStopStopsBothLines :
    s0.pins.estop = false ∧ s0.pins.resetHeld = false ∧ (after .estopAssert s0).pins.estop = true ∧
      held.pins.resetHeld = true ∧ held.pins.estop = false ∧
    (∀ m e a, ((lineIn m e a).line .a).mode = m ∧ ((lineIn m e a).line .a).activity = a) ∧
    (∀ a o, ((pickOf a o).line .a).activity = a ∧ ((pickOf a o).line .a).draw.map (·.origin) = some o ∧
      ((pickOf a o).line .a).draw.bind (·.stack) = some 2) ∧
    (∀ a o, (((panels 1 3 (pickOf a o)).line .a).openPanel ≠ [] ∧
      ((panels 1 3 (pickOf a o)).line .a).panelQueue.length < 4 ∧ 4 ≤ ((panels 1 4 (pickOf a o)).line .a).panelQueue.length ∧
      ((pickOf a o).line .a).openPanel = [])) ∧
    ((topState.line .b).activity = .waitingTop ∧ (topState.line .b).mode = .direct ∧
      ((topState.line .b).draw.bind (·.stack)) = some 2 ∧ (topState.line .a).activity ≠ .waitingTop) := by
  refine ⟨rfl, rfl, by decide, by decide, by decide, ?_, ?_, ?_, by decide⟩
  · intro m e a
    exact ⟨rfl, rfl⟩
  · intro a o
    exact ⟨rfl, rfl, rfl⟩
  · intro a o
    cases a <;> cases o <;> decide

/-- ESTOP aborts the DIRECT draw of a STOPPING line, and takes a waiting line off its stack (R142, R159, R165). -/
theorem test_estop_ends_draws :
    ((after .estopAssert (pickOf .stopping .direct)).line .a).lastDraw = some .aborted ∧
      ((after .estopAssert topState).stack 2).waiters.b = none := by decide

theorem witness_ReadRequestsChangeNothing :
    (Instr.readRoutes .pg 1 []).frame = some ⟨.pg, Code.readRoutes, 1, []⟩ ∧ isReadRequest Code.readRoutes = true ∧
    Ready s0 .pg ∧ (∃ t, exec (.readRoutes .pg 1 []) s0 = .next t) ∧ paramOf (0x1B : Byte).toNat = some (.gate 9) ∧
    paramOf (0x1E : Byte).toNat = none ∧ laneOf (0 : Byte).toNat = none ∧ (31 : Byte).toNat ≤ 31 ∧ 31 < (32 : Byte).toNat ∧
    unitOf (1 : Byte).toNat = some .lane2 ∧ 15 < (16 : Byte).toNat ∧ stackOf (9 : Byte).toNat = some 9 ∧
    (1 : Byte).toNat * 256 + (143 : Byte).toNat ≤ 399 ∧ 399 < (1 : Byte).toNat * 256 + (144 : Byte).toNat ∧
    16 < (17 : Byte).toNat ∧ lineOf (1 : Byte).toNat = some .b ∧ lineOf (2 : Byte).toNat = none ∧
    (15 : Byte).toNat + (1 : Byte).toNat ≤ 16 ∧ 16 < (15 : Byte).toNat + (2 : Byte).toNat ∧
    (∃ r, ((panels 0 4 s0).line .a).panelQueue[(3 : Byte).toNat]? = some r) ∧
    (s0.line .a).panelQueue.length ≤ (0 : Byte).toNat ∧ 3 < (4 : Byte).toNat :=
  ⟨rfl, by decide, ready0 _, ⟨_, rfl⟩, by decide, by decide, by decide, by decide, by decide, by decide, by decide,
    by decide, by decide, by decide, by decide, by decide, by decide, by decide, by decide, ⟨_, rfl⟩, by decide, by decide⟩

theorem witness_AnswersAreLaidOut :
    (let p : PanelRecord := { number := 1, line := .a, status := .complete, plies :=
        [⟨sheetOf 1 (some .g1), 2, .face⟩, ⟨sheetOf 2 (some .g2), 3, .core⟩] }
     ∃ older newer z, p.plies = older ++ z :: newer ∧ z.stack = 3) ∧
    ((s0.stack 2).falling[1]? = none ∧ (claimState.stack 2).falling[0]? = some ⟨sheetOf 9 (some .g2), 7⟩) ∧
    (∃ above below r, ((mill67.stack 2).inventory.drop 40).take 17 = above ++ r :: below ∧ r.number = 1) ∧
    (∃ body, body = CacheBody.species none 2 ⟨102, species26⟩) ∧ (∃ body, body = CacheBody.path 300 4 path26) ∧
    (0 < [LockResult.locked].length) ∧ (∃ y, y = PatternStep.ply 31 .cross .best) ∧
    (∃ y, y = PatternStep.unnamed true ⟨1, 2, 3⟩) :=
  ⟨⟨[_], [], _, rfl, rfl⟩, by decide, ⟨[], _, _, rfl, rfl⟩, ⟨_, rfl⟩, ⟨_, rfl⟩, by decide, ⟨_, rfl⟩, ⟨_, rfl⟩⟩

end Sys2Proof.Tests
end

