-- ==== Sys2Proof/Proofs/GradeFigures.lean ====
section
/-!
PROOFS. The figures of the defect list and the grade they give (R31 to R33): what each stage's function computes, and the
statement GradeFromDefectFigures.
-/

namespace Sys2Proof.Machine

/-! ## The defect score -/

/-- Four bits are read back from their byte by shift and remainder, in the low half as in the high half (R187). -/
theorem Cell16.weight_eq (x : Cell16) (kind : Nat) :
    x.weight kind = byteAt x.toList (1 + kind / 2) / (if kind % 2 = 0 then 1 else 16) % 16 := by
  have hb : byteAt x.toList (1 + kind / 2) < 256 := BitVec.isLt _
  simp only [Cell16.weight]
  split
  · rw [Nat.div_one]
  · omega

theorem Defect.score_eq (lim1 : Cell16) (d : Defect) :
    d.score lim1 = d.size * lim1.weight d.kind / (if d.zone = .edge then 2 else 1) := by
  unfold Defect.score
  cases d.zone with
  | field => simp
  | edge => rfl

/-! ## The open defects -/

theorem Defect.isOpen_iff (d : Defect) : d.isOpen = true ↔ d.kind = 1 ∨ d.kind = 2 ∨ d.kind = 3 := by
  simp [Defect.isOpen, or_assoc]

theorem openCount_cons (d : Defect) (ds : List Defect) :
    openCount (d :: ds) = openCount ds + (if d.isOpen then 1 else 0) := List.countP_cons

theorem openSize_cons (d : Defect) (ds : List Defect) :
    openSize (d :: ds) = if d.isOpen then max d.size (openSize ds) else openSize ds := by
  unfold openSize
  split
  next h => rw [List.filter_cons_of_pos h, List.map_cons, List.foldl_cons, Nat.max_comm, List.foldl_assoc]
  next h => rw [List.filter_cons_of_neg h]

theorem size_le_openSize {d : Defect} {ds : List Defect} (hd : d ∈ ds) (ho : d.isOpen = true) :
    d.size ≤ openSize ds := by
  induction ds with
  | nil => cases hd
  | cons e es ih =>
    rw [openSize_cons]
    rcases List.mem_cons.mp hd with rfl | hmem
    · rw [if_pos ho]
      exact Nat.le_max_left ..
    · have := ih hmem
      split <;> omega

theorem openSize_attained (ds : List Defect) :
    openSize ds = 0 ∨ ∃ d, d ∈ ds ∧ d.isOpen = true ∧ d.size = openSize ds := by
  induction ds with
  | nil => exact .inl rfl
  | cons e es ih =>
    have tail (h : openSize (e :: es) = openSize es) :
        openSize (e :: es) = 0 ∨ ∃ d, d ∈ e :: es ∧ d.isOpen = true ∧ d.size = openSize (e :: es) := by
      rw [h]
      exact ih.imp_right fun ⟨d, hmem, hd⟩ => ⟨d, List.mem_cons_of_mem e hmem, hd⟩
    by_cases ho : e.isOpen = true
    · have hcons : openSize (e :: es) = max e.size (openSize es) := by rw [openSize_cons, if_pos ho]
      rcases Nat.le_total e.size (openSize es) with hle | hle
      · exact tail (hcons.trans (Nat.max_eq_right hle))
      · exact .inr ⟨e, List.mem_cons_self, ho, (hcons.trans (Nat.max_eq_left hle)).symm⟩
    · exact tail (by rw [openSize_cons, if_neg ho])

/-! ## The grade -/

theorem GradeLimits.admits_iff (l : GradeLimits) (density count size : Nat) :
    l.admits density count size = true ↔ density ≤ l.density ∧ count ≤ l.openCount ∧ size ≤ l.openSize := by
  simp [GradeLimits.admits, and_assoc]

/-- Grade `g`, counted from 1, has limits in the list and they admit the three figures (R33). -/
def Qualifies (limits : List GradeLimits) (density count size g : Nat) : Prop :=
  ∃ l, limits[g - 1]? = some l ∧ l.admits density count size = true

theorem qualifies_iff_getElem {limits : List GradeLimits} {density count size g : Nat} (h : g - 1 < limits.length) :
    Qualifies limits density count size g ↔ limits[g - 1].admits density count size = true := by
  simp [Qualifies, List.getElem?_eq_getElem h]

theorem firstGrade_eq_add_findIdx (density count size first : Nat) (limits : List GradeLimits) :
    firstGrade density count size first limits = first + limits.findIdx (·.admits density count size) := by
  induction limits generalizing first with
  | nil => rfl
  | cons l ls ih =>
    rw [firstGrade, List.findIdx_cons, ih]
    cases l.admits density count size with
    | true => rfl
    | false => simp only [Bool.false_eq_true, if_false, cond_false]; omega

theorem firstGrade_eq_iff (limits : List GradeLimits) (density count size : Nat) {g : Nat} (h1 : 1 ≤ g)
    (hg : g ≤ limits.length) :
    firstGrade density count size 1 limits = g ↔
      Qualifies limits density count size g ∧ ∀ h, 1 ≤ h → h < g → ¬ Qualifies limits density count size h := by
  have hidx : g - 1 < limits.length := by omega
  have hfirst : firstGrade density count size 1 limits = g ↔
      limits.findIdx (·.admits density count size) = g - 1 := by
    rw [firstGrade_eq_add_findIdx]
    omega
  rw [hfirst, List.findIdx_eq hidx, qualifies_iff_getElem hidx]
  refine and_congr_right fun _ => ⟨fun hlow h hpos hlt => ?_, fun hlow j hj => ?_⟩
  · rw [qualifies_iff_getElem (by omega), hlow (h - 1) (by omega)]
    exact Bool.false_ne_true
  · have hq := hlow (j + 1) (by omega) (by omega)
    rw [qualifies_iff_getElem (by simp only [Nat.add_sub_cancel]; omega)] at hq
    exact Bool.eq_false_iff.mpr hq

theorem firstGrade_eq_succ_length_iff (limits : List GradeLimits) (density count size : Nat) :
    firstGrade density count size 1 limits = limits.length + 1 ↔
      ∀ g, 1 ≤ g → g ≤ limits.length → ¬ Qualifies limits density count size g := by
  have hlast : firstGrade density count size 1 limits = limits.length + 1 ↔
      limits.findIdx (·.admits density count size) = limits.length := by
    rw [firstGrade_eq_add_findIdx]
    omega
  rw [hlast, List.findIdx_eq_length]
  refine ⟨fun hnone g _ _ ⟨l, hl, hadmits⟩ => ?_, fun hnone l hl => ?_⟩
  · exact Bool.false_ne_true ((hnone l (List.mem_of_getElem? hl)).symm.trans hadmits)
  · obtain ⟨i, hi, rfl⟩ := List.getElem_of_mem hl
    refine Bool.eq_false_iff.mpr fun hadmits => hnone (i + 1) (by omega) (by omega) ⟨_, ?_, hadmits⟩
    exact List.getElem?_eq_getElem hi

/-! ## The statement -/

/-- The limits as the statement writes them, offset by offset from the bytes of the two limit cells (R187). -/
theorem gradeLimits_figures (lim1 lim2 : Cell16) :
    (gradeLimits lim1 lim2).map (fun l => (l.density, l.openCount, l.openSize)) =
      [(lim1, 4), (lim1, 9), (lim2, 1), (lim2, 6), (lim2, 11)].map fun (c, k) =>
        let b := fun i => (c.toList.getD (k + i) 0).toNat
        (b 0 * 256 + b 1, b 2, b 3 * 256 + b 4) := rfl

theorem qualifies_iff_figures (limits : List GradeLimits) (density count size g : Nat) :
    Qualifies limits density count size g ↔
      ∃ x, (limits.map fun l => (l.density, l.openCount, l.openSize))[g - 1]? = some x ∧
        density ≤ x.1 ∧ count ≤ x.2.1 ∧ size ≤ x.2.2 := by
  simp only [Qualifies, GradeLimits.admits_iff, List.getElem?_map, Option.map_eq_some_iff]
  constructor
  · rintro ⟨l, hl, hfigures⟩
    exact ⟨_, ⟨l, hl, rfl⟩, hfigures⟩
  · rintro ⟨_, ⟨l, hl, rfl⟩, hfigures⟩
    exact ⟨l, hl, hfigures⟩

/-- Settles O27: the grade is the first of the five limits, by position, that admits the figures; the figures are
settled by induction on the defect list. -/
theorem gradeFromDefectFigures : Obligations.GradeFromDefectFigures := by
  unfold Obligations.GradeFromDefectFigures
  refine ⟨fun r p => ?_, fun lim1 ds => ?_⟩
  · intro score density count size limits qualifies
    have hq (g : Nat) : qualifies g ↔ Qualifies (gradeLimits p.lim1 p.lim2) density count size g := by
      rw [qualifies_iff_figures, gradeLimits_figures]
    refine ⟨Nat.min_le_right _ _, fun g h1 h5 => ?_, ?_⟩
    · simp only [hq]
      exact firstGrade_eq_iff _ _ _ _ h1 h5
    · simp only [hq]
      exact firstGrade_eq_succ_length_iff _ _ _ _
  · intro weight score isOpen
    have hscore : Defect.score lim1 = score := funext fun d => by
      rw [Defect.score_eq, Cell16.weight_eq]
      rfl
    have hopen (d : Defect) : isOpen d ↔ d.isOpen = true := d.isOpen_iff.symm
    refine ⟨fun _ => ?_, fun d => ?_, rfl, fun d hd ho => size_le_openSize hd ((hopen d).mp ho), ?_,
      fun w score _ => Nat.min_comm _ _⟩
    · rw [defectScore, hscore, Nat.min_comm, List.sum_eq_foldr]
    · simp only [openCount_cons, hopen]
    · simp only [hopen]
      exact openSize_attained ds

end Sys2Proof.Machine
end

section
/-!
PROOFS. WRITE ROUTE, SWAP GROUP and CLEAR RUNOUT (R105, R106, R115): what their operand fields name, what the block
makes of each request, and the statement RoutingRequestsSetTableSwapAndCount.
-/

namespace Sys2Proof.Machine

/-! ## The operand fields -/

@[simp] theorem byteAt_cons_zero (b : Byte) (body : List Byte) : byteAt (b :: body) 0 = b.toNat := rfl

@[simp] theorem byteAt_cons_succ (b : Byte) (body : List Byte) (k : Nat) :
    byteAt (b :: body) (k + 1) = byteAt body k := rfl

theorem toNat_b8 {n : Nat} (h : n < 256) : (b8 n).toNat = n := Nat.mod_eq_of_lt h

theorem classOf_val (c : Fin 8) : classOf c.val = some c := dif_pos c.isLt

theorem classOf_eq_none {n : Nat} (h : 7 < n) : classOf n = none := dif_neg (by omega)

theorem groupOf_val (g : Fin 4) : groupOf g.val = some g := dif_pos g.isLt

theorem groupOf_eq_none {n : Nat} (h : 3 < n) : groupOf n = none := dif_neg (by omega)

theorem stackOf_val (k : StackId) : stackOf k.val = some k := dif_pos k.isLt

theorem stackOf_eq_none {n : Nat} (h : 9 < n) : stackOf n = none := dif_neg (by omega)

theorem stackNibble_lt (k : Option StackId) : stackNibble k < 16 := by
  cases k with
  | none => decide
  | some k => exact Nat.lt_trans k.isLt (by decide)

theorem stackOrNone_stackNibble (k : Option StackId) : stackOrNone (stackNibble k) = some k := by
  cases k with
  | none => rfl
  | some k =>
    have hne : k.val ≠ 15 := by omega
    rw [stackNibble, stackOrNone, if_neg hne, stackOf_val, Option.map_some]

theorem stackOrNone_eq_none {n : Nat} (h : 9 < n) (hne : n ≠ 15) : stackOrNone n = none := by
  rw [stackOrNone, if_neg hne, stackOf_eq_none h, Option.map_none]

theorem yesNo_bBool (on : Bool) : yesNo (bBool on).toNat = some on := by cases on <;> rfl

theorem yesNo_eq_none : ∀ {n : Nat}, 1 < n → yesNo n = none
  | _ + 2, _ => rfl

/-- The two stack fields of a route share a byte, the primary in its low half (R192). -/
theorem toNat_b8_stackNibbles (primary alternate : Option StackId) :
    (b8 (stackNibble primary + 16 * stackNibble alternate)).toNat % 16 = stackNibble primary ∧
      (b8 (stackNibble primary + 16 * stackNibble alternate)).toNat / 16 = stackNibble alternate := by
  have hp := stackNibble_lt primary
  have ha := stackNibble_lt alternate
  rw [toNat_b8 (by omega)]
  omega

/-! ## What the routing blocks make of a request -/

section Blocks
variable (s : State) {body : List Byte}

theorem writeRoute_badRequest (h : body.length ≠ 3) : writeRoute body s = refuse s .badRequest := if_pos h

theorem writeRoute_badValue (hl : body.length = 3)
    (h : classOf (byteAt body 0) = none ∨ stackOrNone (byteAt body 1 % 16) = none ∨
      stackOrNone (byteAt body 1 / 16) = none ∨ groupOf (byteAt body 2) = none) :
    writeRoute body s = refuse s .badValue := by
  rw [writeRoute, if_neg (not_not_intro hl)]
  split
  next hc hp ha hg => simp [hc, hp, ha, hg] at h
  next => rfl

theorem writeRoute_ok {c : Fin 8} {primary alternate : Option StackId} {g : Fin 4} (hl : body.length = 3)
    (hc : classOf (byteAt body 0) = some c) (hp : stackOrNone (byteAt body 1 % 16) = some primary)
    (ha : stackOrNone (byteAt body 1 / 16) = some alternate) (hg : groupOf (byteAt body 2) = some g) :
    writeRoute body s = okReply (s.setRouting { s.routing with
      routes := s.routing.routes.set c.val { primary := primary, alternate := alternate, group := g } c.isLt }) [] := by
  rw [writeRoute, if_neg (not_not_intro hl), hc, hp, ha, hg]

theorem swapGroup_badRequest (h : body.length ≠ 2) : swapGroup body s = refuse s .badRequest := if_pos h

theorem swapGroup_badValue (hl : body.length = 2)
    (h : groupOf (byteAt body 0) = none ∨ yesNo (byteAt body 1) = none) : swapGroup body s = refuse s .badValue := by
  rw [swapGroup, if_neg (not_not_intro hl)]
  split
  next hg hon => simp [hg, hon] at h
  next => rfl

theorem swapGroup_ok {g : Fin 4} {on : Bool} (hl : body.length = 2) (hg : groupOf (byteAt body 0) = some g)
    (hon : yesNo (byteAt body 1) = some on) :
    swapGroup body s = okReply (s.setRouting { s.routing with swaps := s.routing.swaps.set g.val on g.isLt })
      [bBool s.routing.swaps[g]] := by
  rw [swapGroup, if_neg (not_not_intro hl), hg, hon]

theorem clearRunout_badRequest (h : body ≠ []) : clearRunout body s = refuse s .badRequest :=
  if_pos (mt List.eq_nil_of_length_eq_zero h)

theorem clearRunout_nil :
    clearRunout [] s = okReply (s.setRouting { s.routing with runOut := 0 }) (b16 s.routing.runOut) := rfl

end Blocks

/-! ## What a ready port makes of the routing commands -/

section Requests
variable {s : State} {p : Port} {code tag : Byte} {body : List Byte}

theorem State.setRouting_hunt (s : State) (p : Port) (x : Routing) :
    (s.hunt p).setRouting x = (s.setRouting x).hunt p := rfl

/-- A request that only replaces the routing leaves a frame taken in, its answer and that. -/
theorem serve_setRouting {block : State → Reply} {x : Routing} {out : List Byte} (h : Ready s p)
    (hb : block (s.hunt p) = okReply ((s.hunt p).setRouting x) out) :
    serve code p tag block s = .next ((s.setRouting x).answered p code tag .ok out) := by
  rw [serve_ok h hb, State.setRouting_hunt]
  rfl

theorem exec_writeRoute (h : Ready s p) :
    exec (.writeRoute p tag body) s = serve Code.writeRoute p tag (writeRoute body) s :=
  receiveRequest_whole _ h.whole

theorem exec_swapGroup (h : Ready s p) :
    exec (.swapGroup p tag body) s = serve Code.swapGroup p tag (swapGroup body) s :=
  receiveRequest_whole _ h.whole

theorem exec_clearRunout (h : Ready s p) :
    exec (.clearRunout p tag body) s = serve Code.clearRunout p tag (clearRunout body) s :=
  receiveRequest_whole _ h.whole

theorem exec_writeRoute_badRequest (h : Ready s p) (hl : body.length ≠ 3) :
    exec (.writeRoute p tag body) s = .next (s.answered p Code.writeRoute tag .badRequest []) := by
  rw [exec_writeRoute h]
  exact serve_refuse h (writeRoute_badRequest _ hl)

theorem exec_writeRoute_badValue (h : Ready s p) {c named g : Byte}
    (hbad : 7 < c.toNat ∨ (9 < named.toNat % 16 ∧ named.toNat % 16 ≠ 15) ∨
      (9 < named.toNat / 16 ∧ named.toNat / 16 ≠ 15) ∨ 3 < g.toNat) :
    exec (.writeRoute p tag [c, named, g]) s = .next (s.answered p Code.writeRoute tag .badValue []) := by
  rw [exec_writeRoute h]
  refine serve_refuse h (writeRoute_badValue _ rfl ?_)
  rcases hbad with hc | ⟨hp, hne⟩ | ⟨ha, hne⟩ | hg
  · exact .inl (classOf_eq_none hc)
  · exact .inr (.inl (stackOrNone_eq_none hp hne))
  · exact .inr (.inr (.inl (stackOrNone_eq_none ha hne)))
  · exact .inr (.inr (.inr (groupOf_eq_none hg)))

theorem exec_writeRoute_ok (h : Ready s p) (c : Fin 8) (primary alternate : Option StackId) (g : Fin 4) :
    exec (.writeRoute p tag [b8 c.val, b8 (stackNibble primary + 16 * stackNibble alternate), b8 g.val]) s =
      .next ((s.setRouting { s.routing with
          routes := s.routing.routes.set c.val { primary := primary, alternate := alternate, group := g } c.isLt
        }).answered p Code.writeRoute tag .ok []) := by
  obtain ⟨hlow, hhigh⟩ := toNat_b8_stackNibbles primary alternate
  rw [exec_writeRoute h]
  refine serve_setRouting h (writeRoute_ok _ rfl ?_ ?_ ?_ ?_)
  · rw [byteAt_cons_zero, toNat_b8 (by omega), classOf_val]
  · rw [byteAt_cons_succ, byteAt_cons_zero, hlow, stackOrNone_stackNibble]
  · rw [byteAt_cons_succ, byteAt_cons_zero, hhigh, stackOrNone_stackNibble]
  · rw [byteAt_cons_succ, byteAt_cons_succ, byteAt_cons_zero, toNat_b8 (by omega), groupOf_val]

theorem exec_swapGroup_badRequest (h : Ready s p) (hl : body.length ≠ 2) :
    exec (.swapGroup p tag body) s = .next (s.answered p Code.swapGroup tag .badRequest []) := by
  rw [exec_swapGroup h]
  exact serve_refuse h (swapGroup_badRequest _ hl)

theorem exec_swapGroup_badValue (h : Ready s p) {g swap : Byte} (hbad : 3 < g.toNat ∨ 1 < swap.toNat) :
    exec (.swapGroup p tag [g, swap]) s = .next (s.answered p Code.swapGroup tag .badValue []) := by
  rw [exec_swapGroup h]
  exact serve_refuse h (swapGroup_badValue _ rfl (hbad.imp groupOf_eq_none yesNo_eq_none))

theorem exec_swapGroup_ok (h : Ready s p) (g : Fin 4) (on : Bool) :
    exec (.swapGroup p tag [b8 g.val, bBool on]) s =
      .next ((s.setRouting { s.routing with swaps := s.routing.swaps.set g.val on g.isLt }).answered p
        Code.swapGroup tag .ok [bBool s.routing.swaps[g]]) := by
  rw [exec_swapGroup h]
  refine serve_setRouting h (swapGroup_ok _ rfl ?_ (yesNo_bBool on))
  rw [byteAt_cons_zero, toNat_b8 (by omega), groupOf_val]

theorem exec_clearRunout_badRequest (h : Ready s p) (hne : body ≠ []) :
    exec (.clearRunout p tag body) s = .next (s.answered p Code.clearRunout tag .badRequest []) := by
  rw [exec_clearRunout h]
  exact serve_refuse h (clearRunout_badRequest _ hne)

theorem exec_clearRunout_ok (h : Ready s p) :
    exec (.clearRunout p tag []) s = .next ((s.setRouting { s.routing with runOut := 0 }).answered p Code.clearRunout
      tag .ok (b16 s.routing.runOut)) := by
  rw [exec_clearRunout h]
  exact serve_setRouting h (clearRunout_nil _)

end Requests

/-! ## What the routing settings do -/

/-- A class in a group whose swap state is on is offered its alternate first, in any other its primary (R106, R108). -/
theorem routeChoices_eq {s : State} {c : SheetClass} {g : Fin 4} {on : Bool} (hg : s.routing.routes[c.code].group = g)
    (hon : s.routing.swaps[g] = on) :
    routeChoices c s = if on then [s.routing.routes[c.code].alternate, s.routing.routes[c.code].primary]
      else [s.routing.routes[c.code].primary, s.routing.routes[c.code].alternate] := by
  subst hg
  rw [routeChoices, hon]

theorem setRouting_swaps_self (s : State) (g : Fin 4) :
    s.setRouting { s.routing with swaps := s.routing.swaps.set g.val s.routing.swaps[g] g.isLt } = s := by
  rw [show s.routing.swaps.set g.val s.routing.swaps[g] g.isLt = s.routing.swaps from Vector.set_getElem_self _]
  rfl

theorem countRunOut_setRouting_zero (s : State) :
    (s.setRouting { s.routing with runOut := 0 }).countRunOut = s.setRouting { s.routing with runOut := 1 } := rfl

/-! ## The statement -/

/-- Settles O43, from what a ready port makes of each command; the order in which a class is offered its choices is read
from the swap state its own group then has. -/
theorem routingRequestsSetTableSwapAndCount : Obligations.RoutingRequestsSetTableSwapAndCount := by
  unfold Obligations.RoutingRequestsSetTableSwapAndCount
  refine ⟨⟨fun s p tag h => ?_, fun s c => routeChoices_eq rfl rfl⟩, fun s p tag h => ?_, fun s p tag h => ?_⟩
  · exact ⟨fun _ hl => exec_writeRoute_badRequest h hl, fun _ _ _ hbad => exec_writeRoute_badValue h hbad,
      exec_writeRoute_ok h⟩
  · refine ⟨fun _ hl => exec_swapGroup_badRequest h hl, fun _ _ hbad => exec_swapGroup_badValue h hbad,
      fun g on => ⟨exec_swapGroup_ok h g on, fun hsame => ?_, fun c hc => ?_⟩⟩
    · subst hsame
      exact setRouting_swaps_self s g
    · exact routeChoices_eq hc (Vector.getElem_set_self _)
  · exact ⟨exec_clearRunout_ok h, countRunOut_setRouting_zero s, fun _ hne => exec_clearRunout_badRequest h hne⟩

end Sys2Proof.Machine
end

section
/-!
PROOFS. What a received frame can do (R174 to R177): the effect of each request at its block, once the checks of its body
are passed, and the outcomes of a frame on its port. Every invariant of the model is derived from these lists.
-/

namespace Sys2Proof.Machine

/-! ## The effect of a request -/

/-- The states a request taken on port `p` can make of `s`: one case per request that changes anything, with what its
checks have established. -/
inductive Effect (p : Port) (s : State) : State → Prop
  | same : Effect p s s
  | notices (mask : BitVec 32) :
      Effect p s (s.setPort p { s.port p with notices := acknowledged (s.port p).notices mask s.estop })
  | noticeMask (mask : BitVec 32) : Effect p s (s.setPort p { s.port p with mask := mask })
  | parameter (q : Param) (v : Nat) (hv : q.inRange v = true)
      (hg : ∀ g, q.geometry v s.tracking.geometry = some g → s.tracking.queue = [] ∧ g.valid = true) :
      Effect p s (q.apply v s)
  | accept (body : List Byte) (lane : Lane) (hq : (s.lane lane).queue.length < Config.intakeCapacity) :
      Effect p s (acceptSheet lane
        (submittedRecord body lane s.intake.counter s.intake.round s.intake.current) s)
  | overrun (lane : Lane) : Effect p s (overrun lane s)
  | resync (lane : Lane) : Effect p s (resyncLane lane s)
  | root (k : Slot) (d : Option Descriptor) : Effect p s (s.setRoot k d)
  | current (k : Slot) : Effect p s (s.setIntake { s.intake with current := k })
  | cacheMode (scope : Scope) (m : CacheMode) (hm : m ≠ .split) : Effect p s (s.onCaches scope fun c => c.setMode m)
  | purge (scope : Scope) (keep : Bool) : Effect p s (s.onCaches scope fun c => c.purged keep)
  | trackClear : Effect p s (clearTracking s)
  | routing (x : Routing) (hx : x.runOut = s.routing.runOut ∨ x.runOut = 0) : Effect p s (s.setRouting x)
  | openStack (k : StackId) (hk : (s.stack k).state ≠ .faulted) :
      Effect p s ((StackEvent.of s).setState k .opened).settle
  | drainStack (k : StackId) (hk : (s.stack k).state ≠ .faulted) :
      Effect p s (((StackEvent.of s).setState k .drain).drainClose k).settle
  | closeStack (k : StackId) : Effect p s ((StackEvent.of s).setState k .closed).settle
  | clearStack (k : StackId) (hk : (s.stack k).state = .closed) (hh : (s.stack k).holder = none) :
      Effect p s ((s.abandonAll (s.stack k).inventory).setStack k { s.stack k with inventory := [] })
  | capacity (k : StackId) (c : Nat) (h1 : 1 ≤ c) (h2 : c ≤ 400) (hb : (s.stack k).bound ≤ c) :
      Effect p s (s.setStack k { s.stack k with capacity := c })
  | access (k : StackId) (m : PerLine Bool) : Effect p s (changeAccess k m s)
  | lineMode (l : Line) (m : LineMode) (hl : ownPort l = p) (ha : (s.line l).activity ≠ .stopping)
      (hm : m ≠ (s.line l).mode) (ht : modeTaken (s.line l).mode m (s.line l).activity = true) :
      Effect p s (enterMode l m s)
  | lineExec (l : Line) (e : Exec) (hl : ownPort l = p) (hm : (s.line l).mode = .run)
      (ht : execTaken (s.line l) s.estop e = true) : Effect p s (setExec l e s)
  | steps (l : Line) (pattern : Vector PatternStep 16) (hl : ownPort l = p) (hm : (s.line l).mode = .load) :
      Effect p s (s.setLine l { s.line l with pattern := pattern })
  | pointer (l : Line) (n : Fin 16) (hl : ownPort l = p) (hf : (s.line l).pointerFree = true) :
      Effect p s (s.setLine l { s.line l with pointer := n })
  | lineFault (l : Line) (hl : ownPort l = p) (ha : (s.line l).activity = .fault) :
      Effect p s (s.setLine l { s.line l with activity := .idle, fault := none })
  | signal (l : Line) : Effect p s (signalLatch l s)
  | draw (l : Line) (g : GradeSet) (pref : Preference) (role : Role) (hl : ownPort l = p) (hg : g ≠ 0)
      (hm : (s.line l).mode = .direct) (he : s.estop = false) (hf : (s.line l).activity ≠ .fault)
      (hs : (s.line l).activity ≠ .stopping) (hd : (s.line l).draw = none) :
      Effect p s (beginDraw l { grades := g, pref := pref, role := role, origin := .direct, stack := none } s)
  | cancelDraw (l : Line) (hl : ownPort l = p) (hm : (s.line l).mode = .direct) (hd : (s.line l).draw ≠ none)
      (ha : (s.line l).activity ≠ .picking) (hs : (s.line l).activity ≠ .stopping) : Effect p s (cancelDrawOn l s)
  | closePanel (l : Line) (hl : ownPort l = p) (hm : (s.line l).mode = .direct) (hd : (s.line l).draw = none)
      (hs : (s.line l).activity ≠ .stopping) (hq : (s.line l).panelQueue.length < Config.panelQueueRoom) :
      Effect p s (closePanelRecord l .complete true s)
  | takePanel (l : Line) (r : PanelRecord) (rest : List PanelRecord) (hl : ownPort l = p)
      (hq : (s.line l).panelQueue = r :: rest) :
      Effect p s (closeWaiting l
        ((s.abandonAll (r.plies.map (·.sheet))).setLine l { s.line l with panelQueue := rest }))

/-- A request that passes the port's owner check and names a line is a request of that line's own port (R177). -/
theorem ownPort_of_owned {p : Port} {body : List Byte} {l : Line} (hb : body ≠ []) (ho : notOwner p body = false)
    (hl : lineOf (byteAt body 0) = some l) : ownPort l = p := by
  cases body with
  | nil => exact absurd rfl hb
  | cons b rest =>
    simp only [notOwner, show lineOf b.toNat = some l from hl] at ho
    simpa using ho

@[simp] theorem refuse_st (s : State) (st : Status) : (refuse s st).st = s := rfl

section Blocks

variable {p : Port} {body : List Byte} {s : State}

theorem readNotices_effect : Effect p s (readNotices p body s).st := by
  unfold readNotices; split <;> exact .same

theorem ackNotices_effect : Effect p s (ackNotices p body s).st := by
  unfold ackNotices; split
  · exact .same
  · exact .notices _

theorem setNoticeMask_effect : Effect p s (setNoticeMask p body s).st := by
  unfold setNoticeMask; split
  · exact .same
  · exact .noticeMask _

theorem setParameter_effect : Effect p s (setParameter body s).st := by
  unfold setParameter
  split
  · exact .same
  · split
    · exact .same
    · next q _ =>
      by_cases hv : q.inRange (wordAt body 1) = true
      · simp only [hv, not_true_eq_false, if_false]
        cases hg : q.geometry (wordAt body 1) s.tracking.geometry with
        | none => exact .parameter q _ hv fun g h => by simp [hg] at h
        | some g =>
          by_cases hq : s.tracking.queue = []
          · by_cases hval : g.valid = true
            · simp only [hq, hval, List.isEmpty_nil, not_true_eq_false, if_false]
              refine .parameter q _ hv fun g' h => ?_
              rw [hg, Option.some.injEq] at h
              exact ⟨hq, h ▸ hval⟩
            · simpa [hq, hval] using Effect.same
          · simpa [hq] using Effect.same
      · simpa [hv] using Effect.same

theorem getParameter_effect : Effect p s (getParameter body s).st := by
  unfold getParameter; split
  · exact .same
  · split <;> exact .same

theorem submitSheet_effect : Effect p s (submitSheet body s).st := by
  unfold submitSheet
  split
  · exact .same
  · split
    · exact .same
    · split
      · exact .same
      · split
        · next hq => exact .accept body _ hq
        · exact .overrun _

theorem laneResync_effect : Effect p s (laneResync body s).st := by
  unfold laneResync; split
  · exact .same
  · split
    · exact .same
    · exact .resync _

theorem readIntake_effect : Effect p s (readIntake body s).st := by
  unfold readIntake; split
  · exact .same
  · split <;> exact .same

theorem writeRoot_effect : Effect p s (writeRoot body s).st := by
  unfold writeRoot; split
  · exact .same
  · split
    · exact .same
    · split
      · exact .same
      · split
        · exact .same
        · exact .root _ _

theorem changeover_effect : Effect p s (changeover body s).st := by
  unfold changeover
  dsimp only
  split
  · exact .same
  · split
    · exact .same
    · exact .current _

theorem readRoots_effect : Effect p s (readRoots body s).st := by
  unfold readRoots; split <;> exact .same

theorem cacheModeOf_ne_split {n : Nat} {m : CacheMode} (h : cacheModeOf n = some m) : m ≠ .split := by
  unfold cacheModeOf at h
  split at h <;> simp_all <;> subst h <;> decide

theorem setCacheMode_effect : Effect p s (setCacheMode body s).st := by
  unfold setCacheMode; split
  · exact .same
  · split
    · next hm => exact .cacheMode _ _ (cacheModeOf_ne_split hm)
    · exact .same

theorem purgeCache_effect : Effect p s (purgeCache body s).st := by
  unfold purgeCache; split
  · exact .same
  · split
    · exact .purge _ _
    · exact .same

theorem readCache_effect : Effect p s (readCache body s).st := by
  unfold readCache; split
  · exact .same
  · split
    · exact .same
    · split <;> exact .same

theorem trackClear_effect : Effect p s (trackClear body s).st := by
  unfold trackClear; split
  · exact .same
  · exact .trackClear

theorem readTracking_effect : Effect p s (readTracking body s).st := by
  unfold readTracking; split
  · exact .same
  · split <;> exact .same

theorem writeRoute_effect : Effect p s (writeRoute body s).st := by
  unfold writeRoute; split
  · exact .same
  · split
    · exact .routing _ (.inl rfl)
    · exact .same

theorem swapGroup_effect : Effect p s (swapGroup body s).st := by
  unfold swapGroup; split
  · exact .same
  · split
    · exact .routing _ (.inl rfl)
    · exact .same

theorem readRoutes_effect : Effect p s (readRoutes body s).st := by
  unfold readRoutes; split <;> exact .same

theorem readRunout_effect : Effect p s (readRunout body s).st := by
  unfold readRunout; split <;> exact .same

theorem clearRunout_effect : Effect p s (clearRunout body s).st := by
  unfold clearRunout; split
  · exact .same
  · exact .routing _ (.inr rfl)

/-- A request that names a stack in its one byte is refused, or does what its block makes of that stack. -/
theorem onStack_effect {f : StackId → Reply} (hf : ∀ k, Effect p s (f k).st) : Effect p s (onStack body s f).st := by
  unfold onStack; split
  · exact .same
  · split
    · exact .same
    · exact hf _

theorem openStack_effect : Effect p s (openStack body s).st :=
  onStack_effect fun k => by
    split
    · exact .same
    · next h => exact .openStack k h

theorem drainStack_effect : Effect p s (drainStack body s).st :=
  onStack_effect fun k => by
    split
    · exact .same
    · next h => exact .drainStack k h

theorem closeStack_effect : Effect p s (closeStack body s).st :=
  onStack_effect fun k => by
    split
    · exact .same
    · exact .closeStack k

theorem clearStackFault_effect : Effect p s (clearStackFault body s).st :=
  onStack_effect fun k => by
    split
    · exact .same
    · exact .closeStack k

theorem clearStack_effect : Effect p s (clearStack body s).st :=
  onStack_effect fun k => by
    dsimp only
    split
    · exact .same
    · next h => exact .clearStack k (by tauto) (by simpa using fun x => h (.inr x))

theorem setStackCapacity_effect : Effect p s (setStackCapacity body s).st := by
  unfold setStackCapacity; split
  · exact .same
  · split
    · exact .same
    · dsimp only
      split
      · exact .same
      · exact .capacity _ _ (by omega) (by omega) (by omega)

theorem setStackAccess_effect : Effect p s (setStackAccess body s).st := by
  unfold setStackAccess; split
  · exact .same
  · split
    · exact .access _ _
    · exact .same

theorem readStack_effect : Effect p s (readStack body s).st := by
  unfold readStack; split
  · exact .same
  · split
    · exact .same
    · split <;> exact .same

theorem readSteps_effect : Effect p s (readSteps body s).st := by
  unfold readSteps; split
  · exact .same
  · split
    · exact .same
    · dsimp only; split <;> exact .same

/-- A request that names a line in its one byte is refused, or does what its block makes of that line. -/
theorem onLine_effect {f : Line → Reply} (hf : ∀ l, body ≠ [] → lineOf (byteAt body 0) = some l → Effect p s (f l).st) :
    Effect p s (onLine body s f).st := by
  unfold onLine; split
  · exact .same
  · next hb =>
    split
    · exact .same
    · next hl => exact hf _ (by rintro rfl; simp at hb) hl

theorem readLineStatus_effect : Effect p s (readLineStatus body s).st := onLine_effect fun _ _ _ => .same

theorem signalLine_effect : Effect p s (signalLine body s).st := onLine_effect fun l _ _ => .signal l

theorem peekPanel_effect : Effect p s (peekPanel body s).st := by
  unfold peekPanel; split
  · exact .same
  · split
    · exact .same
    · split
      · exact .same
      · split <;> exact .same

/-! ## The requests of a line, taken on its own port -/

theorem ne_nil_of_length {body : List Byte} {n : Nat} (h : body.length = n + 1) : body ≠ [] := by
  rintro rfl; simp at h

theorem setLineMode_effect (ho : notOwner p body = false) : Effect p s (setLineMode body s).st := by
  unfold setLineMode; split
  · exact .same
  · next hb =>
    split
    · next l m hl hm =>
      have hl := ownPort_of_owned (ne_nil_of_length (not_not.mp hb)) ho hl
      dsimp only
      split
      · split <;> exact .same
      · next ha =>
        split
        · exact .same
        · next hne =>
          split
          · next ht => exact .lineMode l m hl ha hne ht
          · exact .same
    · exact .same

theorem setLineExec_effect (ho : notOwner p body = false) : Effect p s (setLineExec body s).st := by
  unfold setLineExec; split
  · exact .same
  · next hb =>
    split
    · next l e hl he =>
      have hl := ownPort_of_owned (ne_nil_of_length (not_not.mp hb)) ho hl
      dsimp only
      split
      · exact .same
      · next hm =>
        split
        · next ht => exact .lineExec l e hl (not_not.mp hm) ht
        · exact .same
    · exact .same

theorem writeSteps_effect (ho : notOwner p body = false) : Effect p s (writeSteps body s).st := by
  unfold writeSteps
  dsimp only
  split
  · exact .same
  · next hb =>
    split
    · exact .same
    · next l hl =>
      have hl := ownPort_of_owned (by rintro rfl; simp at hb) ho hl
      split
      · exact .same
      · split
        · exact .same
        · split
          · exact .same
          · next hm => exact .steps l _ hl (not_not.mp hm)

theorem setStepPointer_effect (ho : notOwner p body = false) : Effect p s (setStepPointer body s).st := by
  unfold setStepPointer; split
  · exact .same
  · next hb =>
    split
    · exact .same
    · next l hl =>
      have hl := ownPort_of_owned (ne_nil_of_length (not_not.mp hb)) ho hl
      split
      · split
        · next hf => exact .pointer l _ hl hf
        · exact .same
      · exact .same

theorem clearLineFault_effect (ho : notOwner p body = false) : Effect p s (clearLineFault body s).st :=
  onLine_effect fun l hb hl => by
    dsimp only
    split
    · exact .same
    · next ha => exact .lineFault l (ownPort_of_owned hb ho hl) (not_not.mp ha)

theorem draw_effect (ho : notOwner p body = false) : Effect p s (draw body s).st := by
  unfold draw; split
  · exact .same
  · next hb =>
    split
    · next l g pref role hl _ _ _ =>
      have hl := ownPort_of_owned (ne_nil_of_length (not_not.mp hb)) ho hl
      dsimp only
      split
      · exact .same
      · next hg =>
        split
        · exact .same
        · next hw =>
          split
          · exact .same
          · next hd =>
            simp only [not_or, not_not, Bool.not_eq_true] at hw
            obtain ⟨hm, he, hf, hs⟩ := hw
            exact .draw l g pref role hl hg hm he hf hs (by simpa using hd)
    · exact .same

theorem cancelDraw_effect (ho : notOwner p body = false) : Effect p s (cancelDraw body s).st :=
  onLine_effect fun l hb hl => by
    dsimp only
    split
    · exact .same
    · next hw =>
      simp only [not_or, not_not] at hw
      obtain ⟨hm, hd, ha, hs⟩ := hw
      exact .cancelDraw l (ownPort_of_owned hb ho hl) hm (by simpa using hd) ha hs

theorem closePanel_effect (ho : notOwner p body = false) : Effect p s (closePanel body s).st :=
  onLine_effect fun l hb hl => by
    dsimp only
    split
    · exact .same
    · next hw =>
      split
      · exact .same
      · split
        · exact .same
        · next hq =>
          simp only [not_or, not_not] at hw
          obtain ⟨hm, hd, hs⟩ := hw
          exact .closePanel l (ownPort_of_owned hb ho hl) hm (by simpa using hd) hs (by omega)

theorem takePanel_effect (ho : notOwner p body = false) : Effect p s (takePanel body s).st :=
  onLine_effect fun l hb hl => by
    split
    · exact .same
    · next r rest hq => exact .takePanel l r rest (ownPort_of_owned hb ho hl) hq

end Blocks
end Sys2Proof.Machine
end

section
/-!
PROOFS. The outcomes of a frame on a port, of bytes on RX and of a command, and what it takes for a predicate of states
to be kept by all of them.
-/

namespace Sys2Proof.Machine

/-! ## Outcomes of a frame -/

/-- What becomes of a received frame (R176, R177, R183): nothing under RESET_N, BUSY, an answer after the effect of its
request, or a place in the port path queue. -/
inductive FrameOutcome (p : Port) (s : State) : State → Prop
  | held (h : s.pins.resetHeld = true) : FrameOutcome p s s
  | busy (h : s.pins.resetHeld = false) (code tag : Byte) : FrameOutcome p s ((s.hunt p).answer p code tag .busy [])
  | done (h : s.pins.resetHeld = false) (hp : (s.port p).pending = none) (code tag : Byte) (u : State)
      (hu : Effect p (s.hunt p) u) (st : Status) (out : List Byte) : FrameOutcome p s (u.answer p code tag st out)
  | refused (h : s.pins.resetHeld = false) (hp : (s.port p).pending = none) (code tag : Byte) (st : Status) :
      FrameOutcome p s ((s.hunt p).answer p code tag st [])
  | joined (h : s.pins.resetHeld = false) (hp : (s.port p).pending = none) (code tag : Byte) (w : TableWork)
      (hw : w.inside) : FrameOutcome p s (joinPath { port := p, code := code, tag := tag, work := w } (s.hunt p))

/-- Every next state a result answers satisfies `P`. -/
def Answers (P : State → Prop) (r : Result) : Prop := ∀ t, r = .next t → P t

theorem answers_next {P : State → Prop} {t : State} (h : P t) : Answers P (.next t) := fun _ e => by cases e; exact h

theorem answers_ite {P : State → Prop} {c : Prop} [Decidable c] {a b : Result} (ha : Answers P a) (hb : Answers P b) :
    Answers P (if c then a else b) := by
  split
  · exact ha
  · exact hb

section Frames

variable {p : Port} {code tag : Byte} {body : List Byte} {s : State}

theorem serve_outcome {block : State → Reply} (hb : Effect p (s.hunt p) (block (s.hunt p)).st) :
    Answers (FrameOutcome p s) (serve code p tag block s) := by
  unfold serve
  split
  · next h => exact answers_next (.held h)
  · next h =>
    have h : s.pins.resetHeld = false := by simpa using h
    dsimp only
    split
    · exact answers_next (.busy h _ _)
    · next hp => exact answers_next (.done h (by simpa using hp) _ _ _ hb _ _)

theorem serveLine_outcome {block : State → Reply}
    (hb : notOwner p body = false → Effect p (s.hunt p) (block (s.hunt p)).st) :
    Answers (FrameOutcome p s) (serveLine code p tag body block s) := by
  refine serve_outcome ?_
  split
  · exact .same
  · next ho => exact hb (by simpa using ho)

theorem serveTable_outcome {check : Except Status TableWork} (hw : ∀ w, check = .ok w → w.inside) :
    Answers (FrameOutcome p s) (serveTable code p tag check s) := by
  unfold serveTable
  split
  · next h => exact answers_next (.held h)
  · next h =>
    have h : s.pins.resetHeld = false := by simpa using h
    dsimp only
    split
    · exact answers_next (.busy h _ _)
    · next hp =>
      have hp : (s.port p).pending = none := by simpa using hp
      cases check with
      | error st => exact answers_next (.refused h hp _ _ st)
      | ok w => exact answers_next (.joined h hp _ _ w (hw w rfl))

/-! ## The table requests that pass their checks -/

theorem cellOk_iff (body : List Byte) : cellOk body = true ↔ wordAt body 0 < Config.cellCount := by simp [cellOk]

theorem checkWriteCell_inside {w : TableWork} (h : checkWriteCell body = .ok w) : w.inside := by
  unfold checkWriteCell at h
  split at h
  · cases h
  · split at h
    · cases h
    · next hc =>
      cases h
      exact (cellOk_iff body).mp (by tauto)

theorem checkReadCell_inside {w : TableWork} (h : checkReadCell body = .ok w) : w.inside := by
  unfold checkReadCell at h
  split at h
  · cases h
  · split at h
    · cases h
    · next hc =>
      cases h
      exact (cellOk_iff body).mp (by tauto)

theorem checkReplaceCell_inside {w : TableWork} (h : checkReplaceCell body = .ok w) : w.inside := by
  unfold checkReplaceCell at h
  split at h
  · cases h
  · split at h
    · cases h
    · next hc =>
      split at h
      · cases h
      · cases h
        exact (cellOk_iff body).mp (by tauto)

theorem checkInvalidateCell_inside {w : TableWork} (h : checkInvalidateCell body = .ok w) : w.inside := by
  unfold checkInvalidateCell at h
  split at h
  · cases h
  · split at h
    · cases h
    · next hc =>
      split at h
      · cases h
      · cases h
        exact (cellOk_iff body).mp (by tauto)

theorem checkProbePath_inside {w : TableWork} (h : checkProbePath body = .ok w) : w.inside := by
  unfold checkProbePath at h
  split at h
  · cases h
  · split at h
    · cases h
    · split at h
      · cases h
        intro r hr
        cases hr
      · cases h

theorem checkLockPaths_inside {w : TableWork} (h : checkLockPaths body = .ok w) : w.inside := by
  unfold checkLockPaths at h
  split at h
  · cases h
  · dsimp only at h
    split at h
    · cases h
    · split at h
      · cases h
        intro r hr
        cases hr
      · cases h

/-! ## A frame with an agreeing CRC word -/

theorem frameReceived_outcome : Answers (FrameOutcome p s) (frameReceived p code tag body s) :=
  answers_ite (serve_outcome readNotices_effect) <|
  answers_ite (serve_outcome ackNotices_effect) <|
  answers_ite (serve_outcome setNoticeMask_effect) <|
  answers_ite (serve_outcome setParameter_effect) <|
  answers_ite (serve_outcome getParameter_effect) <|
  answers_ite (serve_outcome submitSheet_effect) <|
  answers_ite (serve_outcome laneResync_effect) <|
  answers_ite (serve_outcome readIntake_effect) <|
  answers_ite (serveTable_outcome fun _ => checkWriteCell_inside) <|
  answers_ite (serveTable_outcome fun _ => checkReadCell_inside) <|
  answers_ite (serveTable_outcome fun _ => checkReplaceCell_inside) <|
  answers_ite (serveTable_outcome fun _ => checkInvalidateCell_inside) <|
  answers_ite (serve_outcome writeRoot_effect) <|
  answers_ite (serve_outcome changeover_effect) <|
  answers_ite (serve_outcome readRoots_effect) <|
  answers_ite (serveTable_outcome fun _ => checkProbePath_inside) <|
  answers_ite (serve_outcome setCacheMode_effect) <|
  answers_ite (serveTable_outcome fun _ => checkLockPaths_inside) <|
  answers_ite (serve_outcome purgeCache_effect) <|
  answers_ite (serve_outcome readCache_effect) <|
  answers_ite (serve_outcome trackClear_effect) <|
  answers_ite (serve_outcome readTracking_effect) <|
  answers_ite (serve_outcome writeRoute_effect) <|
  answers_ite (serve_outcome swapGroup_effect) <|
  answers_ite (serve_outcome readRoutes_effect) <|
  answers_ite (serve_outcome readRunout_effect) <|
  answers_ite (serve_outcome clearRunout_effect) <|
  answers_ite (serve_outcome openStack_effect) <|
  answers_ite (serve_outcome drainStack_effect) <|
  answers_ite (serve_outcome closeStack_effect) <|
  answers_ite (serve_outcome clearStackFault_effect) <|
  answers_ite (serve_outcome clearStack_effect) <|
  answers_ite (serve_outcome setStackCapacity_effect) <|
  answers_ite (serve_outcome setStackAccess_effect) <|
  answers_ite (serve_outcome readStack_effect) <|
  answers_ite (serveLine_outcome setLineMode_effect) <|
  answers_ite (serveLine_outcome setLineExec_effect) <|
  answers_ite (serveLine_outcome writeSteps_effect) <|
  answers_ite (serve_outcome readSteps_effect) <|
  answers_ite (serveLine_outcome setStepPointer_effect) <|
  answers_ite (serveLine_outcome clearLineFault_effect) <|
  answers_ite (serve_outcome readLineStatus_effect) <|
  answers_ite (serve_outcome signalLine_effect) <|
  answers_ite (serveLine_outcome draw_effect) <|
  answers_ite (serveLine_outcome cancelDraw_effect) <|
  answers_ite (serveLine_outcome closePanel_effect) <|
  answers_ite (serveLine_outcome takePanel_effect) <|
  answers_ite (serve_outcome peekPanel_effect) <|
  serve_outcome .same

end Frames

/-- A command that is a frame is the reception of that frame (R174 to R177). -/
theorem exec_frame {i : Instr} {f : Frame} (h : i.frame = some f) (s : State) :
    exec i s = receiveRequest f.code f.port f.tag f.body (frameReceived f.port f.code f.tag f.body) s := by
  cases i <;> first | (cases h; rfl) | cases h

/-! ## Predicates kept by what comes in on a port -/

/-- `P` is kept by everything a frame on port `p` can do. -/
structure KeptByFrames (P : State → Prop) (p : Port) : Prop where
  receive : ∀ {s : State} (r : Receiver), P s → P (s.receive p r)
  answer : ∀ {s : State} (code tag : Byte) (st : Status) (body : List Byte), P s → P (s.answer p code tag st body)
  effect : ∀ {s t : State}, s.pins.resetHeld = false → Effect p s t → P s → P t
  join : ∀ {s : State} (code tag : Byte) (w : TableWork), (s.port p).pending = none → w.inside → P s →
    P (joinPath { port := p, code := code, tag := tag, work := w } s)

namespace KeptByFrames

variable {P : State → Prop} {p : Port}

theorem hunt (K : KeptByFrames P p) {s : State} (h : P s) : P (s.hunt p) := K.receive .hunting h

theorem frame (K : KeptByFrames P p) {code tag : Byte} {body : List Byte} {s t : State} (hs : P s)
    (h : frameReceived p code tag body s = .next t) : P t := by
  cases frameReceived_outcome t h with
  | held => exact hs
  | busy => exact K.answer _ _ _ _ (K.hunt hs)
  | done hh hp _ _ u hu => exact K.answer _ _ _ _ (K.effect (s := s.hunt p) hh hu (K.hunt hs))
  | refused => exact K.answer _ _ _ _ (K.hunt hs)
  | joined hh hp _ _ w hw => exact K.join _ _ w (by simpa using hp) hw (K.hunt hs)

theorem complete (K : KeptByFrames P p) {code tag : Byte} {body : List Byte} {crc : BitVec 16} {s t : State} (hs : P s)
    (h : frameComplete p code tag body crc s = .next t) : P t := by
  unfold frameComplete at h
  split at h
  · cases h; exact hs
  · split at h
    · exact K.frame hs h
    · cases h; exact K.hunt hs

theorem byte (K : KeptByFrames P p) (b : Byte) (s t : State) (hs : P s) (h : receiveByte p b s = .next t) : P t := by
  unfold receiveByte at h
  split at h
  · cases h; exact hs
  · split at h
    · cases h; exact K.receive _ hs
    · split at h
      · cases h; exact K.receive _ hs
      · unfold frameByte at h
        dsimp only at h
        split at h
        · cases h; exact K.receive _ hs
        · split at h
          · cases h; exact K.receive _ hs
          · exact K.complete hs h

end KeptByFrames

/-! ## Predicates kept by a command -/

/-- The commands that are events of the field, of a timer or of a block, and what each makes of a state (R183). -/
inductive EventOf : Instr → (State → State) → Prop
  | recordExpired (l : Lane) : EventOf (.recordExpired l) (expireDue l)
  | mergeEvent (l : Lane) : EventOf (.mergeEvent l) (mergeLane l)
  | encoderCount : EventOf .encoderCount fun s => if s.tracks then moveEntries (takeAllOwed s) else s
  | decisionPoint (n : Nat) : EventOf (.decisionPoint n) (commanded decisionDue takeDecision n)
  | approach (n : Nat) : EventOf (.approach n) (commanded approachDue takeApproach n)
  | gate (n : Nat) : EventOf (.gate n) (commanded gateDue takeGate n)
  | runOut (n : Nat) : EventOf (.runOut n) (commanded runOutDue takeRunOut n)
  | encoderStall : EventOf .encoderStall fun s => if stallDue s then takeStall s else s
  | landing (k : StackId) : EventOf (.landing k) (landOn k)
  | missedLanding (k : StackId) : EventOf (.missedLanding k) (missLanding k)
  | lineStarved (l : Line) : EventOf (.lineStarved l) (noticeStarved l)
  | pickDone (l : Line) : EventOf (.pickDone l) fun s =>
      match heldStack (s.line l) with
      | none => straySignal l s
      | some k => if (s.line l).emptied then pickDoneAfterEmpty l k s else pickDoneOn l k s
  | pickEmpty (l : Line) : EventOf (.pickEmpty l) fun s =>
      match heldStack (s.line l) with
      | none => straySignal l s
      | some k => pickEmptyOn l k s
  | pickTimeout (l : Line) : EventOf (.pickTimeout l) (timeOutPick l)
  | stepBegin (l : Line) : EventOf (.stepBegin l) fun s => if stepDue l s then beginStep l .walk s else s
  | byteGapTimeout (p : Port) : EventOf (.byteGapTimeout p) fun s => if gapDue (s.port p) then s.hunt p else s
  | answerSent (p : Port) : EventOf (.answerSent p) fun s => s.setPort p (s.port p).sent

theorem EventOf.exec {i : Instr} {f : State → State} (h : EventOf i f) (s : State) : exec i s = event f s := by
  cases h <;> rfl

/-- The commands of which there is one only, each with a meaning of its own: table accesses, pins and reset. -/
inductive SingleCommand : Instr → Prop
  | guWalkRead (u : Lane) : SingleCommand (.guWalkRead u)
  | portAccessGrant : SingleCommand .portAccessGrant
  | convRunAssert : SingleCommand .convRunAssert
  | convRunDeassert : SingleCommand .convRunDeassert
  | estopAssert : SingleCommand .estopAssert
  | estopRelease : SingleCommand .estopRelease
  | resetN : SingleCommand .resetN
  | resetNRelease : SingleCommand .resetNRelease

/-- A command that comes in on port `p` keeps what frames on `p` keep. -/
theorem KeptByFrames.exec {P : State → Prop} {p : Port} (K : KeptByFrames P p) {i : Instr} {s t : State}
    (hi : i.frame.map (·.port) = some p ∨ (∃ code tag body crc, i = .crcDiscard p code tag body crc) ∨
      i = .leadByteWhileHunting p ∨ ∃ n, i = .lengthAbove250 p n)
    (hs : P s) (h : exec i s = .next t) : P t := by
  rcases hi with hf | ⟨code, tag, body, crc, rfl⟩ | rfl | ⟨n, rfl⟩
  · obtain ⟨f, hi, rfl⟩ := Option.map_eq_some_iff.mp hf
    rw [exec_frame hi] at h
    exact receiveRequest_keeps K.byte (fun t ht => K.frame hs ht) hs h
  · replace h : onLink p _ _ s = .next t := h
    unfold onLink at h
    split at h
    · exact receiveBytes_keeps K.byte _ hs h
    · exact K.complete hs h
  · exact K.byte _ _ _ hs h
  · exact K.byte _ _ _ hs h

/-- Every command comes in on a port, is an event, or is one of its own. -/
theorem command_kinds (i : Instr) : (∃ p, i.port = some p ∧ (i.frame.map (·.port) = some p ∨
      (∃ code tag body crc, i = .crcDiscard p code tag body crc) ∨ i = .leadByteWhileHunting p ∨
      ∃ n, i = .lengthAbove250 p n)) ∨ (∃ f, EventOf i f) ∨ SingleCommand i := by
  cases i
  case recordExpired => exact .inr (.inl ⟨_, .recordExpired _⟩)
  case mergeEvent => exact .inr (.inl ⟨_, .mergeEvent _⟩)
  case encoderCount => exact .inr (.inl ⟨_, .encoderCount⟩)
  case decisionPoint => exact .inr (.inl ⟨_, .decisionPoint _⟩)
  case approach => exact .inr (.inl ⟨_, .approach _⟩)
  case gate => exact .inr (.inl ⟨_, .gate _⟩)
  case runOut => exact .inr (.inl ⟨_, .runOut _⟩)
  case encoderStall => exact .inr (.inl ⟨_, .encoderStall⟩)
  case landing => exact .inr (.inl ⟨_, .landing _⟩)
  case missedLanding => exact .inr (.inl ⟨_, .missedLanding _⟩)
  case lineStarved => exact .inr (.inl ⟨_, .lineStarved _⟩)
  case pickDone => exact .inr (.inl ⟨_, .pickDone _⟩)
  case pickEmpty => exact .inr (.inl ⟨_, .pickEmpty _⟩)
  case pickTimeout => exact .inr (.inl ⟨_, .pickTimeout _⟩)
  case stepBegin => exact .inr (.inl ⟨_, .stepBegin _⟩)
  case byteGapTimeout => exact .inr (.inl ⟨_, .byteGapTimeout _⟩)
  case answerSent => exact .inr (.inl ⟨_, .answerSent _⟩)
  case guWalkRead => exact .inr (.inr (.guWalkRead _))
  case portAccessGrant => exact .inr (.inr .portAccessGrant)
  case convRunAssert => exact .inr (.inr .convRunAssert)
  case convRunDeassert => exact .inr (.inr .convRunDeassert)
  case estopAssert => exact .inr (.inr .estopAssert)
  case estopRelease => exact .inr (.inr .estopRelease)
  case resetN => exact .inr (.inr .resetN)
  case resetNRelease => exact .inr (.inr .resetNRelease)
  case crcDiscard p code tag body crc => exact .inl ⟨p, rfl, .inr (.inl ⟨code, tag, body, crc, rfl⟩)⟩
  case leadByteWhileHunting p => exact .inl ⟨p, rfl, .inr (.inr (.inl rfl))⟩
  case lengthAbove250 p n => exact .inl ⟨p, rfl, .inr (.inr (.inr ⟨n, rfl⟩))⟩
  all_goals exact .inl ⟨_, rfl, .inl rfl⟩

/-- `P` is kept by every command. -/
structure KeptByCommands (P : State → Prop) : Prop where
  frames : ∀ p, KeptByFrames P p
  events : ∀ {i : Instr} {f : State → State} {s : State}, EventOf i f → s.pins.resetHeld = false → P s → P (f s)
  singles : ∀ {i : Instr} {s t : State}, SingleCommand i → P s → Machine.exec i s = .next t → P t

theorem KeptByCommands.exec {P : State → Prop} (K : KeptByCommands P) {i : Instr} {s t : State} (hs : P s)
    (h : Machine.exec i s = .next t) : P t := by
  rcases command_kinds i with ⟨p, -, hi⟩ | ⟨f, hf⟩ | hi
  · exact (K.frames p).exec hi hs h
  · rw [hf.exec] at h
    cases hr : s.pins.resetHeld with
    | true =>
      rw [event_held f hr] at h
      cases h
      exact hs
    | false =>
      rw [event_taken f hr] at h
      cases h
      exact K.events hf hr hs
  · exact K.singles hi hs h

/-- What every command and an idle step keep, and the command queue does not bear on, every step keeps. -/
theorem KeptByCommands.step {P : State → Prop} (K : KeptByCommands P) (hp : ∀ s cs, P s → P (s.withPending cs))
    (hi : ∀ s, P s → P (idle s)) {s t : State} (hs : P s) (h : Machine.step s = .next t) : P t := by
  unfold Machine.step at h
  split at h
  · cases h; exact hi s hs
  · exact K.exec (hp s _ hs) h

end Sys2Proof.Machine
end

section
/-!
PROOFS. What the events of stacks and lines can do (chapters 7 to 9): they raise notices, abandon gradings, change
holders, waiters and states of stacks and the lines, and nothing else; under E-STOP they grant nothing. One relation,
proved of each shared operation once.
-/

namespace Sys2Proof.Machine

/-! ## Events of the mill -/

/-- A grading goes on as it is, or abandoned. -/
def JobKept (x y : Option GradingJob) : Prop :=
  y = x ∨ ∃ j slot, x = some j ∧ y = some { j with abandoned := true, slotHeld := slot }

/-- `t` differs from `s` at most in intake, tracking, routing, stacks and lines, in gradings abandoned and in notices
raised: what every event that is no walk, no table access and no pin can change. -/
structure MillOnly (s t : State) : Prop where
  tables  : t.tables = s.tables
  caches  : t.caches = s.caches
  pins    : t.pins = s.pins
  jobs    : ∀ u, JobKept (s.job u) (t.job u)
  notices : ∀ p, ∃ n : BitVec 32, n &&& ~~~namedFlags = 0 ∧
    t.port p = { s.port p with notices := (s.port p).notices ||| n }

theorem JobKept.refl (x : Option GradingJob) : JobKept x x := .inl rfl

theorem JobKept.trans {x y z : Option GradingJob} (h : JobKept x y) (k : JobKept y z) : JobKept x z := by
  rcases h with rfl | ⟨j, a, rfl, rfl⟩
  · exact k
  · rcases k with rfl | ⟨j', b, hj, rfl⟩
    · exact .inr ⟨j, a, rfl, rfl⟩
    · cases hj
      exact .inr ⟨j, b, rfl, rfl⟩

theorem portState_notices_zero (x : PortState) : x = { x with notices := x.notices ||| 0 } := by simp

theorem MillOnly.refl (s : State) : MillOnly s s :=
  ⟨rfl, rfl, rfl, fun _ => .refl _, fun _ => ⟨0, by simp, portState_notices_zero _⟩⟩

theorem MillOnly.trans {s t u : State} (h : MillOnly s t) (k : MillOnly t u) : MillOnly s u where
  tables := k.tables.trans h.tables
  caches := k.caches.trans h.caches
  pins := k.pins.trans h.pins
  jobs v := (h.jobs v).trans (k.jobs v)
  notices p := by
    obtain ⟨m, hm, h⟩ := h.notices p
    obtain ⟨n, hn, k⟩ := k.notices p
    refine ⟨m ||| n, ?_, ?_⟩
    · rw [BitVec.and_comm] at hm hn ⊢
      rw [BitVec.and_or_distrib_left, hm, hn]
      rfl
    · rw [k, h]
      simp [BitVec.or_assoc]

theorem MillOnly.estop {s t : State} (h : MillOnly s t) : t.estop = s.estop := by simp [State.estop, h.pins]

/-- A change of intake, tracking, routing, stacks, lines, the free choices and the command queue only. -/
theorem MillOnly.of_eq {s t : State}
    (h : (t.grading, t.tables, t.caches, t.ports, t.pins) = (s.grading, s.tables, s.caches, s.ports, s.pins)) :
    MillOnly s t := by
  simp only [Prod.mk.injEq] at h
  obtain ⟨hg, ht, hc, hp, hn⟩ := h
  exact ⟨ht, hc, hn, fun u => .inl (by simp [State.job, hg]), fun p => ⟨0, by simp, by simp [State.port, hp]⟩⟩

theorem Notice.bit_named (n : Notice) : n.bit &&& ~~~namedFlags = 0 := by
  cases n <;> first | decide | (rename_i l; cases l <;> decide)

theorem raise_port (s : State) (n : Notice) (p : Port) :
    (s.raise n).port p = { s.port p with notices := (s.port p).notices ||| n.bit } := by cases p <;> rfl

theorem raise_millOnly (s : State) (n : Notice) : MillOnly s (s.raise n) :=
  ⟨rfl, rfl, rfl, fun _ => .refl _, fun p => ⟨n.bit, n.bit_named, raise_port s n p⟩⟩

theorem raiseIf_millOnly (s : State) (c : Bool) (n : Notice) : MillOnly s (s.raiseIf c n) := by
  unfold State.raiseIf
  split
  · exact raise_millOnly s n
  · exact .refl s

theorem abandon_jobKept (s : State) (r : SheetRecord) (d : Bool) (u : Lane) :
    JobKept (s.job u) ((s.abandon r d).job u) := by
  rcases s.abandon_cases r d with h | ⟨j, hj, -, -, -, h⟩
  · rw [h]; exact .refl _
  · rw [h]
    by_cases hu : u = r.lane
    · subst hu
      rw [State.job_setJob_same]
      exact .inr ⟨j, _, hj, rfl⟩
    · rw [State.job_setJob_other _ _ hu]
      exact .refl _

theorem abandon_millOnly (s : State) (r : SheetRecord) (d : Bool) : MillOnly s (s.abandon r d) := by
  obtain ⟨g, h⟩ := s.abandon_only_grading r d
  refine ⟨by rw [h], by rw [h], by rw [h], abandon_jobKept s r d, fun p => ⟨0, by simp, ?_⟩⟩
  rw [h]
  exact portState_notices_zero _

theorem abandonAll_millOnly (s : State) (rs : List SheetRecord) : MillOnly s (s.abandonAll rs) := by
  induction rs generalizing s with
  | nil => exact .refl s
  | cons r rs ih => exact (abandon_millOnly s r true).trans (ih (s.abandon r true))

/-! ## Events of stacks and lines -/

/-- The panel queue, the panel counter and the loop counters of a line are within their ranges (R137, R168). -/
structure LineState.Bounded (x : LineState) : Prop where
  panels : x.panelQueue.length ≤ Config.panelQueueRoom
  number : 1 ≤ x.panelCounter ∧ x.panelCounter ≤ Config.maxNumber
  loops  : ∀ (i : Fin 16) n, x.counters[i] = some n → n ≤ 63

theorem LineState.Bounded.of_eq {x y : LineState} (h : x.Bounded)
    (he : (y.panelQueue, y.panelCounter, y.counters) = (x.panelQueue, x.panelCounter, x.counters)) : y.Bounded := by
  simp only [Prod.mk.injEq] at he
  obtain ⟨hp, hn, hc⟩ := he
  exact ⟨hp ▸ h.panels, hn ▸ h.number, hc ▸ h.loops⟩

theorem LineState.KeepsProgram.bounded {x y : LineState} (h : x.KeepsProgram y) (hx : x.Bounded) : y.Bounded := by
  obtain ⟨-, -, -, -, hc, -, -, -, hp, hn, -⟩ := h
  exact hx.of_eq (by rw [hc, hp, hn])

/-- The counts and the room of a stack are as before, and its inventory has not grown (R109). -/
def Stack.ClaimsKept (x y : Stack) : Prop :=
  y.capacity = x.capacity ∧ y.allocated = x.allocated ∧ y.reservations = x.reservations ∧ y.falling = x.falling ∧
    y.inventory.length ≤ x.inventory.length

theorem Stack.ClaimsKept.refl (x : Stack) : x.ClaimsKept x := ⟨rfl, rfl, rfl, rfl, le_rfl⟩

/-- `t` differs from `s` at most in what the events of stacks and lines write: the lines, each within its bounds, and
holders, waiters, last grants, states, access masks and inventories of the stacks; and no holder is new under E-STOP. -/
structure AtLines (s t : State) : Prop extends MillOnly s t where
  intake   : t.intake = s.intake
  tracking : t.tracking = s.tracking
  routing  : t.routing = s.routing
  landing  : t.sk.landingLimit = s.sk.landingLimit
  priority : t.sk.priority = s.sk.priority
  pick     : t.lines.pickLimit = s.lines.pickLimit
  starve   : t.lines.starveLimit = s.lines.starveLimit
  claims   : ∀ k, (s.stack k).ClaimsKept (t.stack k)
  holders  : s.estop = true → ∀ k l, (t.stack k).holder = some l → (s.stack k).holder = some l
  bounded  : ∀ l, (s.line l).Bounded → (t.line l).Bounded

namespace AtLines

theorem refl (s : State) : AtLines s s :=
  { MillOnly.refl s with
    intake := rfl, tracking := rfl, routing := rfl, landing := rfl, priority := rfl, pick := rfl, starve := rfl
    claims := fun _ => .refl _, holders := fun _ _ _ h => h, bounded := fun _ h => h }

theorem trans {s t u : State} (h : AtLines s t) (k : AtLines t u) : AtLines s u :=
  { h.toMillOnly.trans k.toMillOnly with
    intake := k.intake.trans h.intake
    tracking := k.tracking.trans h.tracking
    routing := k.routing.trans h.routing
    landing := k.landing.trans h.landing
    priority := k.priority.trans h.priority
    pick := k.pick.trans h.pick
    starve := k.starve.trans h.starve
    claims := fun j => by
      obtain ⟨hc, ha, hr, hf, hi⟩ := h.claims j
      obtain ⟨kc, ka, kr, kf, ki⟩ := k.claims j
      exact ⟨kc.trans hc, ka.trans ha, kr.trans hr, kf.trans hf, ki.trans hi⟩
    holders := fun he j l hj => h.holders he j l (k.holders (h.estop.trans he) j l hj)
    bounded := fun l hl => k.bounded l (h.bounded l hl) }

/-- A selection that makes no new holder under E-STOP is an event of stacks and lines. -/
theorem of_selectsOnly {s t : State} (h : SelectsOnly s t)
    (hh : s.estop = true → ∀ k l, (t.stack k).holder = some l → (s.stack k).holder = some l) : AtLines s t :=
  { MillOnly.of_eq (by rw [h.grading, h.tables, h.caches, h.ports, h.pins]) with
    intake := h.intake
    tracking := h.tracking
    routing := h.routing
    landing := h.stackParams.1
    priority := h.stackParams.2.1
    pick := h.lineParams.1
    starve := h.lineParams.2
    claims := fun k => by
      obtain ⟨-, hc, -, hi, ha, hr, hf⟩ := h.stackFields k
      exact ⟨hc, ha, hr, hf, by rw [hi]⟩
    holders := hh
    bounded := fun l => (h.lineFields l).bounded }

/-- A stack replaced by one with the same claims, no larger an inventory and no new holder. -/
theorem setStack {s t : State} {k : StackId} {x : Stack} (h : AtLines s t) (hc : (t.stack k).ClaimsKept x)
    (hh : ∀ l, x.holder = some l → (t.stack k).holder = some l) : AtLines s (t.setStack k x) :=
  h.trans { MillOnly.of_eq (s := t) (t := t.setStack k x) rfl with
    intake := rfl, tracking := rfl, routing := rfl, landing := rfl, priority := rfl, pick := rfl, starve := rfl
    claims := fun j => by
      by_cases hj : j = k
      · subst hj; simpa using hc
      · rw [State.stack_setStack_other _ _ hj]; exact .refl _
    holders := fun _ j l h => by
      by_cases hj : j = k
      · subst hj; exact hh l (by simpa using h)
      · rwa [State.stack_setStack_other _ _ hj] at h
    bounded := fun _ h => h }

/-- A stack replaced by one with the same claims, inventory and holder. -/
theorem setStack_of_eq {s t : State} {k : StackId} {x : Stack} (h : AtLines s t)
    (hx : (x.capacity, x.allocated, x.reservations, x.falling, x.inventory, x.holder) = ((t.stack k).capacity,
      (t.stack k).allocated, (t.stack k).reservations, (t.stack k).falling, (t.stack k).inventory, (t.stack k).holder)) :
    AtLines s (t.setStack k x) := by
  simp only [Prod.mk.injEq] at hx
  obtain ⟨hc, ha, hr, hf, hi, hh⟩ := hx
  exact h.setStack ⟨hc, ha, hr, hf, by rw [hi]⟩ fun l hl => hh ▸ hl

/-- A line replaced by one within its bounds. -/
theorem setLine {s t : State} {l : Line} {x : LineState} (h : AtLines s t) (hb : (t.line l).Bounded → x.Bounded) :
    AtLines s (t.setLine l x) :=
  h.trans { MillOnly.of_eq (s := t) (t := t.setLine l x) rfl with
    intake := rfl, tracking := rfl, routing := rfl, landing := rfl, priority := rfl, pick := rfl, starve := rfl
    claims := fun _ => .refl _
    holders := fun _ _ _ h => h
    bounded := fun m h => by
      by_cases hm : m = l
      · subst hm; simpa using hb h
      · rwa [State.line_setLine_other _ _ hm] }

/-- A line replaced by one with the same panels and loop counters. -/
theorem setLine_of_eq {s t : State} {l : Line} {x : LineState} (h : AtLines s t)
    (hx : (x.panelQueue, x.panelCounter, x.counters) =
      ((t.line l).panelQueue, (t.line l).panelCounter, (t.line l).counters)) : AtLines s (t.setLine l x) :=
  h.setLine fun hb => hb.of_eq hx

theorem raise {s t : State} {n : Notice} (h : AtLines s t) : AtLines s (t.raise n) :=
  h.trans { raise_millOnly t n with
    intake := rfl, tracking := rfl, routing := rfl, landing := rfl, priority := rfl, pick := rfl, starve := rfl
    claims := fun _ => .refl _, holders := fun _ _ _ h => h, bounded := fun _ h => h }

theorem raiseIf {s t : State} {c : Bool} {n : Notice} (h : AtLines s t) : AtLines s (t.raiseIf c n) := by
  unfold State.raiseIf
  split
  · exact h.raise
  · exact h

theorem abandonAll {s t : State} {rs : List SheetRecord} (h : AtLines s t) : AtLines s (t.abandonAll rs) := by
  refine h.trans ?_
  obtain ⟨g, h⟩ := t.abandonAll_only_grading rs
  have hm := abandonAll_millOnly t rs
  rw [h] at hm ⊢
  exact { hm with
    intake := rfl, tracking := rfl, routing := rfl, landing := rfl, priority := rfl, pick := rfl, starve := rfl
    claims := fun _ => .refl _, holders := fun _ _ _ h => h, bounded := fun _ h => h }

theorem choices {s t : State} {n : Nat} (h : AtLines s t) : AtLines s { t with choices := n } :=
  h.trans (of_selectsOnly (choices_selectsOnly t n) fun _ _ _ h => h)

end AtLines

/-! ## Panel closes, ends of a step and of a draw -/

theorem advanceCounter_bounds {n : Nat} (h : 1 ≤ n ∧ n ≤ Config.maxNumber) :
    1 ≤ advanceCounter n ∧ advanceCounter n ≤ Config.maxNumber := by
  unfold advanceCounter
  split
  · omega
  · decide

theorem LineState.panelQueued_bounded {x : LineState} (h : x.Bounded) (hq : x.panelQueue.length < Config.panelQueueRoom)
    (l : Line) (st : PanelStatus) : (x.panelQueued l st).Bounded where
  panels := by simpa [LineState.panelQueued] using hq
  number := advanceCounter_bounds h.number
  loops := h.loops

theorem closePanelRecord_atLines (l : Line) (st : PanelStatus) (ready : Bool) (s : State) :
    AtLines s (closePanelRecord l st ready s) := by
  unfold closePanelRecord
  dsimp only
  split
  · exact .refl s
  · split
    · next hq => exact .raiseIf (.setLine (.refl s) fun h => LineState.panelQueued_bounded h hq l st)
    · refine .raise (.setLine (.abandonAll (.refl s)) fun h => ?_)
      rw [State.line_abandonAll] at h
      exact ⟨h.panels, advanceCounter_bounds h.number, h.loops⟩

theorem replicate_none_loops (i : Fin 16) (n : Nat) (h : (Vector.replicate 16 (none : Option Nat))[i] = some n) :
    n ≤ 63 := by
  simp at h

theorem enterOff_atLines (l : Line) (s : State) : AtLines s (enterOff l s) :=
  have h : AtLines s (s.setLine l (s.line l).turnedOff) :=
    .setLine (.refl s) fun h => ⟨h.panels, h.number, replicate_none_loops⟩
  h.trans (closePanelRecord_atLines ..)

theorem completeStep_atLines (l : Line) (next : Fin 16) (stop : Bool) (s : State) :
    AtLines s (completeStep l next stop s) := .raiseIf (.setLine_of_eq (.refl s) rfl)

theorem faultLine_atLines (l : Line) (kind : LineFault) (s : State) : AtLines s (faultLine l kind s) :=
  .raise (.setLine_of_eq (.refl s) rfl)

theorem reportDraw_atLines (l : Line) (r : DrawResult) (s : State) : AtLines s (reportDraw l r s) := by
  unfold reportDraw
  split
  · split
    · exact .raise (.setLine_of_eq (.refl s) rfl)
    · exact .refl s
  · exact .refl s

/-! ## Grants, waits and selections -/

theorem beginPick_atLines {l : Line} {k : StackId} {s : State} (he : s.estop = false) : AtLines s (beginPick l k s) :=
  .of_selectsOnly (beginPick_selectsOnly l k s) fun h => by simp [he] at h

theorem joinWaiters_atLines (l : Line) (k : StackId) (g : GradeSet) (s : State) : AtLines s (joinWaiters l k g s) :=
  .setLine_of_eq (.setStack_of_eq (.refl s) rfl) rfl

theorem leaveWaiters_atLines (l : Line) (k : StackId) (s : State) : AtLines s (leaveWaiters l k s) :=
  .setStack_of_eq (.refl s) rfl

theorem withdrawLine_atLines (l : Line) (s : State) : AtLines s (withdrawLine l s) := by
  unfold withdrawLine
  split
  · exact leaveWaiters_atLines ..
  · exact .refl s

theorem ask_atLines (l : Line) (k : StackId) (g : GradeSet) (s : State) : AtLines s (ask l k g s) := by
  unfold ask
  dsimp only
  split
  · exact .refl s
  · split
    · next h =>
      split
      · exact beginPick_atLines (by simp_all)
      · exact .refl s
    · exact joinWaiters_atLines ..

theorem starve_atLines (l : Line) (s : State) : AtLines s (starve l s) := by
  unfold starve
  dsimp only
  split
  · exact .refl s
  · exact .setLine_of_eq (.refl s) rfl

theorem select_atLines (l : Line) (s : State) : AtLines s (select l s) := by
  unfold select
  split
  · exact .refl s
  · split
    · exact ask_atLines ..
    · exact starve_atLines ..

theorem reselect_atLines (l : Line) (s : State) : AtLines s (reselect l s) := by
  unfold reselect
  split
  · exact .setLine_of_eq (.refl s) rfl
  · exact select_atLines ..

/-! ## Events at the stacks -/

theorem StackEvent.setState_atLines (e : StackEvent) (k : StackId) (new : StackState) :
    AtLines e.st (e.setState k new).st := by
  have hs : AtLines e.st (e.st.setStack k { e.st.stack k with state := new }) := .setStack_of_eq (.refl _) rfl
  unfold StackEvent.setState
  split
  · exact .refl _
  · dsimp only
    split
    · exact hs
    · exact hs
    · exact .setStack_of_eq hs (by simp [StackEvent.announce])
    · exact .setStack_of_eq hs (by simp [StackEvent.announce])

theorem StackEvent.drainClose_atLines (e : StackEvent) (k : StackId) : AtLines e.st (e.drainClose k).st := by
  unfold StackEvent.drainClose
  dsimp only
  split
  · exact .raise (e.setState_atLines k .closed)
  · exact .refl _

theorem StackEvent.drainCloses_atLines (ks : List StackId) (e : StackEvent) :
    AtLines e.st (ks.foldl StackEvent.drainClose e).st := by
  induction ks generalizing e with
  | nil => exact .refl _
  | cons k ks ih => exact (e.drainClose_atLines k).trans (ih _)

theorem StackEvent.offer_atLines (k : StackId) (ls : List Line) {e : StackEvent} (he : e.st.estop = false) :
    AtLines e.st (StackEvent.offer k ls e).st := by
  induction ls generalizing e with
  | nil => exact .refl _
  | cons l ls ih =>
    unfold StackEvent.offer
    split
    · exact ih he
    · split
      · exact beginPick_atLines he
      · exact (leaveWaiters_atLines l k e.st).trans
          (ih (e := { st := leaveWaiters l k e.st, told := e.told.set l true, heard := e.heard }) he)

theorem StackEvent.grantCheck_atLines (e : StackEvent) (k : StackId) : AtLines e.st (e.grantCheck k).st := by
  unfold StackEvent.grantCheck
  dsimp only
  split
  · next h => exact StackEvent.offer_atLines _ _ (by simp_all)
  · exact .refl _

theorem StackEvent.grantChecks_atLines (ks : List StackId) (e : StackEvent) :
    AtLines e.st (ks.foldl StackEvent.grantCheck e).st := by
  induction ks generalizing e with
  | nil => exact .refl _
  | cons k ks ih => exact (e.grantCheck_atLines k).trans (ih _)

theorem StackEvent.settle_atLines (e : StackEvent) : AtLines e.st e.settle := by
  unfold StackEvent.settle
  split
  · exact .refl _
  · exact reselect_atLines ..
  · exact reselect_atLines ..
  · dsimp only
    split
    · exact .trans (.trans (.choices (.refl _)) (reselect_atLines ..)) (reselect_atLines ..)
    · exact .trans (.trans (.choices (.refl _)) (reselect_atLines ..)) (reselect_atLines ..)

theorem StackEvent.removeLine_atLines (e : StackEvent) (k : StackId) (l : Line) :
    AtLines e.st (e.removeLine k l).st := by
  unfold StackEvent.removeLine
  dsimp only
  split
  · exact leaveWaiters_atLines ..
  · exact .refl _

namespace AtLines

variable {s : State} {e : StackEvent}

theorem setState (h : AtLines s e.st) (k : StackId) (new : StackState) : AtLines s (e.setState k new).st :=
  h.trans (e.setState_atLines k new)

theorem drainClose (h : AtLines s e.st) (k : StackId) : AtLines s (e.drainClose k).st := h.trans (e.drainClose_atLines k)

theorem grantCheck (h : AtLines s e.st) (k : StackId) : AtLines s (e.grantCheck k).st := h.trans (e.grantCheck_atLines k)

theorem removeLine (h : AtLines s e.st) (k : StackId) (l : Line) : AtLines s (e.removeLine k l).st :=
  h.trans (e.removeLine_atLines k l)

theorem settle (h : AtLines s e.st) : AtLines s e.settle := h.trans e.settle_atLines

end AtLines

theorem changeAccess_atLines (k : StackId) (m : PerLine Bool) (s : State) : AtLines s (changeAccess k m s) :=
  have h : AtLines s (s.setStack k { s.stack k with access := m }) := .setStack_of_eq (.refl s) rfl
  .settle (.removeLine (.removeLine h k .a) k .b)

/-! ## Ends of a pick -/

theorem clearPick_atLines (l : Line) (k : StackId) (s : State) : AtLines s (clearPick l k s) :=
  .setLine_of_eq (.setStack (.refl s) (.refl _) fun _ h => nomatch h) rfl

theorem movePly_atLines (l : Line) (k : StackId) (s : State) : AtLines s (movePly l k s) := by
  unfold movePly
  split
  · next r rest d hr _ =>
    exact .setLine_of_eq (.setStack (.refl s) ⟨rfl, rfl, rfl, rfl, by simp [hr]⟩ fun _ h => h) rfl
  · exact .refl s

theorem finishDraw_atLines (l : Line) (s : State) : AtLines s (finishDraw l s) := by
  unfold finishDraw
  dsimp only
  split
  · exact (reportDraw_atLines ..).trans (enterOff_atLines ..)
  · split
    · exact completeStep_atLines ..
    · exact .setLine_of_eq (reportDraw_atLines ..) rfl

theorem pickDoneOn_atLines (l : Line) (k : StackId) (s : State) : AtLines s (pickDoneOn l k s) :=
  have h : AtLines s (finishDraw l (movePly l k (clearPick l k s))) :=
    ((clearPick_atLines l k s).trans (movePly_atLines ..)).trans (finishDraw_atLines ..)
  .settle (.grantCheck (.drainClose h k) k)

theorem pickDoneAfterEmpty_atLines (l : Line) (k : StackId) (s : State) : AtLines s (pickDoneAfterEmpty l k s) := by
  have h : AtLines s ({ s with choices := s.choices + 1 }.setLine l { s.line l with emptied := false }) :=
    .setLine_of_eq (.choices (.refl s)) rfl
  unfold pickDoneAfterEmpty
  dsimp only
  split
  · exact h.raise
  · exact h.trans (pickDoneOn_atLines ..)

theorem emptyHanded_atLines (l : Line) (e : StackEvent) : AtLines e.st (emptyHanded l e).st := by
  unfold emptyHanded
  split
  · exact (reportDraw_atLines ..).trans (enterOff_atLines ..)
  · exact .refl _

theorem markEmptied_atLines (l : Line) (s : State) : AtLines s (markEmptied l s) := by
  unfold markEmptied
  split
  · exact .setLine_of_eq (.refl s) rfl
  · exact .refl s

theorem pickEmptyOn_atLines (l : Line) (k : StackId) (s : State) : AtLines s (pickEmptyOn l k s) :=
  have h : AtLines s ((clearPick l k s).raise .stackFault) := .raise (clearPick_atLines l k s)
  .trans (.settle (.trans (.setState h k .faulted) (emptyHanded_atLines l _))) (markEmptied_atLines l _)

theorem timedOutLine_atLines (l : Line) (s : State) : AtLines s (timedOutLine l s) := by
  unfold timedOutLine
  split
  · exact (reportDraw_atLines ..).trans (enterOff_atLines ..)
  · exact (reportDraw_atLines ..).trans (faultLine_atLines ..)

theorem pickTimeoutOn_atLines (l : Line) (k : StackId) (s : State) : AtLines s (pickTimeoutOn l k s) :=
  have h : AtLines s (timedOutLine l ((clearPick l k s).raise (.feederFault l))) :=
    .trans (.raise (clearPick_atLines l k s)) (timedOutLine_atLines l _)
  .settle (.grantCheck h k)

theorem timeOutPick_atLines (l : Line) (s : State) : AtLines s (timeOutPick l s) := by
  unfold timeOutPick
  split
  · exact .refl s
  · split
    · exact pickTimeoutOn_atLines ..
    · exact .refl s

theorem noticeStarved_atLines (l : Line) (s : State) : AtLines s (noticeStarved l s) := by
  unfold noticeStarved
  split
  · exact .raise (.setLine_of_eq (.refl s) rfl)
  · exact .refl s

/-! ## Steps, modes, exec and the requests of a line -/

theorem beginDraw_atLines (l : Line) (d : Draw) (s : State) : AtLines s (beginDraw l d s) := by
  have h : AtLines s (s.setLine l { s.line l with draw := some d }) := .setLine_of_eq (.refl s) rfl
  unfold beginDraw
  dsimp only
  split
  · exact h.trans ((reportDraw_atLines ..).trans (faultLine_atLines ..))
  · exact h.trans (select_atLines ..)

theorem signalLatch_atLines (l : Line) (s : State) : AtLines s (signalLatch l s) := by
  unfold signalLatch
  dsimp only
  split
  · exact completeStep_atLines ..
  · exact .setLine_of_eq (.refl s) rfl

theorem loopOutcome_le {pointer target : Fin 16} {count : Fin 64} {counter : Option Nat} {n : Nat}
    (hc : ∀ m, counter = some m → m ≤ 63) (h : (loopOutcome pointer target count.val counter).1 = some n) : n ≤ 63 := by
  have hlt := count.isLt
  unfold loopOutcome at h
  split at h
  · exact hc n h
  · split at h
    · cases h; omega
    · cases h
    · next m =>
      cases h
      have := hc (n + 1) rfl
      omega

theorem loopStep_atLines (l : Line) (target : Fin 16) (count : Fin 64) (s : State) :
    AtLines s (loopStep l target count s) := by
  unfold loopStep
  dsimp only
  refine .trans ?_ (completeStep_atLines ..)
  refine .setLine (.refl s) fun h => ⟨h.panels, h.number, fun i n hi => ?_⟩
  have hi : ((s.line l).counters.set (s.line l).pointer.val (loopOutcome (s.line l).pointer target count.val
    (s.line l).counters[(s.line l).pointer]).1 (s.line l).pointer.isLt)[i.val] = some n := hi
  rw [Vector.getElem_set] at hi
  split at hi
  · exact loopOutcome_le (h.loops (s.line l).pointer) hi
  · exact h.loops i n hi

theorem finishPanelEnd_atLines (l : Line) (notice : Bool) (after : After) (s : State) :
    AtLines s (finishPanelEnd l notice after s) := (closePanelRecord_atLines ..).trans (completeStep_atLines ..)

theorem panelEndStep_atLines (l : Line) (notice : Bool) (after : After) (s : State) :
    AtLines s (panelEndStep l notice after s) := by
  unfold panelEndStep
  split
  · exact finishPanelEnd_atLines ..
  · exact .setLine_of_eq (.refl s) rfl

theorem awaitStep_atLines (l : Line) (s : State) : AtLines s (awaitStep l s) := by
  unfold awaitStep
  dsimp only
  split
  · exact .trans (.setLine_of_eq (.refl s) (by rfl)) (completeStep_atLines ..)
  · exact .setLine_of_eq (.refl s) rfl

theorem plyStep_atLines (l : Line) (g : GradeSet) (role : Role) (pref : Preference) (s : State) :
    AtLines s (plyStep l g role pref s) := by
  unfold plyStep
  split
  · exact faultLine_atLines ..
  · exact beginDraw_atLines ..

theorem beginStep_atLines (l : Line) (m : Manner) (s : State) : AtLines s (beginStep l m s) := by
  have h : AtLines s (s.setLine l { s.line l with step := some m }) := .setLine_of_eq (.refl s) rfl
  unfold beginStep
  dsimp only
  split
  · exact h.trans (faultLine_atLines ..)
  · exact h.trans (plyStep_atLines ..)
  · exact h.trans (loopStep_atLines ..)
  · exact h.trans (panelEndStep_atLines ..)
  · exact h.trans ((signalLatch_atLines ..).trans (completeStep_atLines ..))
  · exact h.trans (awaitStep_atLines ..)
  · exact h.trans (faultLine_atLines ..)

theorem goOff_atLines (l : Line) (s : State) : AtLines s (goOff l s) := by
  unfold goOff
  split
  · exact .setLine_of_eq (.refl s) rfl
  · exact (withdrawLine_atLines ..).trans ((reportDraw_atLines ..).trans (enterOff_atLines ..))

theorem enterMode_atLines (l : Line) (m : LineMode) (s : State) : AtLines s (enterMode l m s) := by
  cases m with
  | off => exact goOff_atLines l s
  | load => exact .setLine (.refl s) fun h => ⟨h.panels, h.number, replicate_none_loops⟩
  | direct => exact .setLine (.refl s) fun h => ⟨h.panels, h.number, replicate_none_loops⟩
  | run => exact .setLine_of_eq (.refl s) rfl

theorem stopWait_atLines (l : Line) (s : State) : AtLines s (stopWait l s) :=
  .setLine_of_eq (withdrawLine_atLines l s) rfl

theorem holdLine_atLines (l : Line) (s : State) : AtLines s (holdLine l s) := by
  unfold holdLine
  split
  iterate 4 exact stopWait_atLines l s
  all_goals exact .setLine_of_eq (.refl s) rfl

theorem runLine_atLines (l : Line) (s : State) : AtLines s (runLine l s) := by
  have h : AtLines s (s.setLine l { s.line l with exec := .run }) := .setLine_of_eq (.refl s) rfl
  unfold runLine
  dsimp only
  split
  · exact .refl s
  · split
    · exact h.trans (beginStep_atLines ..)
    · exact h

theorem setExec_atLines (l : Line) (e : Exec) (s : State) : AtLines s (setExec l e s) := by
  cases e with
  | run => exact runLine_atLines l s
  | hold => exact holdLine_atLines l s
  | step => exact .trans (.setLine_of_eq (.refl s) (by rfl)) (beginStep_atLines ..)
  | once => exact .trans (.setLine_of_eq (.refl s) (by rfl)) (beginStep_atLines ..)

theorem cancelDrawOn_atLines (l : Line) (s : State) : AtLines s (cancelDrawOn l s) :=
  .setLine_of_eq ((withdrawLine_atLines l s).trans (reportDraw_atLines ..)) rfl

theorem closeWaiting_atLines (l : Line) (s : State) : AtLines s (closeWaiting l s) := by
  unfold closeWaiting
  dsimp only
  split
  · exact finishPanelEnd_atLines ..
  · exact .refl s

theorem takePanel_atLines {l : Line} {r : PanelRecord} {rest : List PanelRecord} {s : State}
    (hq : (s.line l).panelQueue = r :: rest) : AtLines s (closeWaiting l
      ((s.abandonAll (r.plies.map (·.sheet))).setLine l { s.line l with panelQueue := rest })) := by
  refine .trans (.setLine (.abandonAll (.refl s)) fun h => ?_) (closeWaiting_atLines ..)
  rw [State.line_abandonAll] at h
  have hp := h.panels
  rw [hq, List.length_cons] at hp
  exact ⟨Nat.le_of_succ_le hp, h.number, h.loops⟩

theorem abortPick_atLines (l : Line) (s : State) : AtLines s (abortPick l s) := by
  unfold abortPick
  split
  · exact .refl s
  · exact clearPick_atLines ..

theorem estopLine_atLines (l : Line) (s : State) : AtLines s (estopLine l s) := by
  have ht : AtLines s (withdrawLine l (abortPick l s)) := (abortPick_atLines ..).trans (withdrawLine_atLines ..)
  unfold estopLine
  dsimp only
  split
  · exact .refl s
  · exact ht.trans ((reportDraw_atLines ..).trans (enterOff_atLines ..))
  · exact .setLine_of_eq ht rfl
  · split
    · exact .setLine_of_eq (ht.trans (reportDraw_atLines ..)) rfl
    · exact .refl s
  · exact .refl s
  · exact .refl s

end Sys2Proof.Machine
end

section
/-!
PROOFS. What the events of intake and tracking can do outside their own blocks, what the gradings that go on can do, and the
effects and events sorted by what they leave alone.
-/

namespace Sys2Proof.Machine

/-! ## Repetition -/

/-- What one application relates, several relate. -/
theorem iterate_rel {α : Type} {R : α → α → Prop} (hr : ∀ x, R x x) (ht : ∀ x y z, R x y → R y z → R x z) {f : α → α}
    (hf : ∀ x, R x (f x)) : ∀ (n : Nat) (x : α), R x (iterate f n x)
  | 0, x => hr x
  | n + 1, x => ht _ _ _ (hf x) (iterate_rel hr ht hf n (f x))

theorem foldl_rel {α β : Type} {R : α → α → Prop} (hr : ∀ x, R x x) (ht : ∀ x y z, R x y → R y z → R x z)
    {f : α → β → α} (hf : ∀ x b, R x (f x b)) : ∀ (bs : List β) (x : α), R x (bs.foldl f x)
  | [], x => hr x
  | b :: bs, x => ht _ _ _ (hf x b) (foldl_rel hr ht hf bs (f x b))

/-! ## Events of the mill -/

namespace MillOnly

variable {s t : State}

theorem iterate {f : State → State} (hf : ∀ s, MillOnly s (f s)) (n : Nat) (s : State) :
    MillOnly s (Machine.iterate f n s) := iterate_rel .refl (fun _ _ _ h k => h.trans k) hf n s

theorem foldl {β : Type} {f : State → β → State} (hf : ∀ s b, MillOnly s (f s b)) (bs : List β) (s : State) :
    MillOnly s (bs.foldl f s) := foldl_rel .refl (fun _ _ _ h k => h.trans k) hf bs s

theorem setTracking (h : MillOnly s t) (x : Tracking) : MillOnly s (t.setTracking x) := h.trans (.of_eq rfl)
theorem setQueue (h : MillOnly s t) (q : List TrackEntry) : MillOnly s (t.setQueue q) := h.trans (.of_eq rfl)
theorem setStack (h : MillOnly s t) (k : StackId) (x : Stack) : MillOnly s (t.setStack k x) := h.trans (.of_eq rfl)
theorem setSk (h : MillOnly s t) (x : Stacks) : MillOnly s (t.setSk x) := h.trans (.of_eq rfl)
theorem setLane (h : MillOnly s t) (l : Lane) (x : IntakeLane) : MillOnly s (t.setLane l x) := h.trans (.of_eq rfl)
theorem setIntake (h : MillOnly s t) (x : Intake) : MillOnly s (t.setIntake x) := h.trans (.of_eq rfl)
theorem setLines (h : MillOnly s t) (x : Lines) : MillOnly s (t.setLines x) := h.trans (.of_eq rfl)
theorem countRunOut (h : MillOnly s t) : MillOnly s t.countRunOut := h.trans (.of_eq rfl)
theorem raise (h : MillOnly s t) (n : Notice) : MillOnly s (t.raise n) := h.trans (raise_millOnly t n)
theorem raiseIf (h : MillOnly s t) (c : Bool) (n : Notice) : MillOnly s (t.raiseIf c n) := h.trans (raiseIf_millOnly t c n)
theorem abandon (h : MillOnly s t) (r : SheetRecord) (d : Bool) : MillOnly s (t.abandon r d) :=
  h.trans (abandon_millOnly t r d)
theorem abandonAll (h : MillOnly s t) (rs : List SheetRecord) : MillOnly s (t.abandonAll rs) :=
  h.trans (abandonAll_millOnly t rs)

theorem settle {e : StackEvent} (h : MillOnly s e.st) : MillOnly s e.settle := h.trans e.settle_atLines.toMillOnly
theorem setState {e : StackEvent} (h : MillOnly s e.st) (k : StackId) (new : StackState) :
    MillOnly s (e.setState k new).st := h.trans (e.setState_atLines k new).toMillOnly
theorem drainClose {e : StackEvent} (h : MillOnly s e.st) (k : StackId) : MillOnly s (e.drainClose k).st :=
  h.trans (e.drainClose_atLines k).toMillOnly
theorem grantCheck {e : StackEvent} (h : MillOnly s e.st) (k : StackId) : MillOnly s (e.grantCheck k).st :=
  h.trans (e.grantCheck_atLines k).toMillOnly
theorem drainCloses {e : StackEvent} (h : MillOnly s e.st) (ks : List StackId) :
    MillOnly s (ks.foldl StackEvent.drainClose e).st := h.trans (e.drainCloses_atLines ks).toMillOnly
theorem grantChecks {e : StackEvent} (h : MillOnly s e.st) (ks : List StackId) :
    MillOnly s (ks.foldl StackEvent.grantCheck e).st := h.trans (e.grantChecks_atLines ks).toMillOnly

end MillOnly

/-! ## Intake -/

theorem overrun_millOnly (l : Lane) (s : State) : MillOnly s (overrun l s) :=
  .raiseIf (.raise (.setLane (.refl s) l _) _) _ _

theorem resyncLane_millOnly (l : Lane) (s : State) : MillOnly s (resyncLane l s) :=
  .setLane (.abandonAll (.refl s) _) l _

theorem expireDue_millOnly (l : Lane) (s : State) : MillOnly s (expireDue l s) := by
  unfold expireDue
  split
  · unfold expireHead
    split
    · exact .refl s
    · exact .raise (.setLane (.abandon (.refl s) _ _) l _) _
  · exact .refl s

theorem handOver_millOnly (r : SheetRecord) (s : State) : MillOnly s (handOver r s) := by
  unfold handOver
  split
  · exact .countRunOut (.abandon (.refl s) _ _)
  · split
    · exact .setQueue (.refl s) _
    · exact .raise (.countRunOut (.abandon (.refl s) _ _)) _

theorem countSheet_millOnly (s : State) : MillOnly s s.countSheet := .of_eq rfl

theorem mergeLane_millOnly (l : Lane) (s : State) : MillOnly s (mergeLane l s) := by
  unfold mergeLane
  dsimp only
  split
  · exact .trans (.setLane (countSheet_millOnly s) l _) (handOver_millOnly ..)
  · split
    · exact .trans (.setLane (.refl s) l _) (handOver_millOnly ..)
    · exact .trans (.raise (countSheet_millOnly s) _) (handOver_millOnly ..)

/-! ## Tracking -/

theorem takeDecision_millOnly (p : TrackEntry → Bool) (s : State) : MillOnly s (takeDecision p s) := by
  unfold takeDecision
  split
  · exact .refl s
  · next e _ =>
    have ha : MillOnly s (if e.sheet.cls.isNone then s.abandon e.sheet false else s) := by
      split
      · exact abandon_millOnly ..
      · exact .refl s
    have hu := (ha.setQueue (updateFirst p (fun x => x.decidedBy (decideStack e.fixedClass s)) s.tracking.queue)).raiseIf
      e.sheet.cls.isNone .gradeLate
    dsimp only
    split
    · exact hu
    · exact .raiseIf (hu.setStack _ _) _ _

theorem takeApproach_millOnly (p : TrackEntry → Bool) (s : State) : MillOnly s (takeApproach p s) := by
  unfold takeApproach
  split
  · exact .refl s
  · exact .setStack (.setQueue (.refl s) _) _ _

theorem fireDrop_millOnly (p : TrackEntry → Bool) (e : TrackEntry) (k : StackId) (s : State) :
    MillOnly s (fireDrop p e k s) := .setSk (.setStack (.setQueue (.refl s) _) _ _) _

theorem abandonDrop_millOnly (p : TrackEntry → Bool) (k : StackId) (s : State) : MillOnly s (abandonDrop p k s) :=
  .settle (.grantCheck (.drainClose (.raise (.setStack (.setQueue (.refl s) _) _ _) _) k) k)

theorem takeGate_millOnly (p : TrackEntry → Bool) (s : State) : MillOnly s (takeGate p s) := by
  unfold takeGate
  split
  · exact .refl s
  · split
    · exact .refl s
    · split
      · exact fireDrop_millOnly ..
      · exact abandonDrop_millOnly ..

theorem takeRunOut_millOnly (p : TrackEntry → Bool) (s : State) : MillOnly s (takeRunOut p s) := by
  rcases takeRunOut_cases p s with h | ⟨e, -, h⟩
  · rw [h]; exact .refl s
  · rw [h]; exact .countRunOut (.setQueue (.abandon (.refl s) _ _) _)

theorem commanded_millOnly {take : (TrackEntry → Bool) → State → State} (h : ∀ p s, MillOnly s (take p s))
    (due : Geometry → TrackEntry → Bool) (n : Nat) (s : State) : MillOnly s (commanded due take n s) := by
  unfold commanded
  split
  · exact h _ _
  · exact .refl s

theorem takeOwedBy_millOnly (e : TrackEntry) (s : State) : MillOnly s (takeOwedBy e s) := by
  unfold takeOwedBy
  dsimp only
  split
  · exact takeDecision_millOnly ..
  · exact takeApproach_millOnly ..
  · exact takeGate_millOnly ..
  · exact takeRunOut_millOnly ..
  · exact .refl s

theorem takeOwed_millOnly (s : State) : MillOnly s (takeOwed s) := by
  unfold takeOwed
  split
  · exact .refl s
  · exact takeOwedBy_millOnly ..
  · have h : MillOnly s { s with choices := s.choices + 1 } := .of_eq rfl
    exact h.trans (takeOwedBy_millOnly ..)

theorem takeAllOwed_millOnly (s : State) : MillOnly s (takeAllOwed s) := .iterate takeOwed_millOnly _ s

theorem moveEntries_millOnly (s : State) : MillOnly s (moveEntries s) := .of_eq rfl

theorem startStall_millOnly (s : State) : MillOnly s (startStall s) := by
  unfold startStall
  split
  · exact .of_eq rfl
  · exact .refl s

theorem releaseReservation_millOnly (e : TrackEntry) (s : State) : MillOnly s (releaseReservation e s) := by
  unfold releaseReservation
  split
  · exact .of_eq rfl
  · exact .refl s

theorem releaseClaims_millOnly (e : TrackEntry) (s : State) : MillOnly s (releaseClaims e s) := by
  unfold releaseClaims
  split
  · exact .of_eq rfl
  · exact .of_eq rfl
  · exact .refl s

theorem takeStall_millOnly (s : State) : MillOnly s (takeStall s) :=
  .settle (.grantChecks (.raise (.setTracking (.foldl (fun s e => releaseReservation_millOnly e s) _ s) _) _) _)

theorem clearTracking_millOnly (s : State) : MillOnly s (clearTracking s) :=
  have h := (abandonAll_millOnly s (s.tracking.queue.map (·.sheet))).trans
    (.foldl (fun s e => releaseClaims_millOnly e s) s.tracking.queue _)
  .settle (.grantChecks (.drainCloses (.trans (.setTracking h _) (startStall_millOnly _)) _) _)

/-! ## Landings and parameters -/

theorem pushFalling_millOnly (k : StackId) (unconfirmed : Bool) (s : State) :
    MillOnly s (pushFalling k unconfirmed s) := by
  unfold pushFalling
  dsimp only
  split
  · exact .refl s
  · exact .of_eq rfl

theorem landOn_millOnly (k : StackId) (s : State) : MillOnly s (landOn k s) :=
  .settle (.grantCheck (pushFalling_millOnly k false s) k)

theorem missLanding_millOnly (k : StackId) (s : State) : MillOnly s (missLanding k s) := by
  unfold missLanding
  split
  · exact .settle (.setState (.raise (.raise (pushFalling_millOnly k true s) _) _) k .faulted)
  · exact .refl s

theorem settleFalling_millOnly (s : State) (k : StackId) : MillOnly s (settleFalling s k) :=
  .iterate (missLanding_millOnly k) _ s

theorem paramApply_millOnly (q : Param) (v : Nat) (s : State) : MillOnly s (q.apply v s) := by
  cases q with
  | ageLimit =>
    exact .trans (.trans (.setIntake (.refl s) _) (.iterate (expireDue_millOnly .lane1) _ _))
      (.iterate (expireDue_millOnly .lane2) _ _)
  | stallLimit =>
    have h : MillOnly s (s.setTracking { s.tracking with stallLimit := v }) := .of_eq rfl
    simp only [Param.apply, setStallLimit]
    split
    · exact .of_eq rfl
    · split
      · exact h.trans (startStall_millOnly _)
      · split
        · exact h.trans (takeStall_millOnly _)
        · exact h
  | landingLimit => exact .trans (.setSk (.refl s) _) (.foldl settleFalling_millOnly _ _)
  | pickLimit =>
    exact .trans (.trans (.setLines (.refl s) _) (timeOutPick_atLines .a _).toMillOnly)
      (timeOutPick_atLines .b _).toMillOnly
  | starveLimit =>
    exact .trans (.trans (.setLines (.refl s) _) (noticeStarved_atLines .a _).toMillOnly)
      (noticeStarved_atLines .b _).toMillOnly
  | priority => exact .of_eq rfl
  | decision => exact .of_eq rfl
  | window => exact .of_eq rfl
  | gate k => exact .of_eq rfl
  | runOut => exact .of_eq rfl

/-! ## Walks -/

theorem beginSpecies_inside {d : Option Descriptor} {code : Nat} {w : Walk} (h : beginSpecies d code = .ok w) :
    w.inside := by
  unfold beginSpecies at h
  split at h
  · cases h
  · split at h
    · cases h
    · split at h
      · cases h
      · next hle =>
        cases h
        exact Nat.lt_succ_of_le (not_not.mp hle)

theorem beginPath_inside {content : Cell16} {k : Nat} {w : Walk} (h : beginPath content k = .ok w) : w.inside := by
  unfold beginPath at h
  split at h
  · cases h
  · next hle =>
    cases h
    exact Nat.lt_succ_of_le (not_not.mp hle)

theorem feed_inside {w v : Walk} {x : Cell16} (hw : w.inside) (h : w.feed x = .more v) : v.inside := by
  cases w with
  | species c =>
    simp only [Walk.feed] at h
    split at h
    · cases h
    · split at h <;> cases h
  | thickness c =>
    simp only [Walk.feed] at h
    split at h
    · cases h
    · split at h
      · cases h
      · split at h
        · cases h
        · next hle =>
          cases h
          exact Nat.lt_succ_of_le (not_not.mp hle)
  | limits1 tc t c =>
    simp only [Walk.feed] at h
    split at h
    · cases h
    · cases h
      exact hw
  | limits2 tc t lc l c =>
    simp only [Walk.feed] at h
    split at h <;> cases h

theorem Walk.next_lt {w : Walk} (h : w.inside) : w.next < Config.cellCount := by
  cases w with
  | species c => exact h
  | thickness c => exact h
  | limits1 tc t c => exact Nat.lt_of_succ_lt h
  | limits2 tc t lc l c => exact h

/-- A walk that the stages wait for reads only cells that there are. -/
def GradeNext.Inside : GradeNext → Prop
  | .wait _ _ w => w.inside
  | .done _ => True

theorem stage3_inside (x : RuleCache) (d : Descriptor) (r : SheetRecord) (c : SpeciesCopy) (k : Nat) :
    (stage3 x d r c k).Inside := by
  unfold stage3
  split
  · trivial
  · split
    · trivial
    · next h => exact beginPath_inside h

theorem stage2_inside (x : RuleCache) (d : Descriptor) (r : SheetRecord) (c : SpeciesCopy) :
    (stage2 x d r c).Inside := by
  unfold stage2
  split
  · trivial
  · exact stage3_inside ..

theorem stage1_inside (x : RuleCache) (d : Descriptor) (r : SheetRecord) : (stage1 x d r).Inside := by
  unfold stage1
  split
  · exact stage2_inside ..
  · split
    · trivial
    · next h => exact beginSpecies_inside h

theorem beginStages_inside (u : Lane) (r : SheetRecord) (s : State) : (beginStages u r s).2.Inside := by
  unfold beginStages
  split
  · trivial
  · exact stage1_inside ..

/-! ## Gradings that go on -/

/-- Element by element, a list is another one updated. -/
theorem forall₂_updateFirst {α : Type} {R : α → α → Prop} (hr : ∀ x, R x x) (p : α → Bool) {f : α → α}
    (hf : ∀ x, R x (f x)) : ∀ xs : List α, List.Forall₂ R xs (updateFirst p f xs)
  | [] => .nil
  | x :: xs => by
    unfold updateFirst
    split
    · exact .cons (hf x) (List.forall₂_same.mpr fun x _ => hr x)
    · exact .cons (hr x) (forall₂_updateFirst hr p hf xs)

/-- An intake entry with its record graded, all else as it was. -/
def IntakeEntry.Regraded (e f : IntakeEntry) : Prop :=
  f.age = e.age ∧ f.sheet.lane = e.sheet.lane ∧ f.sheet.gapsAfter = e.sheet.gapsAfter

/-- A tracking entry with its record graded, all else as it was. -/
def TrackEntry.Regraded (e f : TrackEntry) : Prop :=
  f.distance = e.distance ∧ f.stack = e.stack ∧ f.drop = e.drop ∧ f.decided = e.decided

/-- Every walk of a grading in flight reads only cells that there are. -/
def JobsInside (s : State) : Prop := ∀ u j, s.job u = some j → j.walk.inside

/-- `t` differs from `s` at most in the gradings in flight, whose walks read only cells there are, in what is graded of the
records of intake and tracking, and in notices raised. -/
structure GradesOnly (s t : State) : Prop where
  tables   : t.tables = s.tables
  caches   : t.caches = s.caches
  pins     : t.pins = s.pins
  routing  : t.routing = s.routing
  sk       : t.sk = s.sk
  lines    : t.lines = s.lines
  numbers  : t.intake.counter = s.intake.counter ∧ t.intake.ageLimit = s.intake.ageLimit
  lanes    : ∀ l, (t.lane l).gaps = (s.lane l).gaps ∧ List.Forall₂ IntakeEntry.Regraded (s.lane l).queue (t.lane l).queue
  tracking : t.tracking.geometry = s.tracking.geometry ∧ t.tracking.stallLimit = s.tracking.stallLimit
  queue    : List.Forall₂ TrackEntry.Regraded s.tracking.queue t.tracking.queue
  jobs     : JobsInside s → JobsInside t
  notices  : ∀ p, ∃ n : BitVec 32, n &&& ~~~namedFlags = 0 ∧
    t.port p = { s.port p with notices := (s.port p).notices ||| n }

theorem IntakeEntry.Regraded.refl (e : IntakeEntry) : e.Regraded e := ⟨rfl, rfl, rfl⟩

theorem TrackEntry.Regraded.refl (e : TrackEntry) : e.Regraded e := ⟨rfl, rfl, rfl, rfl⟩

theorem forall₂_trans {α : Type} {R : α → α → Prop} (ht : ∀ x y z, R x y → R y z → R x z) :
    ∀ {xs ys zs : List α}, List.Forall₂ R xs ys → List.Forall₂ R ys zs → List.Forall₂ R xs zs
  | _, _, _, .nil, .nil => .nil
  | _, _, _, .cons h hs, .cons k ks => .cons (ht _ _ _ h k) (forall₂_trans ht hs ks)

namespace GradesOnly

theorem refl (s : State) : GradesOnly s s where
  tables := rfl
  caches := rfl
  pins := rfl
  routing := rfl
  sk := rfl
  lines := rfl
  numbers := ⟨rfl, rfl⟩
  lanes _ := ⟨rfl, List.forall₂_same.mpr fun e _ => .refl e⟩
  tracking := ⟨rfl, rfl⟩
  queue := List.forall₂_same.mpr fun e _ => .refl e
  jobs h := h
  notices := (MillOnly.refl s).notices

theorem trans {s t u : State} (h : GradesOnly s t) (k : GradesOnly t u) : GradesOnly s u where
  tables := k.tables.trans h.tables
  caches := k.caches.trans h.caches
  pins := k.pins.trans h.pins
  routing := k.routing.trans h.routing
  sk := k.sk.trans h.sk
  lines := k.lines.trans h.lines
  numbers := ⟨k.numbers.1.trans h.numbers.1, k.numbers.2.trans h.numbers.2⟩
  lanes l := ⟨(k.lanes l).1.trans (h.lanes l).1,
    forall₂_trans (fun _ _ _ ⟨a, b, c⟩ ⟨a', b', c'⟩ => ⟨a'.trans a, b'.trans b, c'.trans c⟩) (h.lanes l).2 (k.lanes l).2⟩
  tracking := ⟨k.tracking.1.trans h.tracking.1, k.tracking.2.trans h.tracking.2⟩
  queue := forall₂_trans (fun _ _ _ ⟨a, b, c, d⟩ ⟨a', b', c', d'⟩ =>
    ⟨a'.trans a, b'.trans b, c'.trans c, d'.trans d⟩) h.queue k.queue
  jobs hj := k.jobs (h.jobs hj)
  notices p := by
    obtain ⟨m, hm, h⟩ := h.notices p
    obtain ⟨n, hn, k⟩ := k.notices p
    refine ⟨m ||| n, ?_, by rw [k, h]; simp [BitVec.or_assoc]⟩
    rw [BitVec.and_comm] at hm hn ⊢
    rw [BitVec.and_or_distrib_left, hm, hn]
    rfl

/-- A lane whose records are graded. -/
theorem setLane {s : State} {l : Lane} {q : List IntakeEntry}
    (h : List.Forall₂ IntakeEntry.Regraded (s.lane l).queue q) :
    GradesOnly s (s.setLane l { s.lane l with queue := q }) :=
  { refl s with
    lanes := fun m => by
      by_cases hm : m = l
      · subst hm; simpa using h
      · rw [State.lane_setLane_other _ _ hm]; exact (refl s).lanes m
    jobs := fun h => h
    notices := fun p => (refl s).notices p }

/-- Tracking entries whose records are graded. -/
theorem setQueue {s : State} {q : List TrackEntry} (h : List.Forall₂ TrackEntry.Regraded s.tracking.queue q) :
    GradesOnly s (s.setQueue q) :=
  { refl s with
    tracking := ⟨rfl, rfl⟩
    queue := h
    lanes := fun m => (refl s).lanes m
    jobs := fun h => h
    notices := fun p => (refl s).notices p }

theorem raiseIf (s : State) (c : Bool) (n : Notice) : GradesOnly s (s.raiseIf c n) :=
  { refl s with
    tables := by simp
    caches := by simp
    pins := by simp
    routing := by simp
    sk := by simp
    lines := by simp
    numbers := by simp
    tracking := by simp
    queue := by simpa using (refl s).queue
    lanes := by simpa using (refl s).lanes
    jobs := fun h u j hj => h u j (by simpa using hj)
    notices := (raiseIf_millOnly s c n).notices }

theorem setJob {s : State} {u : Lane} {x : Option GradingJob} (h : JobsInside s → ∀ j, x = some j → j.walk.inside) :
    GradesOnly s (s.setJob u x) :=
  { refl s with
    lanes := fun m => (refl s).lanes m
    notices := fun p => (refl s).notices p
    jobs := fun hs v j hj => by
      by_cases hv : v = u
      · subst hv; exact h hs j (by simpa using hj)
      · rw [State.job_setJob_other _ _ hv] at hj; exact hs v j hj }

end GradesOnly

theorem deliver_gradesOnly (u : Lane) (n : Nat) (g : GradeResult) (s : State) : GradesOnly s (deliver u n g s) := by
  unfold deliver
  split
  · refine .trans (.setLane ?_) (.raiseIf _ _ _)
    exact forall₂_updateFirst .refl _ (fun _ => ⟨rfl, rfl, rfl⟩) _
  · split
    · refine .trans (.setQueue ?_) (.raiseIf _ _ _)
      exact forall₂_updateFirst .refl _ (fun _ => ⟨rfl, rfl, rfl, rfl⟩) _
    · exact .refl s

theorem takeOldest_gradesOnly {u : Lane} {s t : State} {r : SheetRecord} (h : takeOldest u s = some (r, t)) :
    GradesOnly s t := by
  unfold takeOldest at h
  split at h
  · cases h
    exact .setQueue (forall₂_updateFirst .refl _ (fun _ => ⟨rfl, rfl, rfl, rfl⟩) _)
  · split at h
    · cases h
      exact .setLane (forall₂_updateFirst .refl _ (fun _ => ⟨rfl, rfl, rfl⟩) _)
    · cases h

theorem gradeOn_gradesOnly (u : Lane) : ∀ (fuel : Nat) (s : State), GradesOnly s (gradeOn u fuel s)
  | 0, s => .refl s
  | fuel + 1, s => by
    unfold gradeOn
    split
    · exact .refl s
    · split
      · exact .refl s
      · next r t ht =>
        have hi := beginStages_inside u r t
        split
        · next d c k w hb =>
          rw [hb] at hi
          exact .trans (takeOldest_gradesOnly ht) (.setJob fun _ j hj => by cases hj; exact hi)
        · exact .trans (.trans (takeOldest_gradesOnly ht) (deliver_gradesOnly ..)) (gradeOn_gradesOnly u fuel _)

theorem gradeNext_gradesOnly (u : Lane) (s : State) : GradesOnly s (gradeNext u s) := gradeOn_gradesOnly u _ s

theorem finishGrading_gradesOnly (u : Lane) (s : State) : GradesOnly s (finishGrading u s) :=
  .trans (.setJob fun _ j h => by cases h) (gradeNext_gradesOnly ..)

theorem advance_gradesOnly {u : Lane} {j : GradingJob} {next : GradeNext} {s : State} (h : next.Inside) :
    GradesOnly s (advance u j next s) := by
  cases next with
  | wait c k w => exact .setJob fun _ j hj => by cases hj; exact h
  | done g => exact .trans (deliver_gradesOnly ..) (finishGrading_gradesOnly ..)

/-- A granted read of a unit's walk forms what it forms in the unit's own cache, and the grading goes on. -/
theorem unitRead_cases {u : Lane} {j : GradingJob} (x : Cell16) {s : State} (hj : s.job u = some j) :
    ∃ f : RuleCache → RuleCache, (f = id ∨ (∃ b, f = fun c => c.form b) ∨ ∃ p, f = formPath j p) ∧
      GradesOnly (s.setCache u (f (s.cache u))) (unitRead u j x s) := by
  have hid : s.setCache u (s.cache u) = s := by cases u <;> rfl
  unfold unitRead
  split
  · next w hf => 
    refine ⟨id, .inl rfl, ?_⟩
    rw [id, hid]
    exact .setJob fun hs i hi => by cases hi; exact feed_inside (hs u j hj) hf
  · refine ⟨id, .inl rfl, ?_⟩
    rw [id, hid]
    split
    · exact finishGrading_gradesOnly ..
    · exact advance_gradesOnly trivial
  · next c _ =>
    refine ⟨_, .inr (.inl ⟨speciesBody j.descriptor j.code c, rfl⟩), ?_⟩
    dsimp only
    split
    · exact finishGrading_gradesOnly ..
    · split
      · exact finishGrading_gradesOnly ..
      · exact advance_gradesOnly (stage2_inside ..)
  · next p _ =>
    refine ⟨_, .inr (.inr ⟨p, rfl⟩), ?_⟩
    dsimp only
    split
    · exact finishGrading_gradesOnly ..
    · split
      · exact finishGrading_gradesOnly ..
      · exact advance_gradesOnly trivial

/-! ## Effects and events sorted -/

/-- An effect leaves tables, caches, pins and ports alone but for notices; or it sets notices or mask of its port; or it
accepts a sheet, or writes a root slot, or changes the caches it names. -/
theorem Effect.sorted {p : Port} {s t : State} (h : Effect p s t) : MillOnly s t ∨
    (∃ x : PortState, x.pending = (s.port p).pending ∧ t = s.setPort p x) ∨
    (∃ lane r, (s.lane lane).queue.length < Config.intakeCapacity ∧ r.lane = lane ∧ r.gapsAfter = 0 ∧
      t = acceptSheet lane r s) ∨
    (∃ k d, t = s.setRoot k d) ∨
    (∃ scope f, ((∃ m, m ≠ .split ∧ f = fun c => c.setMode m) ∨ ∃ keep, f = fun c => c.purged keep) ∧
      t = s.onCaches scope f) := by
  cases h with
  | same => exact .inl (.refl s)
  | notices m => exact .inr (.inl ⟨{ s.port p with notices := acknowledged (s.port p).notices m s.estop }, rfl, rfl⟩)
  | noticeMask m => exact .inr (.inl ⟨{ s.port p with mask := m }, rfl, rfl⟩)
  | parameter q v => exact .inl (paramApply_millOnly q v s)
  | accept body lane hq => exact .inr (.inr (.inl ⟨lane, _, hq, rfl, rfl, rfl⟩))
  | overrun lane => exact .inl (overrun_millOnly lane s)
  | resync lane => exact .inl (resyncLane_millOnly lane s)
  | root k d => exact .inr (.inr (.inr (.inl ⟨k, d, rfl⟩)))
  | current k => exact .inl (.of_eq rfl)
  | cacheMode scope m hm => exact .inr (.inr (.inr (.inr ⟨scope, _, .inl ⟨m, hm, rfl⟩, rfl⟩)))
  | purge scope keep => exact .inr (.inr (.inr (.inr ⟨scope, _, .inr ⟨keep, rfl⟩, rfl⟩)))
  | trackClear => exact .inl (clearTracking_millOnly s)
  | routing x => exact .inl (.of_eq rfl)
  | openStack k => exact .inl (.settle (.setState (.refl s) k _))
  | drainStack k => exact .inl (.settle (.drainClose (.setState (.refl s) k _) k))
  | closeStack k => exact .inl (.settle (.setState (.refl s) k _))
  | clearStack k => exact .inl (.setStack (.abandonAll (.refl s) _) k _)
  | capacity k c => exact .inl (.of_eq rfl)
  | access k m => exact .inl (changeAccess_atLines k m s).toMillOnly
  | lineMode l m => exact .inl (enterMode_atLines l m s).toMillOnly
  | lineExec l e => exact .inl (setExec_atLines l e s).toMillOnly
  | steps l pattern => exact .inl (.of_eq rfl)
  | pointer l n => exact .inl (.of_eq rfl)
  | lineFault l => exact .inl (.of_eq rfl)
  | signal l => exact .inl (signalLatch_atLines l s).toMillOnly
  | draw l g pref role => exact .inl (beginDraw_atLines l _ s).toMillOnly
  | cancelDraw l => exact .inl (cancelDrawOn_atLines l s).toMillOnly
  | closePanel l => exact .inl (closePanelRecord_atLines ..).toMillOnly
  | takePanel l r rest hl hq => exact .inl (takePanel_atLines hq).toMillOnly

/-- An event leaves tables, caches, pins and ports alone but for notices, or it is one of a port's own receiver or
transmitter. -/
theorem EventOf.sorted {i : Instr} {f : State → State} (h : EventOf i f) (s : State) : MillOnly s (f s) ∨
    ∃ p, ∃ x : PortState, x.pending = (s.port p).pending ∧ f s = s.setPort p x := by
  cases h with
  | recordExpired l => exact .inl (expireDue_millOnly l s)
  | mergeEvent l => exact .inl (mergeLane_millOnly l s)
  | encoderCount =>
    refine .inl ?_
    dsimp only
    split
    · exact (takeAllOwed_millOnly s).trans (moveEntries_millOnly _)
    · exact .refl s
  | decisionPoint n => exact .inl (commanded_millOnly takeDecision_millOnly _ n s)
  | approach n => exact .inl (commanded_millOnly takeApproach_millOnly _ n s)
  | gate n => exact .inl (commanded_millOnly takeGate_millOnly _ n s)
  | runOut n => exact .inl (commanded_millOnly takeRunOut_millOnly _ n s)
  | encoderStall =>
    refine .inl ?_
    dsimp only
    split
    · exact takeStall_millOnly s
    · exact .refl s
  | landing k => exact .inl (landOn_millOnly k s)
  | missedLanding k => exact .inl (missLanding_millOnly k s)
  | lineStarved l => exact .inl (noticeStarved_atLines l s).toMillOnly
  | pickDone l =>
    refine .inl ?_
    dsimp only
    split
    · exact raise_millOnly s _
    · split
      · exact (pickDoneAfterEmpty_atLines ..).toMillOnly
      · exact (pickDoneOn_atLines ..).toMillOnly
  | pickEmpty l =>
    refine .inl ?_
    dsimp only
    split
    · exact raise_millOnly s _
    · exact (pickEmptyOn_atLines ..).toMillOnly
  | pickTimeout l => exact .inl (timeOutPick_atLines l s).toMillOnly
  | stepBegin l =>
    refine .inl ?_
    dsimp only
    split
    · exact (beginStep_atLines ..).toMillOnly
    · exact .refl s
  | byteGapTimeout p =>
    dsimp only
    split
    · exact .inr ⟨p, { s.port p with receiver := .hunting }, rfl, rfl⟩
    · exact .inl (.refl s)
  | answerSent p =>
    refine .inr ⟨p, _, ?_, rfl⟩
    unfold PortState.sent
    split <;> rfl

end Sys2Proof.Machine
end

section
/-!
PROOFS. The pins, the reset and the idle step; and the statements TablesSoundKept, SoundTablesMeetNoStop and
StepRunsFrontCommand.
-/

namespace Sys2Proof.Machine

/-! ## Pins, reset and the idle step -/

theorem releaseReset_millOnly (s : State) : MillOnly (s.setPins { s.pins with resetHeld := false }) (releaseReset s) :=
  (raiseIf_millOnly _ _ _).trans (startStall_millOnly _)

theorem assertEstop_millOnly (s : State) : MillOnly (s.setPins { s.pins with estop := true }) (assertEstop s) := by
  unfold assertEstop
  dsimp only
  split
  · exact .refl _
  · exact ((raise_millOnly _ _).trans (estopLine_atLines .a _).toMillOnly).trans (estopLine_atLines .b _).toMillOnly

/-- The command of a pin changes the level and, beyond that, only what events of the mill do. -/
theorem pin_millOnly {i : Instr} {s t : State}
    (hi : i = .convRunAssert ∨ i = .convRunDeassert ∨ i = .estopAssert ∨ i = .estopRelease ∨ i = .resetNRelease)
    (h : exec i s = .next t) : ∃ pins, MillOnly (s.setPins pins) t := by
  rcases hi with rfl | rfl | rfl | rfl | rfl
  · replace h : execConvRunAssert s = .next t := h
    unfold execConvRunAssert at h
    dsimp only at h
    split at h
    · cases h; exact ⟨s.pins, .refl s⟩
    · split at h
      · cases h; exact ⟨_, .refl _⟩
      · cases h; exact ⟨_, startStall_millOnly _⟩
  · cases h; exact ⟨{ s.pins with convRun := false }, .of_eq rfl⟩
  · replace h : Host.Outcome.next (if s.pins.estop then s else assertEstop s) = .next t := h
    cases h
    split
    · exact ⟨s.pins, .refl s⟩
    · exact ⟨_, assertEstop_millOnly s⟩
  · cases h; exact ⟨{ s.pins with estop := false }, .of_eq rfl⟩
  · replace h : Host.Outcome.next (if s.pins.resetHeld then releaseReset s else s) = .next t := h
    cases h
    split
    · exact ⟨_, releaseReset_millOnly s⟩
    · exact ⟨s.pins, .refl s⟩

theorem settleOwed_millOnly (s : State) : MillOnly s (settleOwed s) := by
  unfold settleOwed
  split
  · exact takeAllOwed_millOnly s
  · exact .refl s

/-! ## Table memory -/

theorem TablesSound.of_parts {s t : State} (h : TablesSound s) (ht : t.tables = s.tables)
    (hj : ∀ u j, t.job u = some j → j.walk.inside) : TablesSound t :=
  ⟨ht ▸ h.memory, hj, ht ▸ h.path⟩

theorem TablesSound.of_eq {s t : State} (h : TablesSound s) (he : (t.tables, t.grading) = (s.tables, s.grading)) :
    TablesSound t := by
  simp only [Prod.mk.injEq] at he
  exact h.of_parts he.1 fun u j e => h.jobs u j (by rwa [State.job, he.2] at e)

theorem TablesSound.millOnly {s t : State} (h : TablesSound s) (k : MillOnly s t) : TablesSound t :=
  h.of_parts k.tables fun u j hj => by
    rcases k.jobs u with e | ⟨i, _, hi, e⟩
    · exact h.jobs u j (e ▸ hj)
    · rw [e] at hj
      cases hj
      exact h.jobs u i hi

theorem TablesSound.gradesOnly {s t : State} (h : TablesSound s) (k : GradesOnly s t) : TablesSound t :=
  h.of_parts k.tables (k.jobs h.jobs)

/-- The walk a probe waits for reads only cells that there are. -/
def ProbeNext.Inside : ProbeNext → Prop
  | .wait run => run.walk.inside
  | .done _ => True

/-- The walk a LOCK PATHS waits for reads only cells that there are. -/
def LockNext.Inside : LockNext → Prop
  | .wait run => run.walk.inside
  | .done _ => True

theorem probePathLevel_inside (x : RuleCache) (a : ProbeArgs) (d : Descriptor) (r : ProbeReport) (c : SpeciesCopy)
    (k : Nat) : (probePathLevel x a d r c k).Inside := by
  unfold probePathLevel
  split
  · trivial
  · split
    · trivial
    · next h => exact beginPath_inside h

theorem probeClass_inside (x : RuleCache) (a : ProbeArgs) (d : Descriptor) (r : ProbeReport) (c : SpeciesCopy) :
    (probeClass x a d r c).Inside := by
  unfold probeClass
  split
  · trivial
  · exact probePathLevel_inside ..

theorem probeBegin_inside (x : RuleCache) (a : ProbeArgs) (root : Option Descriptor) : (probeBegin x a root).Inside := by
  unfold probeBegin
  split
  · trivial
  · split
    · exact probeClass_inside ..
    · split
      · trivial
      · next h => exact beginSpecies_inside h

theorem probeFeed_inside (x : RuleCache) (a : ProbeArgs) {run : ProbeRun} (cell : Cell16) (h : run.walk.inside) :
    (probeFeed x a run cell).Inside := by
  unfold probeFeed
  dsimp only
  split
  · next hf => exact feed_inside h hf
  · trivial
  · exact probeClass_inside ..
  · trivial

theorem lockOn_inside (d : Option Descriptor) (rs : List LockResult) (ps : List (Nat × Nat)) : (lockOn d rs ps).Inside := by
  induction ps generalizing rs with
  | nil => trivial
  | cons p ps ih =>
    unfold lockOn
    split
    · exact ih _
    · next h => exact beginSpecies_inside h

theorem beginPathLevel_inside (run : LockRun) (c : SpeciesCopy) : (run.beginPathLevel c).Inside := by
  unfold LockRun.beginPathLevel
  split
  · exact lockOn_inside ..
  · split
    · exact lockOn_inside ..
    · split
      · exact lockOn_inside ..
      · next h => exact beginPath_inside h

theorem lockFeed_inside (x : RuleCache) {run : LockRun} (cell : Cell16) (h : run.walk.inside) :
    (lockFeed x run cell).2.Inside := by
  unfold lockFeed
  split
  · next hf => exact feed_inside h hf
  · exact lockOn_inside ..
  · exact beginPathLevel_inside ..
  · split
    · exact lockOn_inside ..
    · exact lockOn_inside ..

/-- A change of the port path queue and of ports and caches keeps tables sound if the queue's accesses are inside. -/
theorem TablesSound.portPath {s t : State} (h : TablesSound s) (hm : t.tables.mem = s.tables.mem)
    (hj : t.grading = s.grading) (hq : ∀ q, q ∈ t.tables.portPath → q.work.inside) : TablesSound t :=
  ⟨hm ▸ h.memory, fun u j e => h.jobs u j (by rwa [State.job, hj] at e), hq⟩

theorem TablesSound.answerHead {s : State} {q : PathRequest} {rest : List PathRequest} (h : TablesSound s)
    (hq : s.tables.portPath = q :: rest) (st : Status) (body : List Byte) : TablesSound (answerHead q rest st body s) :=
  h.portPath rfl rfl fun q' hq' => h.path q' (hq ▸ List.mem_cons_of_mem q hq')

theorem TablesSound.keepHead {s : State} {q : PathRequest} {rest : List PathRequest} {w : TableWork}
    (h : TablesSound s) (hq : s.tables.portPath = q :: rest) (hw : w.inside) : TablesSound (keepHead q rest w s) :=
  h.portPath rfl rfl fun q' hq' => by
    rcases List.mem_cons.mp hq' with rfl | hq'
    · exact hw
    · exact h.path q' (hq ▸ List.mem_cons_of_mem q hq')

theorem TablesSound.takeHead : ∀ (fuel : Nat) {s : State}, TablesSound s → TablesSound (takeHead fuel s)
  | 0, _, h => h
  | fuel + 1, s, h => by
    unfold Machine.takeHead
    split
    · exact h
    · next q rest hq =>
      split
      · next a _ =>
        have hi := probeBegin_inside (s.cache a.unit) a (s.tables.roots.get a.slot)
        split
        · next run hr =>
          rw [hr] at hi
          exact h.keepHead hq fun r hr => by cases hr; exact hi
        · exact (h.answerHead hq _ _).takeHead fuel
      · next a _ =>
        have hi := lockOn_inside (s.tables.roots.get a.slot) [] a.paths
        have ht : TablesSound (s.setCache a.unit ((s.cache a.unit).setMode .split)) := h.of_eq rfl
        dsimp only
        split
        · next run hr =>
          rw [hr] at hi
          exact ht.keepHead hq fun r hr => by cases hr; exact hi
        · exact (ht.answerHead hq _ _).takeHead fuel
      all_goals exact h

theorem TablesSound.leaveHead {s : State} {q : PathRequest} {rest : List PathRequest} (h : TablesSound s)
    (hq : s.tables.portPath = q :: rest) (st : Status) (body : List Byte) : TablesSound (leaveHead q rest st body s) :=
  (h.answerHead hq st body).takeHead _

theorem TablesSound.joinPath {s : State} {q : PathRequest} (h : TablesSound s) (hq : q.work.inside) :
    TablesSound (joinPath q s) := by
  refine TablesSound.takeHead _ (h.portPath rfl rfl fun q' hq' => ?_)
  rcases List.mem_append.mp hq' with hq' | hq'
  · exact h.path q' hq'
  · cases List.mem_singleton.mp hq'
    exact hq

theorem TablesSound.writeCell {s : State} (h : TablesSound s) {n : Nat} (hn : n < Config.cellCount) (x : Cell16) :
    TablesSound (s.writeCell n x) :=
  ⟨Memory.setCell_wf h.memory hn, h.jobs, h.path⟩

theorem TablesSound.pathAccess {s : State} {q : PathRequest} {rest : List PathRequest} (h : TablesSound s)
    (hq : s.tables.portPath = q :: rest) (x : Cell16) : TablesSound (pathAccess q rest x s) := by
  have hi : q.work.inside := h.path q (hq ▸ List.mem_cons_self)
  unfold Machine.pathAccess
  split
  · next n content hw =>
    rw [hw] at hi
    exact (h.writeCell hi content).leaveHead hq _ _
  · exact h.leaveHead hq _ _
  · next n expected new scope hw =>
    rw [hw] at hi
    split
    · exact TablesSound.leaveHead ((h.writeCell hi new).of_eq (t := s.editCell n new scope) rfl) hq _ _
    · exact h.leaveHead hq _ _
  · next n scope hw =>
    rw [hw] at hi
    split
    · exact TablesSound.leaveHead ((h.writeCell hi _).of_eq (t := s.editCell n _ scope) rfl) hq _ _
    · exact h.leaveHead hq _ _
  · next a run hw =>
    rw [hw] at hi
    have hf := probeFeed_inside (s.cache a.unit) a x (hi run rfl)
    split
    · next hr =>
      rw [hr] at hf
      exact h.keepHead hq fun r hr => by cases hr; exact hf
    · exact h.leaveHead hq _ _
  · next a run hw =>
    rw [hw] at hi
    have hf := lockFeed_inside (s.cache a.unit) x (hi run rfl)
    split
    · next c _ hr =>
      rw [hr] at hf
      exact TablesSound.keepHead (h.of_eq (t := s.setCache a.unit c) rfl) hq fun r hr => by cases hr; exact hf
    · next c _ hr => exact TablesSound.leaveHead (h.of_eq (t := s.setCache a.unit c) rfl) hq _ _
  · exact h
  · exact h

theorem tablesSound_reset : TablesSound State.reset :=
  ⟨rfl, fun u j h => (by cases u <;> cases h), fun q h => nomatch h⟩

theorem tablesSound_kept : KeptByCommands TablesSound where
  frames p :=
    { receive := fun _ h => h.of_eq rfl
      answer := fun _ _ _ _ h => h.of_eq rfl
      join := fun _ _ _ _ hw h => h.joinPath hw
      effect := fun _ he h => by
        rcases he.sorted with hm | ⟨x, -, rfl⟩ | ⟨lane, r, -, -, -, rfl⟩ | ⟨k, d, rfl⟩ | ⟨scope, f, -, rfl⟩
        · exact h.millOnly hm
        · exact h.of_eq rfl
        · refine TablesSound.gradesOnly (h.of_eq ?_) (gradeNext_gradesOnly lane _)
          rfl
        · exact ⟨h.memory, h.jobs, h.path⟩
        · exact h.of_eq rfl }
  events := fun {i f s} hf _ h => by
    rcases hf.sorted s with hm | ⟨p, x, -, e⟩
    · exact h.millOnly hm
    · rw [e]; exact h.of_eq rfl
  singles := fun {i s t} hi h ht => by
    cases hi with
    | guWalkRead u =>
      replace ht : execGuWalkRead u s = .next t := ht
      unfold execGuWalkRead at ht
      split at ht
      · cases ht; exact h
      · split at ht
        · cases ht; exact h
        · next j hj =>
          split at ht
          · cases ht
          · next x _ =>
            cases ht
            have hg : TablesSound (s.granted (unitRequester u)) := ⟨h.memory, h.jobs, h.path⟩
            obtain ⟨f, -, k⟩ := unitRead_cases (s := s.granted (unitRequester u)) x hj
            exact TablesSound.gradesOnly (hg.of_eq (by rfl)) k
    | portAccessGrant =>
      replace ht : execPortAccessGrant s = .next t := ht
      unfold execPortAccessGrant at ht
      split at ht
      · cases ht; exact h
      · split at ht
        · cases ht; exact h
        · next q rest hq =>
          split at ht
          · cases ht; exact h
          · split at ht
            · cases ht
            · next x _ =>
              cases ht
              have hg : TablesSound (s.granted .port) := ⟨h.memory, h.jobs, h.path⟩
              exact hg.pathAccess hq x
    | resetN =>
      cases ht
      exact tablesSound_reset.of_eq rfl
    | convRunAssert =>
      obtain ⟨pins, k⟩ := pin_millOnly (.inl rfl) ht
      exact TablesSound.millOnly (h.of_eq (by rfl)) k
    | convRunDeassert =>
      obtain ⟨pins, k⟩ := pin_millOnly (.inr (.inl rfl)) ht
      exact TablesSound.millOnly (h.of_eq (by rfl)) k
    | estopAssert =>
      obtain ⟨pins, k⟩ := pin_millOnly (.inr (.inr (.inl rfl))) ht
      exact TablesSound.millOnly (h.of_eq (by rfl)) k
    | estopRelease =>
      obtain ⟨pins, k⟩ := pin_millOnly (.inr (.inr (.inr (.inl rfl)))) ht
      exact TablesSound.millOnly (h.of_eq (by rfl)) k
    | resetNRelease =>
      obtain ⟨pins, k⟩ := pin_millOnly (.inr (.inr (.inr (.inr rfl)))) ht
      exact TablesSound.millOnly (h.of_eq (by rfl)) k

theorem tablesSound_idle {s : State} (h : TablesSound s) : TablesSound (idle s) := by
  unfold idle
  split
  · exact h
  · exact (h.millOnly (settleOwed_millOnly s)).of_eq rfl

/-- Settles O5: table memory is written by accesses of the port path only, each at a cell whose number its request's check
has admitted, and every walk begins and goes on within the 2048 cells. -/
theorem tablesSoundKept : Obligations.TablesSoundKept :=
  fun _ _ h ht => tablesSound_kept.step (fun _ _ h => h.of_eq rfl) (fun _ => tablesSound_idle) h ht

/-! ## No stop -/

theorem accessCell_ok {s : State} {n : Nat} (h : n < Config.cellCount) : accessCell s n = .ok (s.tables.mem.cell n) :=
  if_pos h

theorem TableWork.cell_lt {w : TableWork} {n : Nat} (h : w.inside) (hc : w.cell = some n) : n < Config.cellCount := by
  cases w with
  | write m x => cases hc; exact h
  | read m => cases hc; exact h
  | replace m x y sc => cases hc; exact h
  | invalidate m sc => cases hc; exact h
  | probe a run =>
    obtain ⟨r, hr, rfl⟩ := Option.map_eq_some_iff.mp hc
    exact Walk.next_lt (h r hr)
  | lock a run =>
    obtain ⟨r, hr, rfl⟩ := Option.map_eq_some_iff.mp hc
    exact Walk.next_lt (h r hr)

/-- Bytes and frames always answer a next state. -/
theorem exec_next_of_port {i : Instr} {p : Port} (hi : i.frame.map (·.port) = some p ∨
    (∃ code tag body crc, i = .crcDiscard p code tag body crc) ∨ i = .leadByteWhileHunting p ∨
      ∃ n, i = .lengthAbove250 p n) (s : State) : ∃ t, exec i s = .next t := by
  rcases hi with hf | ⟨code, tag, body, crc, rfl⟩ | rfl | ⟨n, rfl⟩
  · obtain ⟨f, hi, rfl⟩ := Option.map_eq_some_iff.mp hf
    rw [exec_frame hi]
    exact receiveRequest_next (frameReceived_next s)
  · exact next_of_ite (receiveBytes_next ..) (next_of_ite ⟨_, rfl⟩ (next_of_ite (frameReceived_next s) ⟨_, rfl⟩))
  · exact receiveByte_next ..
  · exact receiveByte_next ..

theorem exec_next {s : State} (h : TablesSound s) (i : Instr) : ∃ t, exec i s = .next t := by
  rcases command_kinds i with ⟨p, -, hi⟩ | ⟨f, hf⟩ | hi
  · exact exec_next_of_port hi s
  · exact ⟨_, hf.exec s⟩
  · cases hi with
    | guWalkRead u =>
      refine next_of_ite ⟨_, rfl⟩ ?_
      split
      · exact ⟨_, rfl⟩
      · next j hj =>
        rw [accessCell_ok (Walk.next_lt (h.jobs u j hj))]
        exact ⟨_, rfl⟩
    | portAccessGrant =>
      refine next_of_ite ⟨_, rfl⟩ ?_
      split
      · exact ⟨_, rfl⟩
      · next q rest hq =>
        split
        · exact ⟨_, rfl⟩
        · next n hn =>
          rw [accessCell_ok (TableWork.cell_lt (h.path q (hq ▸ List.mem_cons_self)) hn)]
          exact ⟨_, rfl⟩
    | convRunAssert => exact next_of_ite ⟨_, rfl⟩ ⟨_, rfl⟩
    | convRunDeassert => exact ⟨_, rfl⟩
    | estopAssert => exact ⟨_, rfl⟩
    | estopRelease => exact ⟨_, rfl⟩
    | resetN => exact ⟨_, rfl⟩
    | resetNRelease => exact ⟨_, rfl⟩

/-- Settles O4: only an access of a cell there is not could stop the part, and with table memory sound none waits. -/
theorem soundTablesMeetNoStop : Obligations.SoundTablesMeetNoStop := by
  refine fun s h => ⟨exec_next h, ?_⟩
  unfold Completes step
  split
  · exact ⟨_, rfl⟩
  · next i rest _ =>
    have hr : TablesSound (s.withPending rest) := h.of_eq rfl
    exact exec_next hr i

/-- Settles O1: the queue put in front of the state is the one the step takes its command from. -/
theorem stepRunsFrontCommand : Obligations.StepRunsFrontCommand := fun _ _ _ => rfl

end Sys2Proof.Machine
end

section
/-!
PROOFS. The rule caches (R62, R67 to R81): every operation on a cache keeps it within what its mode lets it hold; and the
statement CachesSoundKept.
-/

namespace Sys2Proof.Machine

/-! ## A list without its first unlocked entry -/

theorem dropFirst_sublist {α : Type} (p : α → Bool) : ∀ xs : List α, (dropFirst p xs).Sublist xs
  | [] => .slnil
  | x :: xs => by
    unfold dropFirst
    split
    · exact List.sublist_cons_self x xs
    · exact (dropFirst_sublist p xs).cons_cons x

theorem countP_dropFirst {α : Type} (p : α → Bool) : ∀ xs : List α, (dropFirst p xs).countP p = xs.countP p - 1
  | [] => rfl
  | x :: xs => by
    unfold dropFirst
    split
    · next h => simp [h]
    · next h => simp [h, countP_dropFirst p xs]

theorem countP_dropFirst_of_disjoint {α : Type} {p q : α → Bool} (h : ∀ x, p x = true → q x = false) :
    ∀ xs : List α, (dropFirst p xs).countP q = xs.countP q
  | [] => rfl
  | x :: xs => by
    unfold dropFirst
    split
    · next hx => simp [h x hx]
    · simp [List.countP_cons, countP_dropFirst_of_disjoint h xs]

/-- The entries left once the earliest-formed unlocked one has been removed `n` times (R69, R71). -/
def dropUnlocked (n : Nat) (es : List CacheEntry) : List CacheEntry := iterate (dropFirst (!·.locked)) n es

theorem dropUnlocked_sublist : ∀ (n : Nat) (es : List CacheEntry), (dropUnlocked n es).Sublist es
  | 0, es => .refl es
  | n + 1, es => (dropUnlocked_sublist n _).trans (dropFirst_sublist _ es)

theorem countP_unlocked_dropUnlocked : ∀ (n : Nat) (es : List CacheEntry),
    (dropUnlocked n es).countP (!·.locked) = es.countP (!·.locked) - n
  | 0, es => rfl
  | n + 1, es => by
    have ih := countP_unlocked_dropUnlocked n (dropFirst (!·.locked) es)
    rw [countP_dropFirst] at ih
    calc (dropUnlocked (n + 1) es).countP (!·.locked)
        = es.countP (!·.locked) - 1 - n := ih
      _ = es.countP (!·.locked) - (n + 1) := by omega

theorem countP_locked_dropUnlocked : ∀ (n : Nat) (es : List CacheEntry),
    (dropUnlocked n es).countP (·.locked) = es.countP (·.locked)
  | 0, es => rfl
  | n + 1, es => (countP_locked_dropUnlocked n _).trans
      (countP_dropFirst_of_disjoint (fun x h => by simpa using h) es)

/-! ## A cache by its entries -/

/-- The tags of entries, in formation order. -/
def entryTags (es : List CacheEntry) : List EntryTag := es.map fun e => e.body.tag

theorem RuleCache.has_iff (x : RuleCache) (t : EntryTag) : x.has t = true ↔ t ∈ entryTags x.entries := by
  simp [RuleCache.has, entryTags]

/-- A cache outside OFF holds what it may if its entries do. -/
theorem RuleCache.Sound.of_entries {x : RuleCache} (hm : x.mode ≠ .off) (hb : x.buffer = [])
    (hs : x.mode ≠ .split → x.entries.countP (·.locked) = 0) (hl : x.entries.countP (·.locked) ≤ Config.splitRoom)
    (hu : x.entries.countP (!·.locked) ≤ x.room) (ht : (entryTags x.entries).Nodup) : x.Sound where
  offEmpty h := absurd h hm
  buffer _ := hb
  locks := hs
  locked := hl
  unlocked := hu
  tags := ht
  newer := by simp [hb]

theorem RuleCache.Sound.emptied (m : CacheMode) : RuleCache.Sound { mode := m, entries := [], buffer := [] } where
  offEmpty _ := rfl
  buffer _ := rfl
  locks _ := rfl
  locked := Nat.zero_le _
  unlocked := Nat.zero_le _
  tags := List.nodup_nil
  newer := Nat.zero_le _

theorem RuleCache.room_pos (x : RuleCache) : 0 < x.room := by
  unfold RuleCache.room
  split <;> decide

/-- A cache that loses entries but keeps its mode stays sound. -/
theorem RuleCache.Sound.sublist {x : RuleCache} (h : x.Sound) {es : List CacheEntry} {bs : List BufferEntry}
    (he : es.Sublist x.entries) (hb : bs.Sublist x.buffer) : RuleCache.Sound { x with entries := es, buffer := bs } where
  offEmpty hm := List.sublist_nil.mp (h.offEmpty hm ▸ he)
  buffer hm := List.sublist_nil.mp (h.buffer hm ▸ hb)
  locks hm := Nat.le_zero.mp ((he.countP_le (p := (·.locked))).trans (h.locks hm).le)
  locked := (he.countP_le (p := (·.locked))).trans h.locked
  unlocked := (he.countP_le (p := (!·.locked))).trans h.unlocked
  tags := h.tags.sublist (he.map _)
  newer := hb.length_le.trans h.newer

theorem RuleCache.Sound.form {x : RuleCache} (h : x.Sound) (b : CacheBody) : (x.form b).Sound := by
  have step (hm : x.mode ≠ .off) (hn : ¬ x.has b.tag = true) : RuleCache.Sound { x with
      entries := (if x.unlockedCount < x.room then x.entries else dropFirst (!·.locked) x.entries) ++
        [{ body := b, locked := false }] } := by
    have hu := h.unlocked
    have hr := x.room_pos
    rw [RuleCache.has_iff] at hn
    refine .of_entries hm (h.buffer hm) (fun hs => ?_) ?_ ?_ ?_
    · have := h.locks hs
      split
      · simpa [RuleCache.lockedCount] using this
      · simpa [RuleCache.lockedCount, countP_dropFirst_of_disjoint] using this
    · have := h.locked
      split
      · simpa [RuleCache.lockedCount] using this
      · simpa [RuleCache.lockedCount, countP_dropFirst_of_disjoint] using this
    · change _ ≤ x.room
      unfold RuleCache.unlockedCount at hu ⊢
      split
      · next hlt =>
        simp only [List.countP_append, List.countP_singleton, Bool.not_false, if_true]
        exact hlt
      · simp only [List.countP_append, List.countP_singleton, Bool.not_false, if_true, countP_dropFirst]
        omega
    · have hsub : (if x.unlockedCount < x.room then x.entries else dropFirst (!·.locked) x.entries).Sublist x.entries := by
        split
        · exact .refl _
        · exact dropFirst_sublist ..
      unfold entryTags at hn ⊢
      rw [List.map_append, List.map_singleton]
      refine List.nodup_append.mpr ⟨h.tags.sublist (hsub.map _), List.nodup_singleton _, fun a ha c hc => ?_⟩
      cases List.mem_singleton.mp hc
      rintro rfl
      exact hn ((hsub.map _).subset ha)
  unfold RuleCache.form
  split
  · exact h
  · next hm =>
    split
    · exact h
    · next hn => exact step hm hn

theorem RuleCache.Sound.formBuffer {x : RuleCache} (h : x.Sound) (hm : x.mode = .off) (e : BufferEntry) :
    (x.formBuffer e).Sound where
  offEmpty := h.offEmpty
  buffer hn := absurd hm hn
  locks := h.locks
  locked := h.locked
  unlocked := h.unlocked
  tags := h.tags
  newer := by
    have := h.newer
    have : Config.bufferRoom = 2 := rfl
    unfold RuleCache.formBuffer
    dsimp only
    split
    · simp only [List.length_append, List.length_singleton]; omega
    · simp only [List.length_append, List.length_singleton, List.length_drop]; omega

theorem RuleCache.Sound.formPath {x : RuleCache} (h : x.Sound) (j : GradingJob) (p : PathCopy) :
    (formPath j p x).Sound := by
  unfold Machine.formPath
  split
  · split
    · next hm => exact h.formBuffer hm _
    · exact h.form _
  · exact h

theorem RuleCache.Sound.lockEntry {x : RuleCache} (h : x.Sound) (b : CacheBody) : (x.lockEntry b).Sound := by
  have hf := List.filter_sublist (p := fun e : CacheEntry => decide (e.body.tag ≠ b.tag)) (l := x.entries)
  unfold RuleCache.lockEntry
  split
  · next hm =>
    have hoff : x.mode ≠ .off := by simp [hm]
    split
    · exact h
    · dsimp only
      split
      · next hl =>
        refine .of_entries hoff (h.buffer hoff) (fun hn => absurd hm hn) ?_ ?_ ?_
        · have : _ ≤ x.lockedCount := hf.countP_le (p := (·.locked))
          simp only [List.countP_append, List.countP_singleton, if_true]
          omega
        · have := (hf.countP_le (p := (!·.locked))).trans h.unlocked
          change _ ≤ x.room
          simpa using this
        · unfold entryTags
          rw [List.map_append, List.map_singleton]
          refine List.nodup_append.mpr ⟨h.tags.sublist (hf.map _), List.nodup_singleton _, fun a ha c hc => ?_⟩
          cases List.mem_singleton.mp hc
          obtain ⟨e, he, rfl⟩ := List.mem_map.mp ha
          simpa using (List.mem_filter.mp he).2
      · exact h.sublist hf (.refl _)
  · exact h

theorem countP_unlockedEntries (es : List CacheEntry) :
    (es.map fun e => { e with locked := false }).countP (·.locked) = 0 ∧
      (es.map fun e => { e with locked := false }).countP (!·.locked) = es.countP (·.locked) + es.countP (!·.locked) := by
  constructor
  · simp [List.countP_map, Function.comp_def]
  · rw [List.countP_map]
    have := List.length_eq_countP_add_countP (l := es) (·.locked)
    simpa [Function.comp_def] using this

theorem RuleCache.Sound.setMode {x : RuleCache} (h : x.Sound) (m : CacheMode) : (x.setMode m).Sound := by
  unfold RuleCache.setMode
  split
  · exact h
  · exact h
  · exact h
  · exact .emptied _
  · exact .emptied _
  · next hm =>
    have hoff : x.mode ≠ .off := by simp [hm]
    obtain ⟨hl, hu⟩ := countP_unlockedEntries x.entries
    refine .of_entries (by simp) (h.buffer hoff) (fun _ => hl) (by simp [hl]) ?_ ?_
    · have h1 : x.entries.countP (·.locked) ≤ 8 := h.locked
      have h2 : x.entries.countP (!·.locked) ≤ 8 := by
        have := h.unlocked
        rwa [RuleCache.room, hm] at this
      change _ ≤ 16
      rw [hu]
      omega
    · simpa [entryTags, Function.comp_def] using h.tags
  · next hm =>
    have hoff : x.mode ≠ .off := by simp [hm]
    have h0 : x.entries.countP (·.locked) = 0 := h.locks (by simp [hm])
    refine .of_entries (by simp) (h.buffer hoff) (fun hn => absurd rfl hn) ?_ ?_ ?_
    · exact ((countP_locked_dropUnlocked _ x.entries).trans h0).le.trans (Nat.zero_le _)
    · refine (countP_unlocked_dropUnlocked (x.unlockedCount - Config.splitRoom) x.entries).le.trans ?_
      change x.entries.countP (!·.locked) - (x.entries.countP (!·.locked) - 8) ≤ 8
      omega
    · exact List.Nodup.sublist ((dropUnlocked_sublist _ x.entries).map _) h.tags
  · exact .emptied _
  · exact .emptied _

theorem RuleCache.Sound.purged {x : RuleCache} (h : x.Sound) (keep : Bool) : (x.purged keep).Sound :=
  h.sublist List.filter_sublist (List.nil_sublist _)

theorem RuleCache.Sound.purgedOf {x : RuleCache} (h : x.Sound) (n : Nat) : (x.purgedOf n).Sound :=
  h.sublist List.filter_sublist List.filter_sublist

/-! ## Both caches -/

theorem CachesSound.of_eq {s t : State} (h : CachesSound s) (he : t.caches = s.caches) : CachesSound t := fun u => by
  rw [State.cache, he]; exact h u

theorem CachesSound.setCache {s : State} (h : CachesSound s) (u : Lane) {x : RuleCache} (hx : x.Sound) :
    CachesSound (s.setCache u x) := fun v => by
  by_cases hv : v = u
  · subst hv; simpa using hx
  · rw [State.cache_setCache_other _ _ hv]; exact h v

theorem cache_onCaches (s : State) (scope : Scope) (f : RuleCache → RuleCache) (u : Lane) :
    (s.onCaches scope f).cache u = if scope.names u then f (s.cache u) else s.cache u := by cases u <;> rfl

theorem CachesSound.onCaches {s : State} (h : CachesSound s) (scope : Scope) {f : RuleCache → RuleCache}
    (hf : ∀ x : RuleCache, x.Sound → (f x).Sound) : CachesSound (s.onCaches scope f) := fun u => by
  rw [cache_onCaches]
  split
  · exact hf _ (h u)
  · exact h u

theorem lockFeed_sound {x : RuleCache} (h : x.Sound) (run : LockRun) (cell : Cell16) : (lockFeed x run cell).1.Sound := by
  unfold lockFeed
  split
  · exact h
  · exact h
  · exact h.lockEntry _
  · split
    · exact h
    · exact h.lockEntry _

theorem CachesSound.takeHead : ∀ (fuel : Nat) {s : State}, CachesSound s → CachesSound (takeHead fuel s)
  | 0, _, h => h
  | fuel + 1, s, h => by
    unfold Machine.takeHead
    split
    · exact h
    · split
      · split
        · exact h.of_eq rfl
        · exact CachesSound.takeHead fuel (h.of_eq rfl)
      · next a _ =>
        have ht := h.setCache a.unit ((h a.unit).setMode .split)
        dsimp only
        split
        · exact ht.of_eq rfl
        · exact CachesSound.takeHead fuel (ht.of_eq rfl)
      all_goals exact h

theorem CachesSound.leaveHead {s : State} (h : CachesSound s) (q : PathRequest) (rest : List PathRequest) (st : Status)
    (body : List Byte) : CachesSound (leaveHead q rest st body s) :=
  CachesSound.takeHead _ (h.of_eq rfl)

theorem CachesSound.editCell {s : State} (h : CachesSound s) (n : Nat) (x : Cell16) (scope : Scope) :
    CachesSound (s.editCell n x scope) :=
  CachesSound.onCaches (s := s.writeCell n x) (h.of_eq rfl) scope fun _ hx => hx.purgedOf n

theorem CachesSound.pathAccess {s : State} (h : CachesSound s) (q : PathRequest) (rest : List PathRequest) (x : Cell16) :
    CachesSound (pathAccess q rest x s) := by
  unfold Machine.pathAccess
  split
  · exact CachesSound.leaveHead (s := s.writeCell _ _) (h.of_eq rfl) _ _ _ _
  · exact h.leaveHead _ _ _ _
  · split
    · exact (h.editCell _ _ _).leaveHead _ _ _ _
    · exact h.leaveHead _ _ _ _
  · split
    · exact (h.editCell _ _ _).leaveHead _ _ _ _
    · exact h.leaveHead _ _ _ _
  · split
    · exact h.of_eq rfl
    · exact h.leaveHead _ _ _ _
  · next a run _ =>
    have hf := lockFeed_sound (h a.unit) run x
    split
    · next c _ hr =>
      rw [hr] at hf
      exact (h.setCache a.unit hf).of_eq rfl
    · next c _ hr =>
      rw [hr] at hf
      exact (h.setCache a.unit hf).leaveHead _ _ _ _
  · exact h
  · exact h

theorem cachesSound_reset : CachesSound State.reset := fun u => by cases u <;> exact .emptied _

theorem cachesSound_kept : KeptByCommands CachesSound where
  frames p :=
    { receive := fun _ h => h.of_eq rfl
      answer := fun _ _ _ _ h => h.of_eq rfl
      join := fun _ _ _ _ _ h => CachesSound.takeHead _ (h.of_eq rfl)
      effect := fun _ he h => by
        rcases he.sorted with hm | ⟨x, -, rfl⟩ | ⟨lane, r, -, -, -, rfl⟩ | ⟨k, d, rfl⟩ | ⟨scope, f, hf, rfl⟩
        · exact h.of_eq hm.caches
        · exact h.of_eq rfl
        · exact h.of_eq (gradeNext_gradesOnly lane _).caches
        · exact h.of_eq rfl
        · rcases hf with ⟨m, -, rfl⟩ | ⟨keep, rfl⟩
          · exact h.onCaches scope fun _ hx => hx.setMode m
          · exact h.onCaches scope fun _ hx => hx.purged keep }
  events := fun {i f s} hf _ h => by
    rcases hf.sorted s with hm | ⟨p, x, -, e⟩
    · exact h.of_eq hm.caches
    · rw [e]; exact h.of_eq rfl
  singles := fun {i s t} hi h ht => by
    cases hi with
    | guWalkRead u =>
      replace ht : execGuWalkRead u s = .next t := ht
      unfold execGuWalkRead at ht
      split at ht
      · cases ht; exact h
      · split at ht
        · cases ht; exact h
        · next j hj =>
          split at ht
          · cases ht
          · next x _ =>
            cases ht
            obtain ⟨f, hf, k⟩ := unitRead_cases (s := s.granted (unitRequester u)) x hj
            refine CachesSound.of_eq ?_ k.caches
            refine CachesSound.setCache (h.of_eq rfl) u ?_
            rcases hf with rfl | ⟨b, rfl⟩ | ⟨p, rfl⟩
            · exact h u
            · exact (h u).form b
            · exact (h u).formPath j p
    | portAccessGrant =>
      replace ht : execPortAccessGrant s = .next t := ht
      unfold execPortAccessGrant at ht
      split at ht
      · cases ht; exact h
      · split at ht
        · cases ht; exact h
        · next q rest hq =>
          split at ht
          · cases ht; exact h
          · split at ht
            · cases ht
            · cases ht
              exact CachesSound.pathAccess (s := s.granted .port) (h.of_eq rfl) _ _ _
    | resetN =>
      cases ht
      exact cachesSound_reset.of_eq rfl
    | convRunAssert =>
      obtain ⟨pins, k⟩ := pin_millOnly (.inl rfl) ht
      exact h.of_eq k.caches
    | convRunDeassert =>
      obtain ⟨pins, k⟩ := pin_millOnly (.inr (.inl rfl)) ht
      exact h.of_eq k.caches
    | estopAssert =>
      obtain ⟨pins, k⟩ := pin_millOnly (.inr (.inr (.inl rfl))) ht
      exact h.of_eq k.caches
    | estopRelease =>
      obtain ⟨pins, k⟩ := pin_millOnly (.inr (.inr (.inr (.inl rfl)))) ht
      exact h.of_eq k.caches
    | resetNRelease =>
      obtain ⟨pins, k⟩ := pin_millOnly (.inr (.inr (.inr (.inr rfl)))) ht
      exact h.of_eq k.caches

theorem cachesSound_idle {s : State} (h : CachesSound s) : CachesSound (idle s) := by
  unfold idle
  split
  · exact h
  · exact h.of_eq (settleOwed_millOnly s).caches

/-- Settles O7: each operation on a cache keeps it within its mode's room, and nothing else writes a cache. -/
theorem cachesSoundKept : Obligations.CachesSoundKept :=
  fun _ _ h ht => cachesSound_kept.step (fun _ _ h => h.of_eq rfl) (fun _ => cachesSound_idle) h ht

end Sys2Proof.Machine
end

section
/-!
PROOFS. The commands that access table memory; and the statement PendingSoundKept.
-/

namespace Sys2Proof.Machine

/-! ## The commands that access table memory -/

/-- GU WALK READ does nothing, or forms a copy in its unit's cache and goes on with the gradings. -/
theorem guWalkRead_cases {u : Lane} {s t : State} (h : execGuWalkRead u s = .next t) : t = s ∨
    ∃ j x f, s.pins.resetHeld = false ∧ s.job u = some j ∧
      (f = id ∨ (∃ b, f = (RuleCache.form · b)) ∨ ∃ p, f = formPath j p) ∧
      t = unitRead u j x (s.granted (unitRequester u)) ∧
      GradesOnly ((s.granted (unitRequester u)).setCache u (f (s.cache u))) t := by
  unfold execGuWalkRead at h
  split at h
  · cases h; exact .inl rfl
  · next hg =>
    split at h
    · cases h; exact .inl rfl
    · next j hj =>
      split at h
      · cases h
      · next x _ =>
        cases h
        obtain ⟨f, hf, k⟩ := unitRead_cases (s := s.granted (unitRequester u)) x hj
        exact .inr ⟨j, x, f, by simpa using (not_or.mp hg).1, hj, hf, rfl, k⟩

/-- PORT ACCESS GRANT does nothing, or makes the access of the request at the head. -/
theorem portAccessGrant_cases {s t : State} (h : execPortAccessGrant s = .next t) : t = s ∨
    ∃ q rest x, s.pins.resetHeld = false ∧ s.tables.portPath = q :: rest ∧ q.work.cell ≠ none ∧
      t = pathAccess q rest x (s.granted .port) := by
  unfold execPortAccessGrant at h
  split at h
  · cases h; exact .inl rfl
  · next hg =>
    split at h
    · cases h; exact .inl rfl
    · next q rest hq =>
      split at h
      · cases h; exact .inl rfl
      · next hc =>
        split at h
        · cases h
        · next x _ =>
          cases h
          exact .inr ⟨q, rest, x, by simpa using (not_or.mp hg).1, hq, by simp [hc], rfl⟩

/-! ## Pending requests -/

/-- `PendingSound` but for its claim about the head, as it stands before the head is taken. -/
structure PathAgrees (s : State) : Prop where
  queued  : ∀ q, q ∈ s.tables.portPath → (s.port q.port).pending = some { code := q.code, tag := q.tag }
  single  : (s.tables.portPath.map (·.port)).Nodup
  waiting : ∀ p, (s.port p).pending ≠ none → ∃ q, q ∈ s.tables.portPath ∧ q.port = p

theorem PendingSound.agrees {s : State} (h : PendingSound s) : PathAgrees s := ⟨h.queued, h.single, h.waiting⟩

theorem PathAgrees.sound {s : State} (h : PathAgrees s) (ht : HeadTaken s.tables.portPath) : PendingSound s :=
  ⟨h.queued, h.single, h.waiting, ht⟩

theorem headTaken_nil : HeadTaken [] := fun _ _ e => by cases e

theorem headTaken_cons {q : PathRequest} {rest : List PathRequest} (h : q.work.cell ≠ none) : HeadTaken (q :: rest) :=
  fun _ _ e => by cases e; exact h

theorem PathAgrees.of_pending {s t : State} (h : PathAgrees s) (hq : t.tables.portPath = s.tables.portPath)
    (hp : ∀ p, (t.port p).pending = (s.port p).pending) : PathAgrees t where
  queued q hm := (hp _).trans (h.queued q (hq ▸ hm))
  single := hq ▸ h.single
  waiting p hn := hq ▸ h.waiting p (hp p ▸ hn)

theorem PendingSound.of_pending {s t : State} (h : PendingSound s) (hq : t.tables.portPath = s.tables.portPath)
    (hp : ∀ p, (t.port p).pending = (s.port p).pending) : PendingSound t :=
  (h.agrees.of_pending hq hp).sound (hq ▸ h.taken)

theorem pending_setPort_same {s : State} {p : Port} {x : PortState} (h : x.pending = (s.port p).pending) (r : Port) :
    ((s.setPort p x).port r).pending = (s.port r).pending := by
  by_cases e : r = p
  · cases e; simpa using h
  · rw [State.port_setPort_other _ _ e]

theorem pending_answer (s : State) (p : Port) (code tag : Byte) (st : Status) (body : List Byte) (r : Port) :
    ((s.answer p code tag st body).port r).pending = (s.port r).pending := by
  unfold State.answer
  refine pending_setPort_same ?_ r
  unfold PortState.send
  split
  · rfl
  · split <;> rfl

/-- Answered, the head leaves the queue and its port has no request pending. -/
theorem PathAgrees.answerHead {s : State} {q : PathRequest} {rest : List PathRequest} (h : PathAgrees s)
    (hq : s.tables.portPath = q :: rest) (st : Status) (body : List Byte) : PathAgrees (answerHead q rest st body s) := by
  have hs : q.port ∉ rest.map (·.port) ∧ (rest.map (·.port)).Nodup := by simpa [hq] using h.single
  refine PathAgrees.of_pending (s := (s.setTables { s.tables with portPath := rest }).setPort q.port
    { s.port q.port with pending := none }) ⟨fun r hr => ?_, hs.2, fun p hp => ?_⟩ rfl fun p => pending_answer ..
  · have hne : r.port ≠ q.port := fun e => hs.1 (e ▸ List.mem_map_of_mem hr)
    rw [State.port_setPort_other _ _ hne]
    exact h.queued r (hq ▸ List.mem_cons_of_mem q hr)
  · by_cases e : p = q.port
    · cases e
      simp at hp
    · rw [State.port_setPort_other _ _ e] at hp
      obtain ⟨r, hr, rfl⟩ := h.waiting p hp
      rw [hq] at hr
      rcases List.mem_cons.mp hr with rfl | hr
      · exact absurd rfl e
      · exact ⟨r, hr, rfl⟩

/-- The request at the head goes on with other work. -/
theorem PathAgrees.keepHead {s : State} {q : PathRequest} {rest : List PathRequest} {w : TableWork} (h : PathAgrees s)
    (hq : s.tables.portPath = q :: rest) (hw : w.cell ≠ none) : PendingSound (keepHead q rest w s) where
  queued r hr := by
    rcases List.mem_cons.mp hr with rfl | hr
    · exact h.queued q (hq ▸ List.mem_cons_self)
    · exact h.queued r (hq ▸ List.mem_cons_of_mem q hr)
  single := by
    have := h.single
    rw [hq] at this
    exact this
  waiting p hp := by
    obtain ⟨r, hr, rfl⟩ := h.waiting p hp
    rw [hq] at hr
    rcases List.mem_cons.mp hr with rfl | hr
    · exact ⟨{ r with work := w }, List.mem_cons_self, rfl⟩
    · exact ⟨r, List.mem_cons_of_mem _ hr, rfl⟩
  taken := headTaken_cons hw

/-- With fuel for the whole queue, the head that is left when the taking ends has been taken. -/
theorem PathAgrees.takeHead : ∀ (fuel : Nat) {s : State}, PathAgrees s → s.tables.portPath.length ≤ fuel →
    PendingSound (takeHead fuel s)
  | 0, s, h, hl => h.sound (List.length_eq_zero_iff.mp (Nat.le_zero.mp hl) ▸ headTaken_nil)
  | fuel + 1, s, h, hl => by
    unfold Machine.takeHead
    split
    · next hq => exact h.sound (hq ▸ headTaken_nil)
    · next q rest hq =>
      have hr : rest.length ≤ fuel := by
        rw [hq, List.length_cons] at hl
        omega
      have taken (hc : q.work.cell ≠ none) : PendingSound s := h.sound (hq ▸ headTaken_cons hc)
      split
      · next a hw =>
        split
        · exact h.keepHead hq nofun
        · exact (h.answerHead hq _ _).takeHead fuel hr
      · next a hw =>
        have ht : PathAgrees (s.setCache a.unit ((s.cache a.unit).setMode .split)) := h.of_pending rfl fun _ => rfl
        dsimp only
        split
        · exact ht.keepHead hq nofun
        · exact (ht.answerHead hq _ _).takeHead fuel hr
      all_goals
        next hw =>
          refine taken ?_
          rw [hw]
          nofun

theorem PathAgrees.leaveHead {s : State} {q : PathRequest} {rest : List PathRequest} (h : PathAgrees s)
    (hq : s.tables.portPath = q :: rest) (st : Status) (body : List Byte) : PendingSound (leaveHead q rest st body s) :=
  (h.answerHead hq st body).takeHead _ (Nat.le_refl _)

theorem PathAgrees.joinPath {s : State} {q : PathRequest} (h : PathAgrees s) (hn : (s.port q.port).pending = none) :
    PendingSound (joinPath q s) := by
  have absent : q.port ∉ s.tables.portPath.map (·.port) := fun hm => by
    obtain ⟨r, hr, e⟩ := List.mem_map.mp hm
    have := h.queued r hr
    rw [e, hn] at this
    cases this
  refine PathAgrees.takeHead _ ⟨fun r hr => ?_, ?_, fun p hp => ?_⟩ (by simp)
  · rcases List.mem_append.mp hr with hr | hr
    · have hne : r.port ≠ q.port := fun e => absent (e ▸ List.mem_map_of_mem hr)
      change ((s.setPort q.port _).port r.port).pending = _
      rw [State.port_setPort_other _ _ hne]
      exact h.queued r hr
    · cases List.mem_singleton.mp hr
      simp
  · change ((s.tables.portPath ++ [q]).map (·.port)).Nodup
    rw [List.map_append]
    refine List.nodup_append.mpr ⟨h.single, List.nodup_singleton _, fun a ha b hb e => ?_⟩
    cases List.mem_singleton.mp hb
    exact absent (by rwa [e] at ha)
  · by_cases e : p = q.port
    · exact ⟨q, List.mem_append_right _ List.mem_cons_self, e.symm⟩
    · replace hp : ((s.setPort q.port _).port p).pending ≠ none := hp
      rw [State.port_setPort_other _ _ e] at hp
      obtain ⟨r, hr, rfl⟩ := h.waiting p hp
      exact ⟨r, List.mem_append_left _ hr, rfl⟩

theorem PendingSound.pathAccess {s : State} {q : PathRequest} {rest : List PathRequest} (h : PendingSound s)
    (hq : s.tables.portPath = q :: rest) (x : Cell16) : PendingSound (pathAccess q rest x s) := by
  have edited (n : Nat) (y : Cell16) (scope : Scope) : PathAgrees (s.editCell n y scope) :=
    h.agrees.of_pending rfl fun _ => rfl
  have cached (u : Lane) (c : RuleCache) : PathAgrees (s.setCache u c) := h.agrees.of_pending rfl fun _ => rfl
  unfold Machine.pathAccess
  split
  · next n content _ =>
    exact PathAgrees.leaveHead (s := s.writeCell n content) (h.agrees.of_pending rfl fun _ => rfl) hq _ _
  · exact h.agrees.leaveHead hq _ _
  · split
    · exact (edited _ _ _).leaveHead hq _ _
    · exact h.agrees.leaveHead hq _ _
  · split
    · exact (edited _ _ _).leaveHead hq _ _
    · exact h.agrees.leaveHead hq _ _
  · split
    · exact h.agrees.keepHead hq nofun
    · exact h.agrees.leaveHead hq _ _
  · split
    · exact (cached _ _).keepHead hq nofun
    · exact (cached _ _).leaveHead hq _ _
  · exact h
  · exact h

theorem pendingSound_reset : PendingSound State.reset where
  queued q h := nomatch h
  single := List.nodup_nil
  waiting p h := by cases p <;> exact absurd rfl h
  taken := headTaken_nil

theorem PendingSound.millOnly {s t : State} (h : PendingSound s) (k : MillOnly s t) : PendingSound t :=
  h.of_pending (by rw [k.tables]) fun p => by
    obtain ⟨n, -, e⟩ := k.notices p
    rw [e]

theorem PendingSound.gradesOnly {s t : State} (h : PendingSound s) (k : GradesOnly s t) : PendingSound t :=
  h.of_pending (by rw [k.tables]) fun p => by
    obtain ⟨n, -, e⟩ := k.notices p
    rw [e]

theorem PendingSound.setPort {s : State} {p : Port} {x : PortState} (h : PendingSound s)
    (hx : x.pending = (s.port p).pending) : PendingSound (s.setPort p x) :=
  h.of_pending rfl (pending_setPort_same hx)

theorem PendingSound.pin {i : Instr} {s t : State} (h : PendingSound s)
    (hi : i = .convRunAssert ∨ i = .convRunDeassert ∨ i = .estopAssert ∨ i = .estopRelease ∨ i = .resetNRelease)
    (ht : exec i s = .next t) : PendingSound t := by
  obtain ⟨pins, k⟩ := pin_millOnly hi ht
  exact PendingSound.millOnly (s := s.setPins pins) (h.of_pending rfl fun _ => rfl) k

theorem pendingSound_kept : KeptByCommands PendingSound where
  frames p :=
    { receive := fun _ h => h.setPort rfl
      answer := fun _ _ _ _ h => h.of_pending rfl fun _ => pending_answer ..
      join := fun _ _ _ hn _ h => h.agrees.joinPath hn
      effect := fun _ he h => by
        rcases he.sorted with hm | ⟨x, hx, rfl⟩ | ⟨lane, r, -, -, -, rfl⟩ | ⟨k, d, rfl⟩ | ⟨scope, f, -, rfl⟩
        · exact h.millOnly hm
        · exact h.setPort hx
        · refine PendingSound.gradesOnly (h.of_pending ?_ fun _ => ?_) (gradeNext_gradesOnly lane _) <;> rfl
        · exact h.of_pending rfl fun _ => rfl
        · exact h.of_pending rfl fun _ => rfl }
  events := fun {i f s} hf _ h => by
    rcases hf.sorted s with hm | ⟨p, x, hx, e⟩
    · exact h.millOnly hm
    · rw [e]; exact h.setPort hx
  singles := fun {i s t} hi h ht => by
    cases hi with
    | guWalkRead u =>
      rcases guWalkRead_cases ht with rfl | ⟨j, x, f, -, -, -, -, k⟩
      · exact h
      · refine PendingSound.gradesOnly (h.of_pending ?_ fun _ => ?_) k <;> rfl
    | portAccessGrant =>
      rcases portAccessGrant_cases ht with rfl | ⟨q, rest, x, -, hq, -, rfl⟩
      · exact h
      · exact PendingSound.pathAccess (s := s.granted .port) (h.of_pending rfl fun _ => rfl) hq x
    | resetN =>
      cases ht
      exact pendingSound_reset.of_pending rfl fun _ => rfl
    | convRunAssert => exact h.pin (.inl rfl) ht
    | convRunDeassert => exact h.pin (.inr (.inl rfl)) ht
    | estopAssert => exact h.pin (.inr (.inr (.inl rfl))) ht
    | estopRelease => exact h.pin (.inr (.inr (.inr (.inl rfl)))) ht
    | resetNRelease => exact h.pin (.inr (.inr (.inr (.inr rfl)))) ht

theorem PortState.tick_pending (x : PortState) : x.tick.pending = x.pending := by
  unfold PortState.tick
  split <;> rfl

theorem pendingSound_idle {s : State} (h : PendingSound s) : PendingSound (idle s) := by
  unfold idle
  split
  · exact h
  · exact (h.millOnly (settleOwed_millOnly s)).of_pending rfl fun p => by cases p <;> exact PortState.tick_pending _

/-- Settles O9: a request joins the queue as its port's only pending one and leaves it answered, and the taking goes on
until the head waits for an access or the queue is empty. -/
theorem pendingSoundKept : Obligations.PendingSoundKept :=
  fun _ _ h ht => pendingSound_kept.step (fun _ _ h => h.of_pending rfl fun _ => rfl) (fun _ => pendingSound_idle) h ht

end Sys2Proof.Machine
end

section
/-!
PROOFS. What the events of intake and tracking and the parameters keep: the ranges of `Bounded`, the claims of
`ClaimsSound`, and the holders under E-STOP. One relation, proved of each operation once.
-/

namespace Sys2Proof.Machine

/-! ## One element of a list updated or dropped -/

section FirstElement

variable {α : Type} {p : α → Bool} {e : α}

theorem countP_updateFirst (f : α → Bool) (g : α → α) : ∀ {q : List α}, q.find? p = some e →
    (updateFirst p g q).countP f + (f e).toNat = q.countP f + (f (g e)).toNat
  | [], h => nomatch h
  | x :: xs, h => by
    unfold updateFirst
    by_cases hp : p x = true
    · rw [List.find?_cons_of_pos hp] at h
      cases h
      rw [if_pos hp, List.countP_cons, List.countP_cons]
      cases f e <;> cases f (g e) <;> simp
    · rw [List.find?_cons_of_neg hp] at h
      have ih := countP_updateFirst f g h
      rw [if_neg hp, List.countP_cons, List.countP_cons]
      omega

theorem countP_dropFirst_of_find (f : α → Bool) : ∀ {q : List α}, q.find? p = some e →
    (dropFirst p q).countP f + (f e).toNat = q.countP f
  | [], h => nomatch h
  | x :: xs, h => by
    unfold dropFirst
    by_cases hp : p x = true
    · rw [List.find?_cons_of_pos hp] at h
      cases h
      rw [if_pos hp, List.countP_cons]
      cases f e <;> simp
    · rw [List.find?_cons_of_neg hp] at h
      have ih := countP_dropFirst_of_find f h
      rw [if_neg hp, List.countP_cons, List.countP_cons]
      omega

theorem length_updateFirst (g : α → α) (q : List α) : (updateFirst p g q).length = q.length :=
  (forall₂_updateFirst (R := fun _ _ => True) (fun _ => trivial) p (fun _ => trivial) q).length_eq.symm

theorem updateLast_mem {f : α → α} {x : α} : ∀ {xs : List α}, x ∈ updateLast f xs → x ∈ xs ∨ ∃ y ∈ xs, x = f y
  | [], h => nomatch h
  | [y], h => .inr ⟨y, List.mem_cons_self, List.mem_singleton.mp h⟩
  | y :: z :: xs, h => by
    rcases List.mem_cons.mp h with rfl | h
    · exact .inl List.mem_cons_self
    · rcases updateLast_mem h with h | ⟨w, hw, rfl⟩
      · exact .inl (List.mem_cons_of_mem _ h)
      · exact .inr ⟨w, List.mem_cons_of_mem _ hw, rfl⟩

theorem length_updateLast (f : α → α) : ∀ xs : List α, (updateLast f xs).length = xs.length
  | [] => rfl
  | [_] => rfl
  | _ :: y :: xs => congrArg Nat.succ (length_updateLast f (y :: xs))

theorem forall₂_mem_right {R : α → α → Prop} : ∀ {xs ys : List α}, List.Forall₂ R xs ys → ∀ y ∈ ys, ∃ x ∈ xs, R x y
  | _, _, .cons h hs, y, hy => by
    rcases List.mem_cons.mp hy with rfl | hy
    · exact ⟨_, List.mem_cons_self, h⟩
    · obtain ⟨x, hx, hr⟩ := forall₂_mem_right hs y hy
      exact ⟨x, List.mem_cons_of_mem _ hx, hr⟩

end FirstElement

/-! ## The ranges -/

/-- What `Bounded` claims of one lane (R1, R2). -/
structure IntakeLane.Bounded (l : Lane) (x : IntakeLane) : Prop where
  length  : x.queue.length ≤ Config.intakeCapacity
  gaps    : x.gaps ≤ Config.maxGaps
  entries : ∀ e ∈ x.queue, e.sheet.lane = l ∧ e.sheet.gapsAfter ≤ Config.maxGaps

/-- What the parameters' values are read from. -/
def State.parameters (s : State) :=
  (s.intake.ageLimit, s.tracking.geometry, s.tracking.stallLimit, s.sk.landingLimit, s.sk.priority, s.lines.pickLimit,
    s.lines.starveLimit)

theorem Param.value_congr {s t : State} (h : t.parameters = s.parameters) (q : Param) : q.value t = q.value s := by
  simp only [State.parameters, Prod.mk.injEq] at h
  obtain ⟨ha, hg, hs, hl, hp, hk, hv⟩ := h
  cases q with
  | ageLimit => exact ha
  | stallLimit => exact hs
  | landingLimit => exact hl
  | priority => exact congrArg PickPriority.code hp
  | pickLimit => exact hk
  | starveLimit => exact hv
  | decision => exact congrArg Geometry.decision hg
  | window => exact congrArg Geometry.window hg
  | gate k => exact congrArg (Geometry.gate · k) hg
  | runOut => exact congrArg Geometry.runOut hg

namespace Bounded

variable {s t : State}

theorem lane (h : Bounded s) (l : Lane) : (s.lane l).Bounded l :=
  ⟨h.intake l, h.gaps l, fun e he => ⟨h.own l e he, h.charged l e he⟩⟩

theorem line (h : Bounded s) (l : Line) : (s.line l).Bounded := ⟨h.panels l, h.numbers l, h.loops l⟩

/-- Bounds of the blocks from their new values, with the parameters as they were. -/
theorem of_blocks (h : Bounded s) (lanes : ∀ l, (t.lane l).Bounded l)
    (counter : 1 ≤ t.intake.counter ∧ t.intake.counter ≤ Config.maxNumber)
    (tracking : t.tracking.queue.length ≤ Config.trackCapacity) (runOut : t.routing.runOut ≤ Config.maxNumber)
    (lines : ∀ l, (t.line l).Bounded) (params : t.parameters = s.parameters)
    (ports : ∀ p, (t.port p).waiting.length ≤ Config.txRoom ∧ (t.port p).notices &&& ~~~namedFlags = 0) :
    Bounded t where
  intake l := (lanes l).length
  gaps l := (lanes l).gaps
  own l e he := ((lanes l).entries e he).1
  charged l e he := ((lanes l).entries e he).2
  counter := counter
  tracking := tracking
  runOut := runOut
  panels l := (lines l).panels
  numbers l := (lines l).number
  loops l := (lines l).loops
  params q := by rw [Param.value_congr params]; exact h.params q
  geometry := by
    have hg : t.tracking.geometry = s.tracking.geometry := congrArg (·.2.1) params
    rw [hg]
    exact h.geometry
  waiting p := (ports p).1
  notices p := (ports p).2

theorem ports (h : Bounded s) (p : Port) : (s.port p).waiting.length ≤ Config.txRoom ∧
    (s.port p).notices &&& ~~~namedFlags = 0 := ⟨h.waiting p, h.notices p⟩

/-- Notices raised are flags that have a name. -/
theorem raised (h : Bounded s) (hn : ∀ p, ∃ n : BitVec 32, n &&& ~~~namedFlags = 0 ∧
    t.port p = { s.port p with notices := (s.port p).notices ||| n }) (p : Port) :
    (t.port p).waiting.length ≤ Config.txRoom ∧ (t.port p).notices &&& ~~~namedFlags = 0 := by
  obtain ⟨n, hn, e⟩ := hn p
  rw [e]
  refine ⟨h.waiting p, ?_⟩
  have := h.notices p
  rw [BitVec.and_comm] at hn this ⊢
  rw [BitVec.and_or_distrib_left, this, hn]
  rfl

/-- A change of grading, tables, caches, stacks' contents, pins, free choices and command queue. -/
theorem of_eq (h : Bounded s) (he : (t.intake.lanes, t.intake.counter, t.tracking.queue, t.routing, t.lines.line, t.ports) =
    (s.intake.lanes, s.intake.counter, s.tracking.queue, s.routing, s.lines.line, s.ports))
    (params : t.parameters = s.parameters) : Bounded t := by
  simp only [Prod.mk.injEq] at he
  obtain ⟨hi, hc, hq, hr, hl, hp⟩ := he
  refine h.of_blocks (fun l => ?_) (hc ▸ h.counter) (hq ▸ h.tracking) (hr ▸ h.runOut) (fun l => ?_) params fun p => ?_
  · rw [State.lane, hi]; exact h.lane l
  · rw [State.line, hl]; exact h.line l
  · rw [State.port, hp]; exact h.ports p

theorem atLines (h : Bounded s) (k : AtLines s t) : Bounded t :=
  h.of_blocks (fun l => by rw [State.lane, k.intake]; exact h.lane l) (k.intake ▸ h.counter) (k.tracking ▸ h.tracking)
    (k.routing ▸ h.runOut) (fun l => k.bounded l (h.line l))
    (by simp only [State.parameters, k.intake, k.tracking, k.landing, k.priority, k.pick, k.starve])
    (h.raised k.notices)

theorem gradesOnly (h : Bounded s) (k : GradesOnly s t) : Bounded t := by
  refine h.of_blocks (fun l => ?_) (k.numbers.1 ▸ h.counter) (k.queue.length_eq ▸ h.tracking) (k.routing ▸ h.runOut)
    (fun l => by rw [State.line, k.lines]; exact h.line l) ?_ (h.raised k.notices)
  · obtain ⟨hg, hq⟩ := k.lanes l
    refine ⟨hq.length_eq ▸ h.intake l, hg ▸ h.gaps l, fun e he => ?_⟩
    obtain ⟨d, hd, -, hl, ha⟩ := forall₂_mem_right hq e he
    rw [hl, ha]
    exact (h.lane l).entries d hd
  · simp only [State.parameters, k.numbers.2, k.tracking.1, k.tracking.2, k.sk, k.lines]

theorem setLane {l : Lane} {x : IntakeLane} (h : Bounded s) (hx : x.Bounded l) : Bounded (s.setLane l x) :=
  h.of_blocks (fun m => by
    by_cases hm : m = l
    · subst hm; simpa using hx
    · rw [State.lane_setLane_other _ _ hm]; exact h.lane m) h.counter h.tracking h.runOut h.line rfl h.ports

theorem setQueue {q : List TrackEntry} (h : Bounded s) (hq : q.length ≤ Config.trackCapacity) : Bounded (s.setQueue q) :=
  h.of_blocks h.lane h.counter hq h.runOut h.line rfl h.ports

theorem countSheet (h : Bounded s) : Bounded s.countSheet :=
  h.of_blocks h.lane (advanceCounter_bounds h.counter) h.tracking h.runOut h.line rfl h.ports

theorem setRouting {x : Routing} (h : Bounded s) (hx : x.runOut ≤ Config.maxNumber) : Bounded (s.setRouting x) :=
  h.of_blocks h.lane h.counter h.tracking hx h.line rfl h.ports

theorem setPort {p : Port} {x : PortState} (h : Bounded s)
    (hx : x.waiting.length ≤ Config.txRoom ∧ x.notices &&& ~~~namedFlags = 0) : Bounded (s.setPort p x) :=
  h.of_blocks h.lane h.counter h.tracking h.runOut h.line rfl fun r => by
    by_cases hr : r = p
    · subst hr; simpa using hx
    · rw [State.port_setPort_other _ _ hr]; exact h.ports r

end Bounded

end Sys2Proof.Machine
end

section
/-!
PROOFS. What the events of intake, tracking and landings and the parameters keep: the ranges, the claims on the stacks, and
under E-STOP the holders. One relation, proved of each operation once.
-/

namespace Sys2Proof.Machine

/-! ## The claims on one stack -/

/-- What `ClaimsSound` claims of one stack, for the entries that hold a place there and those that reserve its top. -/
structure Stack.Counts (x : Stack) (claims reserves : Nat) : Prop where
  allocated : x.allocated = claims + x.falling.length
  reserved  : x.reservations = reserves
  falling   : x.falling.length ≤ Config.fallingCapacity
  room      : x.bound ≤ x.capacity
  capacity  : 1 ≤ x.capacity ∧ x.capacity ≤ 400

/-- The counts of a stack are those of a tracking queue. -/
def Stack.CountedIn (k : StackId) (q : List TrackEntry) (x : Stack) : Prop :=
  x.Counts (q.countP (TrackEntry.claims k)) (q.countP (TrackEntry.reserves k))

theorem claimsSound_iff {s : State} : ClaimsSound s ↔ ∀ k, (s.stack k).CountedIn k s.tracking.queue :=
  ⟨fun h k => ⟨h.allocated k, h.reserved k, h.falling k, h.room k, h.capacity k⟩,
    fun h => ⟨fun k => (h k).allocated, fun k => (h k).reserved, fun k => (h k).falling, fun k => (h k).room,
      fun k => (h k).capacity⟩⟩

theorem Stack.ClaimsKept.counts {x y : Stack} (h : x.ClaimsKept y) {c r : Nat} (hx : x.Counts c r) : y.Counts c r := by
  obtain ⟨hc, ha, hr, hf, hi⟩ := h
  refine ⟨by rw [ha, hf]; exact hx.allocated, hr ▸ hx.reserved, hf ▸ hx.falling, ?_, hc ▸ hx.capacity⟩
  have := hx.room
  unfold Stack.bound at this ⊢
  omega

/-- The stacks' claims are kept when each stack's are and the queue is counted as it was. -/
theorem ClaimsSound.of_counts {s t : State} (h : ClaimsSound s) (hs : ∀ k, (s.stack k).ClaimsKept (t.stack k))
    (hq : ∀ k, t.tracking.queue.countP (TrackEntry.claims k) = s.tracking.queue.countP (TrackEntry.claims k) ∧
      t.tracking.queue.countP (TrackEntry.reserves k) = s.tracking.queue.countP (TrackEntry.reserves k)) :
    ClaimsSound t := by
  rw [claimsSound_iff] at h ⊢
  intro k
  unfold Stack.CountedIn
  rw [(hq k).1, (hq k).2]
  exact (hs k).counts (h k)

theorem ClaimsSound.of_eq {s t : State} (h : ClaimsSound s) (he : (t.tracking.queue, t.sk.stack) =
    (s.tracking.queue, s.sk.stack)) : ClaimsSound t := by
  simp only [Prod.mk.injEq] at he
  exact h.of_counts (fun k => by rw [State.stack, State.stack, he.2]; exact .refl _) fun k => by rw [he.1]; exact ⟨rfl, rfl⟩

/-- One stack replaced and the queue changed in the entries of that stack only. -/
theorem ClaimsSound.setOne {s : State} (h : ClaimsSound s) {k : StackId} {x : Stack} {q : List TrackEntry}
    (hx : (s.stack k).CountedIn k s.tracking.queue → x.CountedIn k q)
    (hq : ∀ j, j ≠ k → q.countP (TrackEntry.claims j) = s.tracking.queue.countP (TrackEntry.claims j) ∧
      q.countP (TrackEntry.reserves j) = s.tracking.queue.countP (TrackEntry.reserves j)) :
    ClaimsSound ((s.setQueue q).setStack k x) := by
  rw [claimsSound_iff] at h ⊢
  intro j
  by_cases hj : j = k
  · subst hj
    rw [State.stack_setStack_same]
    exact hx (h j)
  · rw [State.stack_setStack_other _ _ hj]
    have := h j
    unfold Stack.CountedIn at this
    rw [← (hq j hj).1, ← (hq j hj).2] at this
    exact this

theorem countP_forall₂ {α : Type} {R : α → α → Prop} {f : α → Bool} (hf : ∀ x y, R x y → f y = f x) :
    ∀ {xs ys : List α}, List.Forall₂ R xs ys → ys.countP f = xs.countP f
  | _, _, .nil => rfl
  | _, _, .cons h hs => by rw [List.countP_cons, List.countP_cons, hf _ _ h, countP_forall₂ hf hs]

/-- Gradings that go on claim nothing and release nothing. -/
theorem ClaimsSound.gradesOnly {s t : State} (h : ClaimsSound s) (k : GradesOnly s t) : ClaimsSound t := by
  refine h.of_counts (fun j => by rw [State.stack, State.stack, k.sk]; exact .refl _) fun j => ⟨?_, ?_⟩
  · refine countP_forall₂ (fun x y ⟨_, hs, hd, _⟩ => ?_) k.queue
    unfold TrackEntry.claims
    rw [hs, hd]
  · refine countP_forall₂ (fun x y ⟨_, hs, hd, _⟩ => ?_) k.queue
    unfold TrackEntry.reserves
    rw [hs, hd]

theorem ClaimsSound.atLines {s t : State} (h : ClaimsSound s) (k : AtLines s t) : ClaimsSound t :=
  h.of_counts k.claims fun _ => by rw [k.tracking]; exact ⟨rfl, rfl⟩

/-! ## The relation -/

/-- An event of the mill that keeps the ranges and, under E-STOP, makes no new holder. -/
structure Ranged (s t : State) : Prop extends MillOnly s t where
  bounds  : Bounded s → Bounded t
  holders : s.estop = true → ∀ k l, (t.stack k).holder = some l → (s.stack k).holder = some l

/-- An event of the mill that keeps the ranges and the claims and, under E-STOP, makes no new holder. -/
structure Keeps (s t : State) : Prop extends Ranged s t where
  claims : ClaimsSound s → ClaimsSound t

namespace Ranged

variable {s t u : State}

theorem refl (s : State) : Ranged s s := ⟨.refl s, fun h => h, fun _ _ _ h => h⟩

theorem trans (h : Ranged s t) (k : Ranged t u) : Ranged s u :=
  ⟨h.toMillOnly.trans k.toMillOnly, fun hs => k.bounds (h.bounds hs),
    fun he j l hj => h.holders he j l (k.holders (h.estop.trans he) j l hj)⟩

/-- A change that leaves ports, pins, tables, caches and gradings as they are, and every holder. -/
theorem of_eq (h : (t.grading, t.tables, t.caches, t.ports, t.pins) = (s.grading, s.tables, s.caches, s.ports, s.pins))
    (hb : Bounded s → Bounded t) (hh : ∀ k, (t.stack k).holder = (s.stack k).holder) : Ranged s t :=
  ⟨.of_eq h, hb, fun _ k _ e => hh k ▸ e⟩

theorem atLines (k : AtLines s t) : Ranged s t := ⟨k.toMillOnly, fun h => h.atLines k, k.holders⟩

theorem setLane {l : Lane} {x : IntakeLane} (h : Ranged s t) (hx : Bounded t → x.Bounded l) : Ranged s (t.setLane l x) :=
  h.trans (.of_eq rfl (fun hb => hb.setLane (hx hb)) fun _ => rfl)

theorem setQueue {q : List TrackEntry} (h : Ranged s t) (hq : Bounded t → q.length ≤ Config.trackCapacity) :
    Ranged s (t.setQueue q) :=
  h.trans (.of_eq rfl (fun hb => hb.setQueue (hq hb)) fun _ => rfl)

theorem setStack {k : StackId} {x : Stack} (h : Ranged s t) (hx : x.holder = (t.stack k).holder) :
    Ranged s (t.setStack k x) :=
  h.trans (.of_eq rfl (fun hb => hb.of_eq rfl rfl) fun j => by
    by_cases hj : j = k
    · subst hj; simpa using hx
    · rw [State.stack_setStack_other _ _ hj])

theorem countSheet (h : Ranged s t) : Ranged s t.countSheet :=
  h.trans (.of_eq rfl (fun hb => hb.countSheet) fun _ => rfl)

theorem countRunOut (h : Ranged s t) : Ranged s t.countRunOut :=
  h.trans (.of_eq rfl (fun hb => hb.setRouting (Nat.min_le_left _ _)) fun _ => rfl)

theorem raise (h : Ranged s t) (n : Notice) : Ranged s (t.raise n) := h.trans (.atLines (.raise (.refl t)))
theorem raiseIf (h : Ranged s t) (c : Bool) (n : Notice) : Ranged s (t.raiseIf c n) :=
  h.trans (.atLines (.raiseIf (.refl t)))
theorem abandonAll (h : Ranged s t) (rs : List SheetRecord) : Ranged s (t.abandonAll rs) :=
  h.trans (.atLines (.abandonAll (.refl t)))

theorem abandon (h : Ranged s t) (r : SheetRecord) (d : Bool) : Ranged s (t.abandon r d) := by
  refine h.trans ?_
  have hm := abandon_millOnly t r d
  obtain ⟨g, e⟩ := t.abandon_only_grading r d
  rw [e] at hm ⊢
  exact ⟨hm, fun hb => hb.of_eq rfl rfl, fun _ _ _ h => h⟩

end Ranged

namespace Keeps

variable {s t u : State}

theorem refl (s : State) : Keeps s s := ⟨.refl s, fun h => h⟩

theorem trans (h : Keeps s t) (k : Keeps t u) : Keeps s u :=
  ⟨h.toRanged.trans k.toRanged, fun hs => k.claims (h.claims hs)⟩

theorem atLines (k : AtLines s t) : Keeps s t := ⟨.atLines k, fun h => h.atLines k⟩

/-- A change that leaves tracking queue and stacks as they are. -/
theorem of_ranged (h : Ranged s t) (he : (t.tracking.queue, t.sk.stack) = (s.tracking.queue, s.sk.stack)) : Keeps s t :=
  ⟨h, fun hc => hc.of_eq he⟩

theorem iterate {f : State → State} (hf : ∀ s, Keeps s (f s)) (n : Nat) (s : State) : Keeps s (Machine.iterate f n s) :=
  iterate_rel .refl (fun _ _ _ h k => h.trans k) hf n s

theorem foldl {β : Type} {f : State → β → State} (hf : ∀ s b, Keeps s (f s b)) (bs : List β) (s : State) :
    Keeps s (bs.foldl f s) := foldl_rel .refl (fun _ _ _ h k => h.trans k) hf bs s

theorem raise (h : Keeps s t) (n : Notice) : Keeps s (t.raise n) := h.trans (.atLines (.raise (.refl t)))
theorem raiseIf (h : Keeps s t) (c : Bool) (n : Notice) : Keeps s (t.raiseIf c n) :=
  h.trans (.atLines (.raiseIf (.refl t)))
theorem settle {e : StackEvent} (h : Keeps s e.st) : Keeps s e.settle := h.trans (.atLines e.settle_atLines)
theorem setState {e : StackEvent} (h : Keeps s e.st) (k : StackId) (new : StackState) :
    Keeps s (e.setState k new).st := h.trans (.atLines (e.setState_atLines k new))
theorem drainClose {e : StackEvent} (h : Keeps s e.st) (k : StackId) : Keeps s (e.drainClose k).st :=
  h.trans (.atLines (e.drainClose_atLines k))
theorem grantCheck {e : StackEvent} (h : Keeps s e.st) (k : StackId) : Keeps s (e.grantCheck k).st :=
  h.trans (.atLines (e.grantCheck_atLines k))
theorem drainCloses {e : StackEvent} (h : Keeps s e.st) (ks : List StackId) :
    Keeps s (ks.foldl StackEvent.drainClose e).st := h.trans (.atLines (e.drainCloses_atLines ks))
theorem grantChecks {e : StackEvent} (h : Keeps s e.st) (ks : List StackId) :
    Keeps s (ks.foldl StackEvent.grantCheck e).st := h.trans (.atLines (e.grantChecks_atLines ks))

end Keeps

/-! ## Intake -/

theorem abandon_queue_stacks (s : State) (r : SheetRecord) (d : Bool) :
    ((s.abandon r d).tracking.queue, (s.abandon r d).sk.stack) = (s.tracking.queue, s.sk.stack) := by
  obtain ⟨g, e⟩ := s.abandon_only_grading r d
  rw [e]

@[simp] theorem State.lane_abandon (s : State) (r : SheetRecord) (d : Bool) (l : Lane) :
    (s.abandon r d).lane l = s.lane l := by
  obtain ⟨g, e⟩ := s.abandon_only_grading r d
  rw [e]
  rfl

theorem overrun_keeps (l : Lane) (s : State) : Keeps s (overrun l s) := by
  refine .of_ranged (.raiseIf (.raise (.setLane (.refl s) fun hb => ?_) _) _ _) (by unfold overrun; simp [State.setLane])
  refine ⟨(length_updateLast ..).trans_le (hb.intake l), hb.gaps l, fun e he => ?_⟩
  rcases updateLast_mem he with he | ⟨d, hd, rfl⟩
  · exact (hb.lane l).entries e he
  · exact ⟨((hb.lane l).entries d hd).1, Nat.min_le_left _ _⟩

theorem emptyLane_bounded (l : Lane) : IntakeLane.Bounded l { queue := [], gaps := 0 } :=
  ⟨Nat.zero_le _, Nat.zero_le _, fun _ h => absurd h List.not_mem_nil⟩

theorem resyncLane_keeps (l : Lane) (s : State) : Keeps s (resyncLane l s) := by
  refine .of_ranged (.setLane (.abandonAll (.refl s) _) fun _ => emptyLane_bounded l) ?_
  obtain ⟨g, e⟩ := s.abandonAll_only_grading ((s.lane l).queue.map (·.sheet))
  unfold resyncLane
  rw [e]
  rfl

theorem expireDue_keeps (l : Lane) (s : State) : Keeps s (expireDue l s) := by
  unfold expireDue
  split
  · unfold expireHead
    split
    · exact .refl s
    · next e rest hq =>
      refine .of_ranged (.raise (.setLane (.abandon (.refl s) _ _) fun hb => ?_) _) (abandon_queue_stacks s e.sheet true)
      have hl : (s.lane l).Bounded l := by simpa using hb.lane l
      have hlen := hl.length
      rw [hq, List.length_cons] at hlen
      exact ⟨by dsimp only; omega, Nat.min_le_left _ _, fun d hd => hl.entries d (hq ▸ List.mem_cons_of_mem e hd)⟩
  · exact .refl s

theorem handOver_keeps (r : SheetRecord) (s : State) : Keeps s (handOver r s) := by
  unfold handOver
  split
  · exact .of_ranged (.countRunOut (.abandon (.refl s) _ _)) (abandon_queue_stacks s r true)
  · split
    · next hl =>
      refine ⟨.setQueue (.refl s) fun _ => by simpa using hl, fun hc => hc.of_counts (fun _ => .refl _) fun k => ?_⟩
      change (s.tracking.queue ++ [joiningEntry r]).countP _ = _ ∧ (s.tracking.queue ++ [joiningEntry r]).countP _ = _
      simp [TrackEntry.claims, TrackEntry.reserves, joiningEntry]
    · exact .of_ranged (.raise (.countRunOut (.abandon (.refl s) _ _)) _) (abandon_queue_stacks s r true)

theorem mergeLane_keeps (l : Lane) (s : State) : Keeps s (mergeLane l s) := by
  unfold mergeLane
  dsimp only
  split
  · refine .trans (.of_ranged (.setLane (.countSheet (.refl s)) fun hb => ?_) rfl) (handOver_keeps ..)
    have hl : (s.lane l).Bounded l := hb.lane l
    exact ⟨hl.length, (Nat.sub_le _ _).trans hl.gaps, hl.entries⟩
  · split
    · next e rest hq =>
      refine .trans (.of_ranged (.setLane (.refl s) fun hb => ?_) rfl) (handOver_keeps ..)
      have hl := (hb.lane l).length
      rw [hq, List.length_cons] at hl
      have he := (hb.lane l).entries
      rw [hq] at he
      exact ⟨by dsimp only; omega, (he e List.mem_cons_self).2, fun d hd => he d (List.mem_cons_of_mem e hd)⟩
    · exact .trans (.of_ranged (.raise (.countSheet (.refl s)) _) rfl) (handOver_keeps ..)

/-! ## Tracking -/

theorem TrackEntry.claims_own {e : TrackEntry} {k : StackId} (h : e.stack = some k)
    (hd : e.drop = .allocated ∨ e.drop = .reserved) : e.claims k = true := by
  rcases hd with hd | hd <;> simp [TrackEntry.claims, h, hd]

theorem TrackEntry.reserves_own {e : TrackEntry} {k : StackId} (h : e.stack = some k) (hd : e.drop = .reserved) :
    e.reserves k = true := by
  simp [TrackEntry.reserves, h, hd]

theorem TrackEntry.reserves_not {e : TrackEntry} (h : e.drop ≠ .reserved) (k : StackId) : e.reserves k = false := by
  simp [TrackEntry.reserves, h]

theorem TrackEntry.claims_other {e : TrackEntry} {k j : StackId} (h : e.stack = some k) (hj : j ≠ k) :
    e.claims j = false := by
  simp [TrackEntry.claims, h, Ne.symm hj]

theorem TrackEntry.reserves_other {e : TrackEntry} {k j : StackId} (h : e.stack = some k) (hj : j ≠ k) :
    e.reserves j = false := by
  simp [TrackEntry.reserves, h, Ne.symm hj]

/-- An entry that has no drop ahead holds nothing. -/
theorem TrackEntry.holds_nothing {e : TrackEntry} (h : e.drop = .noDrop ∨ e.drop = .abandoned) (k : StackId) :
    e.claims k = false ∧ e.reserves k = false := by
  rcases h with h | h <;> simp [TrackEntry.claims, TrackEntry.reserves, h]

theorem decideStack_eligible {c : SheetClass} {s : State} {k : StackId} (h : decideStack c s = some k) :
    (s.stack k).bound < (s.stack k).capacity := by
  have := List.find?_some h
  simp only [Stack.eligible, Bool.and_eq_true, decide_eq_true_eq] at this
  exact this.2

theorem find_drop {p : TrackEntry → Bool} {P : TrackEntry → Prop} (hp : ∀ e, p e = true → P e) {q : List TrackEntry}
    {e : TrackEntry} (h : q.find? p = some e) : P e := hp e (List.find?_some h)

/-- How the counts of stack `j` change when the first entry that satisfies `p` is updated, its stack kept or set. -/
theorem counts_updateFirst {p : TrackEntry → Bool} {q : List TrackEntry} {e : TrackEntry} (he : q.find? p = some e)
    (g : TrackEntry → TrackEntry) (j : StackId) :
    (updateFirst p g q).countP (TrackEntry.claims j) + (e.claims j).toNat =
        q.countP (TrackEntry.claims j) + ((g e).claims j).toNat ∧
      (updateFirst p g q).countP (TrackEntry.reserves j) + (e.reserves j).toNat =
        q.countP (TrackEntry.reserves j) + ((g e).reserves j).toNat :=
  ⟨countP_updateFirst _ _ he, countP_updateFirst _ _ he⟩

/-- An entry updated counts the same where it holds the same. -/
theorem counts_updateFirst_same {p : TrackEntry → Bool} {q : List TrackEntry} {e : TrackEntry} (he : q.find? p = some e)
    {g : TrackEntry → TrackEntry} {j : StackId} (hc : (g e).claims j = e.claims j)
    (hr : (g e).reserves j = e.reserves j) :
    (updateFirst p g q).countP (TrackEntry.claims j) = q.countP (TrackEntry.claims j) ∧
      (updateFirst p g q).countP (TrackEntry.reserves j) = q.countP (TrackEntry.reserves j) := by
  obtain ⟨h1, h2⟩ := counts_updateFirst he g j
  rw [hc] at h1
  rw [hr] at h2
  exact ⟨by omega, by omega⟩

/-- An entry bound for another stack counts nothing on this one, whatever becomes of its drop. -/
theorem counts_updateFirst_other {p : TrackEntry → Bool} {q : List TrackEntry} {e : TrackEntry}
    (he : q.find? p = some e) (d : DropState) {k j : StackId} (hs : e.stack = some k) (hj : j ≠ k) :
    (updateFirst p (fun e => { e with drop := d }) q).countP (TrackEntry.claims j) = q.countP (TrackEntry.claims j) ∧
      (updateFirst p (fun e => { e with drop := d }) q).countP (TrackEntry.reserves j) =
        q.countP (TrackEntry.reserves j) :=
  have hd : ({ e with drop := d } : TrackEntry).stack = some k := hs
  counts_updateFirst_same he ((TrackEntry.claims_other hd hj).trans (TrackEntry.claims_other hs hj).symm)
    ((TrackEntry.reserves_other hd hj).trans (TrackEntry.reserves_other hs hj).symm)

/-- An entry routing finds no stack for holds nothing. -/
theorem undecided_keeps {p : TrackEntry → Bool} {s : State} {e : TrackEntry} (he : s.tracking.queue.find? p = some e)
    (hd : e.drop = .noDrop) :
    Keeps s (s.setQueue (updateFirst p (fun x => x.decidedBy none) s.tracking.queue)) := by
  refine ⟨.setQueue (.refl s) fun hb => (length_updateFirst ..).trans_le hb.tracking,
    fun h => h.of_counts (fun _ => .refl _) fun j => ?_⟩
  obtain ⟨hc, hr⟩ := TrackEntry.holds_nothing (.inl hd) j
  obtain ⟨hc', hr'⟩ := TrackEntry.holds_nothing (e := e.decidedBy none) (.inl rfl) j
  exact counts_updateFirst_same he (hc'.trans hc.symm) (hr'.trans hr.symm)

/-- An entry decided for a stack with room holds a place there. -/
theorem decided_keeps {p : TrackEntry → Bool} {s : State} {e : TrackEntry} (he : s.tracking.queue.find? p = some e)
    (hd : e.drop = .noDrop) {k : StackId} (hb : (s.stack k).bound < (s.stack k).capacity) (late : Bool) :
    Keeps s (allocate k
      ((s.setQueue (updateFirst p (fun x => x.decidedBy (some k)) s.tracking.queue)).raiseIf late .gradeLate)) := by
  refine ⟨?_, fun h => ?_⟩
  · unfold allocate
    refine .raiseIf (.setStack (.raiseIf (.setQueue (.refl s) fun hb => ?_) _ _) (by rfl)) _ _
    exact (length_updateFirst ..).trans_le hb.tracking
  · refine ClaimsSound.of_eq (s := ((s.setQueue (updateFirst p (fun x => x.decidedBy (some k)) s.tracking.queue)).setStack k
      { s.stack k with allocated := (s.stack k).allocated + 1 })) ?_ (by simp [allocate, State.setStack])
    have hs : (e.decidedBy (some k)).stack = some k := rfl
    refine h.setOne (fun hx => ?_) fun j hj => ?_
    · obtain ⟨h1, h2⟩ := counts_updateFirst he (fun x => x.decidedBy (some k)) k
      rw [(TrackEntry.holds_nothing (.inl hd) k).1, TrackEntry.claims_own hs (.inl rfl)] at h1
      rw [(TrackEntry.holds_nothing (.inl hd) k).2, TrackEntry.reserves_not (by simp [TrackEntry.decidedBy])] at h2
      have ha := hx.allocated
      have hr := hx.reserved
      unfold Stack.bound at hb
      simp only [Bool.toNat_false, Bool.toNat_true] at h1 h2
      exact ⟨by dsimp only; omega, by dsimp only; omega, hx.falling, by unfold Stack.bound; dsimp only; omega, hx.capacity⟩
    · obtain ⟨hc, hr⟩ := TrackEntry.holds_nothing (.inl hd) j
      exact counts_updateFirst_same he ((TrackEntry.claims_other hs hj).trans hc.symm)
        ((TrackEntry.reserves_other hs hj).trans hr.symm)

theorem takeDecision_keeps {p : TrackEntry → Bool} (hp : ∀ e, p e = true → e.drop = .noDrop) (s : State) :
    Keeps s (takeDecision p s) := by
  unfold takeDecision
  split
  · exact .refl s
  · next e he =>
    have hd := find_drop hp he
    have hu : ∃ g, (if e.sheet.cls.isNone then s.abandon e.sheet false else s) = { s with grading := g } := by
      split
      · exact s.abandon_only_grading e.sheet false
      · exact ⟨s.grading, rfl⟩
    have ha : Keeps s (if e.sheet.cls.isNone then s.abandon e.sheet false else s) := by
      split
      · exact .of_ranged (.abandon (.refl s) _ _) (abandon_queue_stacks ..)
      · exact .refl s
    dsimp only
    obtain ⟨g, hu⟩ := hu
    rw [hu] at ha ⊢
    split
    · next hc =>
      rw [hc]
      exact ha.trans (.raiseIf (undecided_keeps (s := { s with grading := g }) he hd) _ _)
    · next k hc =>
      rw [hc]
      exact ha.trans (decided_keeps (s := { s with grading := g }) he hd (decideStack_eligible hc) _)

theorem takeApproach_keeps {p : TrackEntry → Bool} (hp : ∀ e, p e = true → e.drop = .allocated) (s : State) :
    Keeps s (takeApproach p s) := by
  unfold takeApproach
  split
  · exact .refl s
  · next k hk =>
    obtain ⟨e, he, hs⟩ := Option.bind_eq_some_iff.mp hk
    have hd := find_drop hp he
    refine ⟨.setStack (.setQueue (.refl s) fun hb => (length_updateFirst ..).trans_le hb.tracking) rfl, fun h => ?_⟩
    refine h.setOne (fun hx => ?_) fun j hj => ?_
    · obtain ⟨h1, h2⟩ := counts_updateFirst he (fun e => { e with drop := .reserved }) k
      have hc : TrackEntry.claims k e = true := TrackEntry.claims_own hs (.inl hd)
      have hn : TrackEntry.reserves k e = false := TrackEntry.reserves_not (by simp [hd]) k
      have hc' : TrackEntry.claims k { e with drop := .reserved } = true := TrackEntry.claims_own hs (.inr rfl)
      have hn' : TrackEntry.reserves k { e with drop := .reserved } = true := TrackEntry.reserves_own hs rfl
      rw [hc, hc'] at h1
      rw [hn, hn'] at h2
      have ha := hx.allocated
      have hr := hx.reserved
      simp only [Bool.toNat_false, Bool.toNat_true] at h1 h2
      refine ⟨?_, ?_, hx.falling, hx.room, hx.capacity⟩
      · change (s.stack k).allocated = _ + (s.stack k).falling.length
        omega
      · change (s.stack k).reservations + 1 = _
        omega
    · exact counts_updateFirst_other he _ hs hj

/-- How the counts of stack `j` change when the first entry that satisfies `p` leaves. -/
theorem counts_dropFirst {p : TrackEntry → Bool} {q : List TrackEntry} {e : TrackEntry} (he : q.find? p = some e)
    (j : StackId) : (dropFirst p q).countP (TrackEntry.claims j) + (e.claims j).toNat = q.countP (TrackEntry.claims j) ∧
      (dropFirst p q).countP (TrackEntry.reserves j) + (e.reserves j).toNat = q.countP (TrackEntry.reserves j) :=
  ⟨countP_dropFirst_of_find _ he, countP_dropFirst_of_find _ he⟩

theorem counts_dropFirst_same {p : TrackEntry → Bool} {q : List TrackEntry} {e : TrackEntry} (he : q.find? p = some e)
    {j : StackId} (hc : e.claims j = false) (hr : e.reserves j = false) :
    (dropFirst p q).countP (TrackEntry.claims j) = q.countP (TrackEntry.claims j) ∧
      (dropFirst p q).countP (TrackEntry.reserves j) = q.countP (TrackEntry.reserves j) := by
  obtain ⟨h1, h2⟩ := counts_dropFirst he j
  rw [hc] at h1
  rw [hr] at h2
  exact ⟨h1, h2⟩

theorem fireDrop_keeps {p : TrackEntry → Bool} {s : State} {e : TrackEntry} {k : StackId}
    (he : s.tracking.queue.find? p = some e) (hd : e.drop = .reserved) (hs : e.stack = some k)
    (hf : firesDrop k s = true) : Keeps s (fireDrop p e k s) := by
  refine ⟨?_, fun h => ?_⟩
  · refine .trans (.setStack (.setQueue (.refl s) fun hb => ?_) (by rfl)) (.of_eq rfl (fun hb => hb.of_eq rfl rfl) fun _ => rfl)
    exact (dropFirst_sublist p _).length_le.trans hb.tracking
  · refine ClaimsSound.of_eq (h.setOne (k := k) (x := { s.stack k with
      reservations := (s.stack k).reservations - 1,
      falling := (s.stack k).falling ++ [{ sheet := e.sheet, timer := 0 }] }) (q := dropFirst p s.tracking.queue)
      (fun hx => ?_) fun j hj => ?_) rfl
    · obtain ⟨h1, h2⟩ := counts_dropFirst he k
      rw [TrackEntry.claims_own hs (.inr hd)] at h1
      rw [TrackEntry.reserves_own hs hd] at h2
      have ha := hx.allocated
      have hr := hx.reserved
      have hl : (s.stack k).falling.length < Config.fallingCapacity := by
        simp only [firesDrop, Bool.and_eq_true, decide_eq_true_eq] at hf
        exact hf.2
      simp only [Bool.toNat_true] at h1 h2
      refine ⟨?_, ?_, ?_, hx.room, hx.capacity⟩
      · simp only [List.length_append, List.length_singleton]
        omega
      · dsimp only
        omega
      · simp only [List.length_append, List.length_singleton]
        omega
    · exact counts_dropFirst_same he (TrackEntry.claims_other hs hj) (TrackEntry.reserves_other hs hj)

theorem abandonDrop_keeps {p : TrackEntry → Bool} {s : State} {e : TrackEntry} {k : StackId}
    (he : s.tracking.queue.find? p = some e) (hd : e.drop = .reserved) (hs : e.stack = some k) :
    Keeps s (abandonDrop p k s) := by
  refine .settle (.grantCheck (.drainClose (.raise ⟨.setStack (.setQueue (.refl s) fun hb => ?_) (by rfl), fun h => ?_⟩ _) k) k)
  · exact (length_updateFirst ..).trans_le hb.tracking
  · refine h.setOne (fun hx => ?_) fun j hj => ?_
    · obtain ⟨h1, h2⟩ := counts_updateFirst he (fun e => { e with drop := .abandoned }) k
      obtain ⟨hc, hr⟩ := TrackEntry.holds_nothing (e := { e with drop := .abandoned }) (.inr rfl) k
      rw [TrackEntry.claims_own hs (.inr hd), hc] at h1
      rw [TrackEntry.reserves_own hs hd, hr] at h2
      have ha := hx.allocated
      have hr := hx.reserved
      have hb := hx.room
      unfold Stack.bound at hb
      simp only [Bool.toNat_true, Bool.toNat_false] at h1 h2
      exact ⟨by dsimp only; omega, by dsimp only; omega, hx.falling, by unfold Stack.bound; dsimp only; omega, hx.capacity⟩
    · exact counts_updateFirst_other he _ hs hj

theorem takeGate_keeps {p : TrackEntry → Bool} (hp : ∀ e, p e = true → e.drop = .reserved) (s : State) :
    Keeps s (takeGate p s) := by
  unfold takeGate
  split
  · exact .refl s
  · next e he =>
    split
    · exact .refl s
    · next k hs =>
      split
      · next hf => exact fireDrop_keeps he (find_drop hp he) hs hf
      · exact abandonDrop_keeps he (find_drop hp he) hs

theorem takeRunOut_keeps {p : TrackEntry → Bool} (hp : ∀ e, p e = true → e.drop = .noDrop ∨ e.drop = .abandoned)
    (s : State) : Keeps s (takeRunOut p s) := by
  unfold takeRunOut
  split
  · exact .refl s
  · next e he =>
    refine .trans (.of_ranged (.abandon (.refl s) e.sheet true) (abandon_queue_stacks ..)) ?_
    obtain ⟨g, h⟩ := s.abandon_only_grading e.sheet true
    rw [h]
    refine ⟨.countRunOut (.setQueue (.refl _) fun hb => ?_), fun h => h.of_counts (fun _ => .refl _) fun j => ?_⟩
    · exact (dropFirst_sublist p _).length_le.trans hb.tracking
    · obtain ⟨hc, hr⟩ := TrackEntry.holds_nothing (find_drop hp he) j
      exact counts_dropFirst_same he hc hr

/-- What an entry's drop is when a threshold event of it is due (R89). -/
theorem drop_of_decisionDue {g : Geometry} {e : TrackEntry} (h : decisionDue g e = true) : e.drop = .noDrop := by
  simp only [decisionDue, Bool.and_eq_true, decide_eq_true_eq] at h
  exact h.1.2

theorem drop_of_approachDue {g : Geometry} {e : TrackEntry} (h : approachDue g e = true) : e.drop = .allocated := by
  simp only [approachDue, Bool.and_eq_true, decide_eq_true_eq] at h
  exact h.1

theorem drop_of_gateDue {g : Geometry} {e : TrackEntry} (h : gateDue g e = true) : e.drop = .reserved := by
  simp only [gateDue, Bool.and_eq_true, decide_eq_true_eq] at h
  exact h.1

theorem drop_of_runOutDue {g : Geometry} {e : TrackEntry} (h : runOutDue g e = true) :
    e.drop = .noDrop ∨ e.drop = .abandoned := by
  simp only [runOutDue, Bool.and_eq_true, Bool.or_eq_true, decide_eq_true_eq] at h
  exact h.1

theorem commanded_keeps {due : Geometry → TrackEntry → Bool} {take : (TrackEntry → Bool) → State → State} (n : Nat)
    (s : State) (h : ∀ p, (∀ e, p e = true → due s.tracking.geometry e = true) → Keeps s (take p s)) :
    Keeps s (commanded due take n s) := by
  unfold commanded
  split
  · exact h _ fun e he => (Bool.and_eq_true _ _ ▸ he).2
  · exact .refl s

theorem takeOwedBy_keeps (e : TrackEntry) (s : State) : Keeps s (takeOwedBy e s) := by
  unfold takeOwedBy TrackEntry.owes
  dsimp only
  by_cases hd : decisionDue s.tracking.geometry e = true
  · rw [if_pos hd]
    exact takeDecision_keeps (fun x hx => by rw [of_decide_eq_true hx]; exact drop_of_decisionDue hd) s
  rw [if_neg hd]
  by_cases ha : approachDue s.tracking.geometry e = true
  · rw [if_pos ha]
    exact takeApproach_keeps (fun x hx => by rw [of_decide_eq_true hx]; exact drop_of_approachDue ha) s
  rw [if_neg ha]
  by_cases hg : gateDue s.tracking.geometry e = true
  · rw [if_pos hg]
    exact takeGate_keeps (fun x hx => by rw [of_decide_eq_true hx]; exact drop_of_gateDue hg) s
  rw [if_neg hg]
  by_cases hr : runOutDue s.tracking.geometry e = true
  · rw [if_pos hr]
    exact takeRunOut_keeps (fun x hx => by rw [of_decide_eq_true hx]; exact drop_of_runOutDue hr) s
  rw [if_neg hr]
  exact .refl s

theorem takeOwed_keeps (s : State) : Keeps s (takeOwed s) := by
  unfold takeOwed
  split
  · exact .refl s
  · exact takeOwedBy_keeps ..
  · exact .trans (.atLines (.choices (.refl s))) (takeOwedBy_keeps ..)

theorem takeAllOwed_keeps (s : State) : Keeps s (takeAllOwed s) := .iterate takeOwed_keeps _ s

theorem moveEntries_keeps (s : State) : Keeps s (moveEntries s) := by
  refine ⟨.of_eq rfl (fun hb => ?_) fun _ => rfl, fun h => h.of_counts (fun _ => .refl _) fun j => ?_⟩
  · refine hb.of_blocks hb.lane hb.counter ?_ hb.runOut hb.line rfl hb.ports
    exact (List.length_map _).trans_le hb.tracking
  · unfold moveEntries
    simp only [State.setTracking, List.countP_map]
    exact ⟨rfl, rfl⟩

theorem startStall_keeps (s : State) : Keeps s (startStall s) := by
  unfold startStall
  split
  · exact .of_ranged (.of_eq rfl (fun hb => hb.of_eq rfl rfl) fun _ => rfl) rfl
  · exact .refl s

end Sys2Proof.Machine
end

section
/-!
PROOFS. The encoder stall, TRACK CLEAR, landings and parameters keep ranges, claims and holders; and the statements
BoundedKept, ClaimsSoundKept and NoGrantUnderEstop.
-/

namespace Sys2Proof.Machine

/-! ## Claims released, entry by entry -/

/-- A stack without the claims of an entry. -/
def Stack.without (x : Stack) (allocated reservations : Nat) : Stack :=
  { x with allocated := x.allocated - allocated, reservations := x.reservations - reservations }

theorem Stack.without_zero (x : Stack) : x.without 0 0 = x := rfl

theorem Stack.without_without (x : Stack) (a b c d : Nat) : (x.without a b).without c d = x.without (a + c) (b + d) := by
  simp [Stack.without, Nat.sub_sub]

theorem stack_setStack (s : State) (k j : StackId) (x : Stack) :
    (s.setStack k x).stack j = if j = k then x else s.stack j := by
  split
  · next h => subst h; exact State.stack_setStack_same ..
  · next h => exact State.stack_setStack_other _ _ h

theorem stack_releaseReservation (e : TrackEntry) (s : State) (j : StackId) :
    (releaseReservation e s).stack j = (s.stack j).without 0 (e.reserves j).toNat := by
  unfold releaseReservation TrackEntry.reserves
  split
  · next k hd hs =>
    rw [stack_setStack, hd, hs]
    by_cases hj : j = k
    · subst hj; simp [Stack.without]
    · simp [hj, Ne.symm hj, Stack.without]
  · next hn =>
    have : (decide (e.drop = .reserved) && decide (e.stack = some j)) = false := by
      cases hb : (decide (e.drop = .reserved) && decide (e.stack = some j)) with
      | false => rfl
      | true =>
        simp only [Bool.and_eq_true, decide_eq_true_eq] at hb
        exact absurd hb.2 (hn j hb.1)
    rw [this]
    exact (Stack.without_zero _).symm

theorem stack_releaseClaims (e : TrackEntry) (s : State) (j : StackId) :
    (releaseClaims e s).stack j = (s.stack j).without (e.claims j).toNat (e.reserves j).toNat := by
  unfold releaseClaims TrackEntry.claims TrackEntry.reserves
  split
  · next k hd hs =>
    rw [stack_setStack, hd, hs]
    by_cases hj : j = k
    · subst hj; simp [Stack.without]
    · simp [hj, Ne.symm hj, Stack.without]
  · next k hd hs =>
    rw [stack_setStack, hd, hs]
    by_cases hj : j = k
    · subst hj; simp [Stack.without]
    · simp [hj, Ne.symm hj, Stack.without]
  · next ha hr =>
    have hn (d : DropState) (h : ∀ k, e.drop = d → e.stack = some k → False) :
        (decide (e.drop = d) && decide (e.stack = some j)) = false := by
      by_contra hb
      simp only [Bool.not_eq_false, Bool.and_eq_true, decide_eq_true_eq] at hb
      exact h j hb.1 hb.2
    rw [Bool.and_or_distrib_right, hn _ ha, hn _ hr]
    exact (Stack.without_zero _).symm

/-- Only the stacks of a state changed. -/
def OnlyStacks (s t : State) : Prop := ∃ v, t = s.setSk { s.sk with stack := v }

theorem OnlyStacks.refl (s : State) : OnlyStacks s s := ⟨s.sk.stack, rfl⟩

theorem OnlyStacks.trans {s t u : State} (h : OnlyStacks s t) (k : OnlyStacks t u) : OnlyStacks s u := by
  obtain ⟨v, rfl⟩ := h
  obtain ⟨w, rfl⟩ := k
  exact ⟨w, rfl⟩

theorem releaseReservation_only (e : TrackEntry) (s : State) : OnlyStacks s (releaseReservation e s) := by
  unfold releaseReservation
  split
  · exact ⟨_, rfl⟩
  · exact .refl s

theorem releaseClaims_only (e : TrackEntry) (s : State) : OnlyStacks s (releaseClaims e s) := by
  unfold releaseClaims
  split
  · exact ⟨_, rfl⟩
  · exact ⟨_, rfl⟩
  · exact .refl s

theorem releaseReservations_only (q : List TrackEntry) (s : State) :
    OnlyStacks s (q.foldl (fun s e => releaseReservation e s) s) :=
  foldl_rel .refl (fun _ _ _ h k => h.trans k) (fun s e => releaseReservation_only e s) q s

theorem releaseAllClaims_only (q : List TrackEntry) (s : State) :
    OnlyStacks s (q.foldl (fun s e => releaseClaims e s) s) :=
  foldl_rel .refl (fun _ _ _ h k => h.trans k) (fun s e => releaseClaims_only e s) q s

theorem countP_cons_toNat {α : Type} (f : α → Bool) (x : α) (xs : List α) :
    (x :: xs).countP f = (f x).toNat + xs.countP f := by
  rw [List.countP_cons, Nat.add_comm]
  cases f x <;> rfl

/-- Every reservation of a queue released. -/
theorem stack_releaseReservations (j : StackId) : ∀ (q : List TrackEntry) (s : State),
    (q.foldl (fun s e => releaseReservation e s) s).stack j = (s.stack j).without 0 (q.countP (TrackEntry.reserves j))
  | [], s => (Stack.without_zero _).symm
  | e :: q, s => by
    rw [List.foldl_cons, stack_releaseReservations j q, stack_releaseReservation, Stack.without_without,
      countP_cons_toNat]

/-- Every claim of a queue released. -/
theorem stack_releaseAllClaims (j : StackId) : ∀ (q : List TrackEntry) (s : State),
    (q.foldl (fun s e => releaseClaims e s) s).stack j =
      (s.stack j).without (q.countP (TrackEntry.claims j)) (q.countP (TrackEntry.reserves j))
  | [], s => (Stack.without_zero _).symm
  | e :: q, s => by
    rw [List.foldl_cons, stack_releaseAllClaims j q, stack_releaseClaims, Stack.without_without, countP_cons_toNat,
      countP_cons_toNat]

theorem Ranged.onlyStacks {s t : State} (h : OnlyStacks s t) (hh : ∀ k, (t.stack k).holder = (s.stack k).holder) :
    Ranged s t := by
  obtain ⟨v, rfl⟩ := h
  exact .of_eq rfl (fun hb => hb.of_eq rfl rfl) hh

/-! ## The encoder stall and TRACK CLEAR -/

/-- The entries after a stall: those RESERVED are ALLOCATED again (R98). -/
theorem counts_unreserved (q : List TrackEntry) (j : StackId) :
    (q.map fun e => if e.drop = .reserved then { e with drop := .allocated } else e).countP (TrackEntry.claims j) =
        q.countP (TrackEntry.claims j) ∧
      (q.map fun e => if e.drop = .reserved then { e with drop := .allocated } else e).countP (TrackEntry.reserves j) =
        0 := by
  rw [List.countP_map, List.countP_map]
  constructor
  · refine List.countP_congr fun e _ => ?_
    by_cases h : e.drop = .reserved <;> simp [TrackEntry.claims, h]
  · refine List.countP_eq_zero.mpr fun e _ => ?_
    by_cases h : e.drop = .reserved <;> simp [TrackEntry.reserves, h]

theorem takeStall_keeps (s : State) : Keeps s (takeStall s) := by
  refine .settle (.grantChecks (.raise ⟨.trans (.onlyStacks (releaseReservations_only ..) fun k => ?_)
    (.of_eq (by rfl) (fun hb => ?_) fun _ => by rfl), fun h => ?_⟩ _) _)
  · rw [stack_releaseReservations]; rfl
  · refine hb.of_blocks hb.lane hb.counter ?_ hb.runOut hb.line rfl hb.ports
    have := hb.tracking
    obtain ⟨v, e⟩ := releaseReservations_only s.tracking.queue s
    rw [e] at this
    exact (List.length_map _).trans_le this
  · rw [claimsSound_iff] at h ⊢
    intro k
    have hk := h k
    obtain ⟨h1, h2⟩ := counts_unreserved s.tracking.queue k
    change Stack.CountedIn k _ (State.stack (s.tracking.queue.foldl (fun s e => releaseReservation e s) s) k)
    rw [stack_releaseReservations]
    refine ⟨?_, ?_, hk.falling, hk.room, hk.capacity⟩
    · exact hk.allocated.trans (congrArg (· + (s.stack k).falling.length) h1.symm)
    · exact (Nat.sub_eq_zero_of_le hk.reserved.le).trans h2.symm

theorem clearTracking_keeps (s : State) : Keeps s (clearTracking s) := by
  have ha : Keeps s (s.abandonAll (s.tracking.queue.map (·.sheet))) := .atLines (.abandonAll (.refl s))
  refine .settle (.grantChecks (.drainCloses (.trans ⟨.trans (ha.toRanged.trans (.onlyStacks (releaseAllClaims_only ..)
    fun k => ?_)) (.of_eq (by rfl) (fun hb => ?_) fun _ => by rfl), fun h => ?_⟩ (startStall_keeps _)) _) _)
  · rw [stack_releaseAllClaims]; rfl
  · exact hb.of_blocks hb.lane hb.counter (Nat.zero_le _) hb.runOut hb.line rfl hb.ports
  · rw [claimsSound_iff] at h ⊢
    intro k
    have hk := h k
    change Stack.CountedIn k [] (State.stack (s.tracking.queue.foldl (fun s e => releaseClaims e s) _) k)
    rw [stack_releaseAllClaims, State.stack_abandonAll]
    have ha := hk.allocated
    have hb := hk.room
    unfold Stack.bound at hb
    refine ⟨?_, ?_, hk.falling, ?_, hk.capacity⟩
    · unfold Stack.without
      simp only [List.countP_nil]
      omega
    · exact Nat.sub_eq_zero_of_le hk.reserved.le
    · unfold Stack.without Stack.bound
      dsimp only
      omega

/-! ## Landings and parameters -/

theorem ClaimsSound.setStack {s : State} (h : ClaimsSound s) {k : StackId} {x : Stack}
    (hx : (s.stack k).CountedIn k s.tracking.queue → x.CountedIn k s.tracking.queue) : ClaimsSound (s.setStack k x) :=
  h.setOne (q := s.tracking.queue) hx fun _ _ => ⟨rfl, rfl⟩

theorem pushFalling_keeps (k : StackId) (unconfirmed : Bool) (s : State) : Keeps s (pushFalling k unconfirmed s) := by
  unfold pushFalling
  dsimp only
  split
  · exact .refl s
  · next f rest hf =>
    refine ⟨.setStack (.refl s) (by rfl), fun h => ?_⟩
    refine h.setStack fun hx => ?_
    have ha := hx.allocated
    have hl := hx.falling
    have hb := hx.room
    rw [hf, List.length_cons] at ha hl
    unfold Stack.bound at hb
    refine ⟨by dsimp only; omega, hx.reserved, by dsimp only; omega, ?_, hx.capacity⟩
    unfold Stack.bound
    simp only [List.length_cons]
    omega

theorem landOn_keeps (k : StackId) (s : State) : Keeps s (landOn k s) :=
  .settle (.grantCheck (pushFalling_keeps k false s) k)

theorem missLanding_keeps (k : StackId) (s : State) : Keeps s (missLanding k s) := by
  unfold missLanding
  split
  · exact .settle (.setState (.raise (.raise (pushFalling_keeps k true s) _) _) k .faulted)
  · exact .refl s

theorem settleFalling_keeps (s : State) (k : StackId) : Keeps s (settleFalling s k) :=
  .iterate (missLanding_keeps k) _ s

/-- One parameter changed to a value in its range. -/
theorem Bounded.setParameter {s t : State} (h : Bounded s) (q : Param) {v : Nat} (hv : q.inRange v = true)
    (he : (t.intake.lanes, t.intake.counter, t.tracking.queue, t.routing, t.lines.line, t.ports) =
      (s.intake.lanes, s.intake.counter, s.tracking.queue, s.routing, s.lines.line, s.ports))
    (hq : q.value t = v) (ho : ∀ r, r ≠ q → r.value t = r.value s) (hg : t.tracking.geometry.valid = true) :
    Bounded t := by
  simp only [Prod.mk.injEq] at he
  obtain ⟨hi, hc, hq', hr, hl, hp⟩ := he
  have lane (l : Lane) : (t.lane l).Bounded l := by rw [State.lane, hi]; exact h.lane l
  have line (l : Line) : (t.line l).Bounded := by rw [State.line, hl]; exact h.line l
  have port (p : Port) : t.port p = s.port p := by rw [State.port, State.port, hp]
  exact
    { intake := fun l => (lane l).length, gaps := fun l => (lane l).gaps
      own := fun l e he => ((lane l).entries e he).1, charged := fun l e he => ((lane l).entries e he).2
      counter := hc ▸ h.counter, tracking := hq' ▸ h.tracking, runOut := hr ▸ h.runOut
      panels := fun l => (line l).panels, numbers := fun l => (line l).number, loops := fun l => (line l).loops
      waiting := fun p => port p ▸ h.waiting p, notices := fun p => port p ▸ h.notices p, geometry := hg
      params := fun r => by
        by_cases hr : r = q
        · subst hr
          rw [hq]
          simpa [Param.inRange] using hv
        · rw [ho r hr]
          exact h.params r }

theorem priorityOf_code {v : Nat} (h : Param.priority.inRange v = true) :
    ((priorityOf v).getD .rotating).code = v := by
  have hv : v ≤ 2 := (Bool.and_eq_true _ _ ▸ h).2 |> of_decide_eq_true
  match v, hv with
  | 0, _ => rfl
  | 1, _ => rfl
  | 2, _ => rfl

/-- One parameter set, and nothing else. -/
theorem setParameter_keeps {s t : State} {q : Param} {v : Nat} (hv : q.inRange v = true)
    (hm : (t.grading, t.tables, t.caches, t.ports, t.pins) = (s.grading, s.tables, s.caches, s.ports, s.pins))
    (he : (t.intake.lanes, t.intake.counter, t.tracking.queue, t.routing, t.lines.line, t.sk.stack) =
      (s.intake.lanes, s.intake.counter, s.tracking.queue, s.routing, s.lines.line, s.sk.stack))
    (hq : q.value t = v) (ho : ∀ r, r ≠ q → r.value t = r.value s)
    (hg : s.tracking.geometry.valid = true → t.tracking.geometry.valid = true) : Keeps s t := by
  simp only [Prod.mk.injEq] at he
  obtain ⟨h1, h2, h3, h4, h5, h6⟩ := he
  refine .of_ranged (.of_eq hm (fun hb => hb.setParameter q hv ?_ hq ho (hg hb.geometry)) fun k => ?_) ?_
  · simp only [Prod.mk.injEq] at hm ⊢
    exact ⟨h1, h2, h3, h4, h5, hm.2.2.2.1⟩
  · rw [State.stack, State.stack, h6]
  · rw [h3, h6]

theorem withGate_gate_same (g : Geometry) (k : StackId) (v : Nat) : (g.withGate k v).gate k = v := by
  simp [Geometry.withGate, Geometry.gate]

theorem withGate_gate_other (g : Geometry) {k j : StackId} (v : Nat) (h : j ≠ k) : (g.withGate k v).gate j = g.gate j := by
  have : k.val ≠ j.val := fun e => h (Fin.ext e.symm)
  simp [Geometry.withGate, Geometry.gate, this]

theorem paramApply_keeps {q : Param} {v : Nat} {s : State} (hv : q.inRange v = true)
    (hg : ∀ g, q.geometry v s.tracking.geometry = some g → s.tracking.queue = [] ∧ g.valid = true) :
    Keeps s (q.apply v s) := by
  cases q with
  | ageLimit =>
    refine .trans (.trans (setParameter_keeps (t := s.setIntake { s.intake with ageLimit := v }) hv rfl rfl rfl
      (fun r hr => ?_) id) (.iterate (expireDue_keeps .lane1) _ _)) (.iterate (expireDue_keeps .lane2) _ _)
    cases r with
    | ageLimit => exact absurd rfl hr
    | _ => rfl
  | stallLimit =>
    have h : Keeps s (s.setTracking { s.tracking with stallLimit := v }) := by
      refine setParameter_keeps hv rfl rfl rfl (fun r hr => ?_) id
      cases r with
      | stallLimit => exact absurd rfl hr
      | _ => rfl
    simp only [Param.apply, setStallLimit]
    split
    · exact h.trans (.of_ranged (.of_eq rfl (fun hb => hb.of_eq rfl rfl) fun _ => rfl) rfl)
    · split
      · exact h.trans (startStall_keeps _)
      · split
        · exact h.trans (takeStall_keeps _)
        · exact h
  | landingLimit =>
    refine .trans (setParameter_keeps (t := s.setSk { s.sk with landingLimit := v }) hv rfl rfl rfl (fun r hr => ?_) id)
      (.foldl settleFalling_keeps _ _)
    cases r with
    | landingLimit => exact absurd rfl hr
    | _ => rfl
  | pickLimit =>
    refine .trans (.trans (setParameter_keeps (t := s.setLines { s.lines with pickLimit := v }) hv rfl rfl rfl
      (fun r hr => ?_) id) (.atLines (timeOutPick_atLines .a _))) (.atLines (timeOutPick_atLines .b _))
    cases r with
    | pickLimit => exact absurd rfl hr
    | _ => rfl
  | starveLimit =>
    refine .trans (.trans (setParameter_keeps (t := s.setLines { s.lines with starveLimit := v }) hv rfl rfl rfl
      (fun r hr => ?_) id) (.atLines (noticeStarved_atLines .a _))) (.atLines (noticeStarved_atLines .b _))
    cases r with
    | starveLimit => exact absurd rfl hr
    | _ => rfl
  | priority =>
    refine setParameter_keeps hv rfl rfl (priorityOf_code hv) (fun r hr => ?_) id
    cases r with
    | priority => exact absurd rfl hr
    | _ => rfl
  | decision =>
    refine setParameter_keeps hv rfl rfl rfl (fun r hr => ?_) fun _ => (hg _ rfl).2
    cases r with
    | decision => exact absurd rfl hr
    | _ => rfl
  | window =>
    refine setParameter_keeps hv rfl rfl rfl (fun r hr => ?_) fun _ => (hg _ rfl).2
    cases r with
    | window => exact absurd rfl hr
    | _ => rfl
  | gate k =>
    refine setParameter_keeps hv rfl rfl (withGate_gate_same ..) (fun r hr => ?_) fun _ => (hg _ rfl).2
    cases r with
    | gate j => exact withGate_gate_other _ v fun e => hr (congrArg _ e)
    | _ => rfl
  | runOut =>
    refine setParameter_keeps hv rfl rfl rfl (fun r hr => ?_) fun _ => (hg _ rfl).2
    cases r with
    | runOut => exact absurd rfl hr
    | _ => rfl

/-! ## Requests -/

theorem clearStack_keeps (k : StackId) (s : State) :
    Keeps s ((s.abandonAll (s.stack k).inventory).setStack k { s.stack k with inventory := [] }) := by
  have h : AtLines s (s.abandonAll (s.stack k).inventory) := .abandonAll (.refl s)
  refine .atLines (h.setStack ⟨?_, ?_, ?_, ?_, Nat.zero_le _⟩ ?_) <;> simp

theorem capacity_keeps {k : StackId} {c : Nat} {s : State} (h1 : 1 ≤ c) (h2 : c ≤ 400) (hb : (s.stack k).bound ≤ c) :
    Keeps s (s.setStack k { s.stack k with capacity := c }) :=
  ⟨.setStack (.refl s) (by rfl), fun h => h.setStack fun hx => ⟨hx.allocated, hx.reserved, hx.falling, hb, h1, h2⟩⟩

theorem drainStack_atLines (k : StackId) (s : State) :
    AtLines s (((StackEvent.of s).setState k .drain).drainClose k).settle :=
  .trans (.trans ((StackEvent.of s).setState_atLines k .drain) (StackEvent.drainClose_atLines _ k))
    (StackEvent.settle_atLines _)

theorem setState_settle_atLines (k : StackId) (new : StackState) (s : State) :
    AtLines s ((StackEvent.of s).setState k new).settle :=
  .trans ((StackEvent.of s).setState_atLines k new) (StackEvent.settle_atLines _)

/-- What every effect keeps: `Keeps` of the mill, or one of the few that change ports, tables or gradings. -/
theorem Effect.keeps {p : Port} {s t : State} (h : Effect p s t) : Keeps s t ∨
    (∃ x : PortState, x.pending = (s.port p).pending ∧ x.waiting = (s.port p).waiting ∧
      ((s.port p).notices &&& ~~~namedFlags = 0 → x.notices &&& ~~~namedFlags = 0) ∧ t = s.setPort p x) ∨
    (∃ lane r, (s.lane lane).queue.length < Config.intakeCapacity ∧ r.lane = lane ∧ r.gapsAfter = 0 ∧
      t = acceptSheet lane r s) ∨
    (∃ k d, t = s.setRoot k d) ∨ ∃ scope f, t = s.onCaches scope f := by
  cases h with
  | same => exact .inl (.refl s)
  | notices m =>
    refine .inr (.inl ⟨{ s.port p with notices := acknowledged (s.port p).notices m s.estop }, rfl, rfl, fun hn => ?_, rfl⟩)
    unfold acknowledged
    rw [BitVec.and_assoc, BitVec.and_comm (~~~_), ← BitVec.and_assoc, hn]
    exact BitVec.zero_and
  | noticeMask m => exact .inr (.inl ⟨{ s.port p with mask := m }, rfl, rfl, id, rfl⟩)
  | parameter q v hv hg => exact .inl (paramApply_keeps hv hg)
  | accept body lane hq => exact .inr (.inr (.inl ⟨lane, _, hq, rfl, rfl, rfl⟩))
  | overrun lane => exact .inl (overrun_keeps lane s)
  | resync lane => exact .inl (resyncLane_keeps lane s)
  | root k d => exact .inr (.inr (.inr (.inl ⟨k, d, rfl⟩)))
  | current k => exact .inl (.of_ranged (.of_eq rfl (fun hb => hb.of_eq rfl rfl) fun _ => rfl) rfl)
  | cacheMode scope m hm => exact .inr (.inr (.inr (.inr ⟨scope, _, rfl⟩)))
  | purge scope keep => exact .inr (.inr (.inr (.inr ⟨scope, _, rfl⟩)))
  | trackClear => exact .inl (clearTracking_keeps s)
  | routing x hx =>
    refine .inl (.of_ranged (.of_eq rfl (fun hb => hb.setRouting ?_) fun _ => rfl) rfl)
    rcases hx with hx | hx
    · exact hx ▸ hb.runOut
    · exact hx ▸ Nat.zero_le _
  | openStack k => exact .inl (.atLines (setState_settle_atLines k _ s))
  | drainStack k => exact .inl (.atLines (drainStack_atLines k s))
  | closeStack k => exact .inl (.atLines (setState_settle_atLines k _ s))
  | clearStack k => exact .inl (clearStack_keeps k s)
  | capacity k c h1 h2 hb => exact .inl (capacity_keeps h1 h2 hb)
  | access k m => exact .inl (.atLines (changeAccess_atLines k m s))
  | lineMode l m => exact .inl (.atLines (enterMode_atLines l m s))
  | lineExec l e => exact .inl (.atLines (setExec_atLines l e s))
  | steps l pattern => exact .inl (.atLines (.setLine_of_eq (.refl s) rfl))
  | pointer l n => exact .inl (.atLines (.setLine_of_eq (.refl s) rfl))
  | lineFault l => exact .inl (.atLines (.setLine_of_eq (.refl s) rfl))
  | signal l => exact .inl (.atLines (signalLatch_atLines l s))
  | draw l g pref role => exact .inl (.atLines (beginDraw_atLines l _ s))
  | cancelDraw l => exact .inl (.atLines (cancelDrawOn_atLines l s))
  | closePanel l => exact .inl (.atLines (closePanelRecord_atLines ..))
  | takePanel l r rest hl hq => exact .inl (.atLines (takePanel_atLines hq))

/-- What every event keeps: `Keeps` of the mill, or a port's receiver or transmitter goes on. -/
theorem EventOf.keeps {i : Instr} {f : State → State} (h : EventOf i f) (s : State) : Keeps s (f s) ∨
    ∃ p, f s = s.hunt p ∨ f s = s.setPort p (s.port p).sent := by
  cases h with
  | recordExpired l => exact .inl (expireDue_keeps l s)
  | mergeEvent l => exact .inl (mergeLane_keeps l s)
  | encoderCount =>
    refine .inl ?_
    dsimp only
    split
    · exact (takeAllOwed_keeps s).trans (moveEntries_keeps _)
    · exact .refl s
  | decisionPoint n =>
    exact .inl (commanded_keeps n s fun p hp => takeDecision_keeps (fun e he => drop_of_decisionDue (hp e he)) s)
  | approach n =>
    exact .inl (commanded_keeps n s fun p hp => takeApproach_keeps (fun e he => drop_of_approachDue (hp e he)) s)
  | gate n => exact .inl (commanded_keeps n s fun p hp => takeGate_keeps (fun e he => drop_of_gateDue (hp e he)) s)
  | runOut n =>
    exact .inl (commanded_keeps n s fun p hp => takeRunOut_keeps (fun e he => drop_of_runOutDue (hp e he)) s)
  | encoderStall =>
    refine .inl ?_
    dsimp only
    split
    · exact takeStall_keeps s
    · exact .refl s
  | landing k => exact .inl (landOn_keeps k s)
  | missedLanding k => exact .inl (missLanding_keeps k s)
  | lineStarved l => exact .inl (.atLines (noticeStarved_atLines l s))
  | pickDone l =>
    refine .inl (.atLines ?_)
    dsimp only
    split
    · exact .raise (.refl s)
    · split
      · exact pickDoneAfterEmpty_atLines ..
      · exact pickDoneOn_atLines ..
  | pickEmpty l =>
    refine .inl (.atLines ?_)
    dsimp only
    split
    · exact .raise (.refl s)
    · exact pickEmptyOn_atLines ..
  | pickTimeout l => exact .inl (.atLines (timeOutPick_atLines l s))
  | stepBegin l =>
    refine .inl (.atLines ?_)
    dsimp only
    split
    · exact beginStep_atLines ..
    · exact .refl s
  | byteGapTimeout p =>
    dsimp only
    split
    · exact .inr ⟨p, .inl rfl⟩
    · exact .inl (.refl s)
  | answerSent p => exact .inr ⟨p, .inr rfl⟩

end Sys2Proof.Machine
end

section
/-!
PROOFS. What the port path changes; and the statements BoundedKept, ClaimsSoundKept and NoGrantUnderEstop.
-/

namespace Sys2Proof.Machine

/-! ## The port path -/

/-- `t` differs from `s` at most in tables, caches and what a port waits for and sends. -/
structure PathOnly (s t : State) : Prop where
  blocks : (t.intake, t.grading, t.tracking, t.routing, t.sk, t.lines, t.pins) =
    (s.intake, s.grading, s.tracking, s.routing, s.sk, s.lines, s.pins)
  ports  : ∀ p, (t.port p).notices = (s.port p).notices ∧ (t.port p).mask = (s.port p).mask ∧
    (t.port p).receiver = (s.port p).receiver ∧
    ((s.port p).waiting.length ≤ Config.txRoom → (t.port p).waiting.length ≤ Config.txRoom)

namespace PathOnly

variable {s t u : State}

theorem refl (s : State) : PathOnly s s := ⟨rfl, fun _ => ⟨rfl, rfl, rfl, id⟩⟩

theorem trans (h : PathOnly s t) (k : PathOnly t u) : PathOnly s u :=
  ⟨k.blocks.trans h.blocks, fun p => by
    obtain ⟨hn, hm, hr, hw⟩ := h.ports p
    obtain ⟨kn, km, kr, kw⟩ := k.ports p
    exact ⟨kn.trans hn, km.trans hm, kr.trans hr, kw ∘ hw⟩⟩

/-- A change of tables and caches only. -/
theorem of_eq (h : (t.intake, t.grading, t.tracking, t.routing, t.sk, t.lines, t.pins, t.ports) =
    (s.intake, s.grading, s.tracking, s.routing, s.sk, s.lines, s.pins, s.ports)) : PathOnly s t := by
  simp only [Prod.mk.injEq] at h
  obtain ⟨h1, h2, h3, h4, h5, h6, h7, h8⟩ := h
  exact ⟨by rw [h1, h2, h3, h4, h5, h6, h7], fun p => by rw [State.port, State.port, h8]; exact ⟨rfl, rfl, rfl, id⟩⟩

theorem setPort {p : Port} {x : PortState} (h : PathOnly s t)
    (hx : (x.notices, x.mask, x.receiver) = ((t.port p).notices, (t.port p).mask, (t.port p).receiver))
    (hw : (t.port p).waiting.length ≤ Config.txRoom → x.waiting.length ≤ Config.txRoom) : PathOnly s (t.setPort p x) := by
  simp only [Prod.mk.injEq] at hx
  refine h.trans ⟨rfl, fun r => ?_⟩
  by_cases hr : r = p
  · subst hr
    rw [State.port_setPort_same]
    exact ⟨hx.1, hx.2.1, hx.2.2, hw⟩
  · rw [State.port_setPort_other _ _ hr]
    exact ⟨rfl, rfl, rfl, id⟩

end PathOnly

theorem PortState.send_waiting {x : PortState} (f : List Byte) (h : x.waiting.length ≤ Config.txRoom) :
    (x.send f).waiting.length ≤ Config.txRoom := by
  unfold PortState.send
  split
  · exact h
  · split
    · next hl =>
      rw [List.length_append]
      exact hl
    · exact h

theorem answer_pathOnly (s : State) (p : Port) (code tag : Byte) (st : Status) (body : List Byte) :
    PathOnly s (s.answer p code tag st body) :=
  .setPort (.refl s) (by simp) (PortState.send_waiting _)

theorem setPending_pathOnly (s : State) (p : Port) (x : Option PendingRequest) :
    PathOnly s (s.setPort p { s.port p with pending := x }) := .setPort (.refl s) rfl id

theorem answerHead_pathOnly (q : PathRequest) (rest : List PathRequest) (st : Status) (body : List Byte) (s : State) :
    PathOnly s (answerHead q rest st body s) :=
  .trans (.trans (t := s.setTables { s.tables with portPath := rest }) (.of_eq rfl) (setPending_pathOnly _ q.port none))
    (answer_pathOnly ..)

theorem keepHead_pathOnly (q : PathRequest) (rest : List PathRequest) (w : TableWork) (s : State) :
    PathOnly s (keepHead q rest w s) := .of_eq rfl

theorem setCache_pathOnly (s : State) (u : Lane) (c : RuleCache) : PathOnly s (s.setCache u c) := .of_eq rfl

theorem takeHead_pathOnly : ∀ (fuel : Nat) (s : State), PathOnly s (takeHead fuel s)
  | 0, s => .refl s
  | fuel + 1, s => by
    unfold takeHead
    split
    · exact .refl s
    · split
      · split
        · exact keepHead_pathOnly ..
        · exact .trans (answerHead_pathOnly ..) (takeHead_pathOnly fuel _)
      · dsimp only
        split
        · exact .trans (setCache_pathOnly ..) (keepHead_pathOnly ..)
        · exact .trans (setCache_pathOnly ..) (.trans (answerHead_pathOnly ..) (takeHead_pathOnly fuel _))
      all_goals exact .refl s

theorem leaveHead_pathOnly (q : PathRequest) (rest : List PathRequest) (st : Status) (body : List Byte) (s : State) :
    PathOnly s (leaveHead q rest st body s) := .trans (answerHead_pathOnly ..) (takeHead_pathOnly ..)

theorem joinPath_pathOnly (q : PathRequest) (s : State) : PathOnly s (joinPath q s) :=
  .trans (.trans (setPending_pathOnly s q.port (some { code := q.code, tag := q.tag })) (.of_eq (by rfl)))
    (takeHead_pathOnly ..)

theorem writeCell_pathOnly (s : State) (n : Nat) (x : Cell16) : PathOnly s (s.writeCell n x) := .of_eq rfl

theorem editCell_pathOnly (s : State) (n : Nat) (x : Cell16) (scope : Scope) : PathOnly s (s.editCell n x scope) :=
  .of_eq rfl

theorem pathAccess_pathOnly (q : PathRequest) (rest : List PathRequest) (x : Cell16) (s : State) :
    PathOnly s (pathAccess q rest x s) := by
  unfold pathAccess
  split
  · exact .trans (writeCell_pathOnly ..) (leaveHead_pathOnly ..)
  · exact leaveHead_pathOnly ..
  · split
    · exact .trans (editCell_pathOnly ..) (leaveHead_pathOnly ..)
    · exact leaveHead_pathOnly ..
  · split
    · exact .trans (editCell_pathOnly ..) (leaveHead_pathOnly ..)
    · exact leaveHead_pathOnly ..
  · split
    · exact keepHead_pathOnly ..
    · exact leaveHead_pathOnly ..
  · split
    · exact .trans (setCache_pathOnly ..) (keepHead_pathOnly ..)
    · exact .trans (setCache_pathOnly ..) (leaveHead_pathOnly ..)
  · exact .refl s
  · exact .refl s

/-! ## Pins -/

theorem assertEstop_keeps (s : State) : Keeps (s.setPins { s.pins with estop := true }) (assertEstop s) := by
  unfold assertEstop
  dsimp only
  split
  · exact .refl _
  · exact .trans (.raise (.refl _) _) (.atLines (.trans (estopLine_atLines .a _) (estopLine_atLines .b _)))

/-- The command of a pin changes the level and, beyond that, only what events of the mill do. -/
theorem pin_keeps {i : Instr} {s t : State}
    (hi : i = .convRunAssert ∨ i = .convRunDeassert ∨ i = .estopAssert ∨ i = .estopRelease ∨ i = .resetNRelease)
    (h : exec i s = .next t) : ∃ pins, Keeps (s.setPins pins) t ∧
      (i ≠ .estopRelease → s.estop = true → (s.setPins pins).estop = true) := by
  rcases hi with rfl | rfl | rfl | rfl | rfl
  · replace h : execConvRunAssert s = .next t := h
    unfold execConvRunAssert at h
    dsimp only at h
    split at h
    · cases h; exact ⟨s.pins, .refl s, fun _ h => h⟩
    · split at h
      · cases h; exact ⟨_, .refl _, fun _ h => h⟩
      · cases h; exact ⟨_, startStall_keeps _, fun _ h => h⟩
  · cases h
    exact ⟨{ s.pins with convRun := false }, .of_ranged (.of_eq rfl (fun hb => hb.of_eq rfl rfl) fun _ => rfl) rfl, fun _ h => h⟩
  · replace h : Host.Outcome.next (if s.pins.estop then s else assertEstop s) = .next t := h
    cases h
    split
    · exact ⟨s.pins, .refl s, fun _ h => h⟩
    · next hp => exact ⟨_, assertEstop_keeps s, fun _ h => absurd (Bool.and_eq_true _ _ ▸ h).1 hp⟩
  · cases h; exact ⟨{ s.pins with estop := false }, .refl _, fun h => absurd rfl h⟩
  · replace h : Host.Outcome.next (if s.pins.resetHeld then releaseReset s else s) = .next t := h
    cases h
    split
    · next hr =>
      refine ⟨{ s.pins with resetHeld := false }, .trans (.raiseIf (.refl _) _ _) (startStall_keeps _), fun _ h => ?_⟩
      simp [State.estop, hr] at h
    · exact ⟨s.pins, .refl s, fun _ h => h⟩

theorem settleOwed_keeps (s : State) : Keeps s (settleOwed s) := by
  unfold settleOwed
  split
  · exact takeAllOwed_keeps s
  · exact .refl s

/-! ## Ranges -/

theorem Bounded.pathOnly {s t : State} (h : Bounded s) (k : PathOnly s t) : Bounded t := by
  have hb := k.blocks
  simp only [Prod.mk.injEq] at hb
  obtain ⟨hi, -, ht, hr, hs, hl, -⟩ := hb
  refine h.of_blocks (fun l => by rw [State.lane, hi]; exact h.lane l) (hi ▸ h.counter) (ht ▸ h.tracking) (hr ▸ h.runOut)
    (fun l => by rw [State.line, hl]; exact h.line l) (by simp only [State.parameters, hi, ht, hs, hl]) fun p => ?_
  obtain ⟨hn, -, -, hw⟩ := k.ports p
  exact ⟨hw (h.waiting p), hn ▸ h.notices p⟩

theorem Bounded.setPins {s : State} (h : Bounded s) (x : Pins) : Bounded (s.setPins x) := h.of_eq rfl rfl

theorem Bounded.acceptSheet {s : State} (h : Bounded s) {lane : Lane} {r : SheetRecord}
    (hl : (s.lane lane).queue.length < Config.intakeCapacity) (hr : r.lane = lane) (hg : r.gapsAfter = 0) :
    Bounded (acceptSheet lane r s) := by
  refine Bounded.gradesOnly (h.countSheet.setLane ?_) (gradeNext_gradesOnly lane _)
  have hx := h.lane lane
  refine ⟨?_, hx.gaps, fun e he => ?_⟩
  · change ((s.lane lane).queue ++ [_]).length ≤ _
    rw [List.length_append]
    exact hl
  · rcases List.mem_append.mp he with he | he
    · exact hx.entries e he
    · cases List.mem_singleton.mp he
      exact ⟨hr, hg.trans_le (Nat.zero_le _)⟩

theorem PortState.sent_waiting (x : PortState) : x.sent.waiting.length ≤ x.waiting.length := by
  unfold PortState.sent
  split
  · exact le_rfl
  · exact List.length_tail ▸ Nat.sub_le _ _

theorem PortState.sent_notices (x : PortState) : x.sent.notices = x.notices := by
  unfold PortState.sent
  split <;> rfl

theorem bounded_reset : Bounded State.reset where
  intake l := by cases l <;> exact Nat.zero_le _
  gaps l := by cases l <;> exact Nat.zero_le _
  own l e he := by cases l <;> cases he
  charged l e he := by cases l <;> cases he
  counter := by decide
  tracking := Nat.zero_le _
  runOut := Nat.zero_le _
  panels l := by cases l <;> exact Nat.zero_le _
  numbers l := by cases l <;> decide
  loops l i n h := by cases l <;> exact replicate_none_loops i n h
  params q := by
    cases q with
    | gate k => revert k; decide
    | _ => decide
  geometry := by decide
  waiting p := by cases p <;> exact Nat.zero_le _
  notices p := by cases p <;> rfl

theorem Bounded.pin {i : Instr} {s t : State} (h : Bounded s)
    (hi : i = .convRunAssert ∨ i = .convRunDeassert ∨ i = .estopAssert ∨ i = .estopRelease ∨ i = .resetNRelease)
    (ht : exec i s = .next t) : Bounded t := by
  obtain ⟨pins, k, -⟩ := pin_keeps hi ht
  exact k.bounds (h.setPins pins)

theorem bounded_kept : KeptByCommands Bounded where
  frames p :=
    { receive := fun _ h => h.setPort (h.ports p)
      answer := fun _ _ _ _ h => h.pathOnly (answer_pathOnly ..)
      join := fun _ _ _ _ _ h => h.pathOnly (joinPath_pathOnly ..)
      effect := fun _ he h => by
        rcases he.keeps with hk | ⟨x, -, hw, hn, rfl⟩ | ⟨lane, r, hl, hr, hg, rfl⟩ | ⟨k, d, rfl⟩ | ⟨scope, f, rfl⟩
        · exact hk.bounds h
        · exact h.setPort ⟨hw ▸ h.waiting p, hn (h.notices p)⟩
        · exact h.acceptSheet hl hr hg
        · exact h.of_eq rfl rfl
        · exact h.of_eq rfl rfl }
  events := fun {i f s} hf _ h => by
    rcases hf.keeps s with hk | ⟨p, e | e⟩
    · exact hk.bounds h
    · rw [e]; exact h.setPort (h.ports p)
    · rw [e]
      exact h.setPort ⟨(PortState.sent_waiting _).trans (h.waiting p), by rw [PortState.sent_notices]; exact h.notices p⟩
  singles := fun {i s t} hi h ht => by
    cases hi with
    | guWalkRead u =>
      rcases guWalkRead_cases ht with rfl | ⟨j, x, f, -, -, -, -, k⟩
      · exact h
      · exact Bounded.gradesOnly (h.of_eq (by rfl) (by rfl)) k
    | portAccessGrant =>
      rcases portAccessGrant_cases ht with rfl | ⟨q, rest, x, -, -, -, rfl⟩
      · exact h
      · exact Bounded.pathOnly (s := s.granted .port) (h.of_eq rfl rfl) (pathAccess_pathOnly ..)
    | resetN =>
      cases ht
      exact bounded_reset.of_eq rfl rfl
    | convRunAssert => exact h.pin (.inl rfl) ht
    | convRunDeassert => exact h.pin (.inr (.inl rfl)) ht
    | estopAssert => exact h.pin (.inr (.inr (.inl rfl))) ht
    | estopRelease => exact h.pin (.inr (.inr (.inr (.inl rfl)))) ht
    | resetNRelease => exact h.pin (.inr (.inr (.inr (.inr rfl)))) ht

theorem PortState.tick_waiting (x : PortState) : x.tick.waiting = x.waiting ∧ x.tick.notices = x.notices := by
  unfold PortState.tick
  split <;> exact ⟨rfl, rfl⟩

theorem IntakeLane.Bounded.tick {l : Lane} {x : IntakeLane} (h : x.Bounded l) : x.tick.Bounded l :=
  ⟨(List.length_map _).trans_le h.length, h.gaps, fun e he => by
    obtain ⟨d, hd, rfl⟩ := List.mem_map.mp he
    exact h.entries d hd⟩

theorem lane_tick (s : State) (l : Lane) : (tick s).lane l = (s.lane l).tick := by cases l <;> rfl
theorem line_tick (s : State) (l : Line) : (tick s).line l = (s.line l).tick := by cases l <;> rfl
theorem port_tick (s : State) (p : Port) : (tick s).port p = (s.port p).tick := by cases p <;> rfl

theorem bounded_tick {s : State} (h : Bounded s) : Bounded (tick s) := by
  refine h.of_blocks (fun l => ?_) h.counter h.tracking h.runOut (fun l => ?_) rfl fun p => ?_
  · rw [lane_tick]; exact (h.lane l).tick
  · rw [line_tick]; exact (h.line l).of_eq rfl
  · rw [port_tick, (PortState.tick_waiting _).1, (PortState.tick_waiting _).2]; exact h.ports p

theorem bounded_idle {s : State} (h : Bounded s) : Bounded (idle s) := by
  unfold idle
  split
  · exact h
  · exact (bounded_tick ((settleOwed_keeps s).bounds h)).of_eq rfl rfl

/-- Settles O8: each operation is taken only with room for what it adds, and each parameter only at a value in its
range. -/
theorem boundedKept : Obligations.BoundedKept :=
  fun _ _ h ht => bounded_kept.step (fun _ _ h => h.of_eq rfl rfl) (fun _ => bounded_idle) h ht

/-! ## Claims -/

theorem ClaimsSound.pathOnly {s t : State} (h : ClaimsSound s) (k : PathOnly s t) : ClaimsSound t := by
  have hb := k.blocks
  simp only [Prod.mk.injEq] at hb
  obtain ⟨-, -, ht, -, hs, -, -⟩ := hb
  exact h.of_eq (by rw [ht, hs])

theorem claimsSound_reset : ClaimsSound State.reset := by
  rw [claimsSound_iff]
  intro k
  have hk : State.reset.stack k = .reset := by revert k; decide
  rw [hk]
  exact ⟨rfl, rfl, by decide, by decide, by decide⟩

theorem ClaimsSound.pin {i : Instr} {s t : State} (h : ClaimsSound s)
    (hi : i = .convRunAssert ∨ i = .convRunDeassert ∨ i = .estopAssert ∨ i = .estopRelease ∨ i = .resetNRelease)
    (ht : exec i s = .next t) : ClaimsSound t := by
  obtain ⟨pins, k, -⟩ := pin_keeps hi ht
  exact k.claims (h.of_eq rfl)

theorem claimsSound_kept : KeptByCommands ClaimsSound where
  frames p :=
    { receive := fun _ h => h.of_eq rfl
      answer := fun _ _ _ _ h => h.of_eq rfl
      join := fun _ _ _ _ _ h => h.pathOnly (joinPath_pathOnly ..)
      effect := fun _ he h => by
        rcases he.keeps with hk | ⟨x, -, -, -, rfl⟩ | ⟨lane, r, -, -, -, rfl⟩ | ⟨k, d, rfl⟩ | ⟨scope, f, rfl⟩
        · exact hk.claims h
        · exact h.of_eq rfl
        · exact ClaimsSound.gradesOnly (h.of_eq (by rfl)) (gradeNext_gradesOnly lane _)
        · exact h.of_eq rfl
        · exact h.of_eq rfl }
  events := fun {i f s} hf _ h => by
    rcases hf.keeps s with hk | ⟨p, e | e⟩
    · exact hk.claims h
    · rw [e]; exact h.of_eq rfl
    · rw [e]; exact h.of_eq rfl
  singles := fun {i s t} hi h ht => by
    cases hi with
    | guWalkRead u =>
      rcases guWalkRead_cases ht with rfl | ⟨j, x, f, -, -, -, -, k⟩
      · exact h
      · exact ClaimsSound.gradesOnly (h.of_eq (by rfl)) k
    | portAccessGrant =>
      rcases portAccessGrant_cases ht with rfl | ⟨q, rest, x, -, -, -, rfl⟩
      · exact h
      · exact ClaimsSound.pathOnly (s := s.granted .port) (h.of_eq rfl) (pathAccess_pathOnly ..)
    | resetN =>
      cases ht
      exact claimsSound_reset.of_eq rfl
    | convRunAssert => exact h.pin (.inl rfl) ht
    | convRunDeassert => exact h.pin (.inr (.inl rfl)) ht
    | estopAssert => exact h.pin (.inr (.inr (.inl rfl))) ht
    | estopRelease => exact h.pin (.inr (.inr (.inr (.inl rfl)))) ht
    | resetNRelease => exact h.pin (.inr (.inr (.inr (.inr rfl)))) ht

theorem stack_tick (s : State) (k : StackId) : (tick s).stack k = (s.stack k).tick := by
  simp [State.stack, tick]

theorem claimsSound_tick {s : State} (h : ClaimsSound s) : ClaimsSound (tick s) := by
  rw [claimsSound_iff] at h ⊢
  intro k
  rw [stack_tick]
  have hk := h k
  have hl : (s.stack k).tick.falling.length = (s.stack k).falling.length := List.length_map _
  exact ⟨hl ▸ hk.allocated, hk.reserved, hl ▸ hk.falling, hk.room, hk.capacity⟩

theorem claimsSound_idle {s : State} (h : ClaimsSound s) : ClaimsSound (idle s) := by
  unfold idle
  split
  · exact h
  · exact (claimsSound_tick ((settleOwed_keeps s).claims h)).of_eq rfl

/-- Settles O10: each event that binds an entry to a stack or frees it moves that stack's counts with it. -/
theorem claimsSoundKept : Obligations.ClaimsSoundKept :=
  fun _ _ h ht => claimsSound_kept.step (fun _ _ h => h.of_eq rfl) (fun _ => claimsSound_idle) h ht

/-! ## No grant under E-STOP -/

/-- E-STOP is in force, and only lines that `H` names hold a stack top. -/
def HeldAtMost (H : StackId → Line → Prop) (s : State) : Prop :=
  s.estop = true ∧ ∀ k l, (s.stack k).holder = some l → H k l

theorem HeldAtMost.of_eq {H : StackId → Line → Prop} {s t : State} (h : HeldAtMost H s)
    (he : (t.sk, t.pins) = (s.sk, s.pins)) : HeldAtMost H t := by
  simp only [Prod.mk.injEq] at he
  refine ⟨by rw [State.estop, he.2]; exact h.1, fun k l hk => h.2 k l ?_⟩
  rwa [State.stack, he.1] at hk

theorem HeldAtMost.pathOnly {H : StackId → Line → Prop} {s t : State} (h : HeldAtMost H s) (k : PathOnly s t) :
    HeldAtMost H t := by
  have hb := k.blocks
  simp only [Prod.mk.injEq] at hb
  obtain ⟨-, -, -, -, hs, -, hp⟩ := hb
  exact h.of_eq (by rw [hs, hp])

theorem HeldAtMost.keeps {H : StackId → Line → Prop} {s t : State} (h : HeldAtMost H s) (k : Keeps s t) :
    HeldAtMost H t :=
  ⟨k.estop.trans h.1, fun j l hj => h.2 j l (k.holders h.1 j l hj)⟩

theorem heldAtMost_kept (H : StackId → Line → Prop) (p : Port) : KeptByFrames (HeldAtMost H) p where
  receive _ h := h.of_eq rfl
  answer _ _ _ _ h := h.of_eq rfl
  join _ _ _ _ _ h := h.pathOnly (joinPath_pathOnly ..)
  effect {s t} _ he h := by
    rcases he.keeps with hk | ⟨x, -, -, -, rfl⟩ | ⟨lane, r, -, -, -, rfl⟩ | ⟨k, d, rfl⟩ | ⟨scope, f, rfl⟩
    · exact h.keeps hk
    · exact h.of_eq rfl
    · have k := gradeNext_gradesOnly lane (s.countSheet.setLane lane
        { s.countSheet.lane lane with queue := (s.countSheet.lane lane).queue ++ [{ sheet := r, age := 0 }] })
      exact h.of_eq (by rw [acceptSheet, k.sk, k.pins]; rfl)
    · exact h.of_eq rfl
    · exact h.of_eq rfl

/-- The command of a pin makes no new holder under E-STOP. -/
theorem pin_holders {i : Instr} {s t : State} (hs : s.estop = true)
    (hi : i = .convRunAssert ∨ i = .convRunDeassert ∨ i = .estopAssert ∨ i = .estopRelease ∨ i = .resetNRelease)
    (hn : i ≠ .estopRelease) (ht : exec i s = .next t) (k : StackId) (l : Line) (hk : (t.stack k).holder = some l) :
    (s.stack k).holder = some l := by
  obtain ⟨pins, hkeep, he⟩ := pin_keeps hi ht
  exact hkeep.holders (he hn hs) k l hk

/-- Settles O12: a pick begins only at a grant check, an ask or a selection, and none of them grants under E-STOP. -/
theorem noGrantUnderEstop : Obligations.NoGrantUnderEstop := by
  intro s t i k l hs ht hk
  have hs' : HeldAtMost (fun k l => (s.stack k).holder = some l) s := ⟨hs, fun _ _ h => h⟩
  rcases command_kinds i with ⟨p, -, hi⟩ | ⟨f, hf⟩ | hi
  · exact ((heldAtMost_kept _ p).exec hi hs' ht).2 k l hk
  · rw [hf.exec] at ht
    cases hr : s.pins.resetHeld with
    | true => rw [event_held f hr] at ht; cases ht; exact hk
    | false =>
      rw [event_taken f hr] at ht
      cases ht
      rcases hf.keeps s with hkeep | ⟨p, e | e⟩
      · exact hkeep.holders hs k l hk
      · rwa [e] at hk
      · rwa [e] at hk
  · cases hi with
    | guWalkRead u =>
      rcases guWalkRead_cases ht with rfl | ⟨j, x, f, -, -, -, -, kg⟩
      · exact hk
      · rwa [State.stack, kg.sk] at hk
    | portAccessGrant =>
      rcases portAccessGrant_cases ht with rfl | ⟨q, rest, x, -, -, -, rfl⟩
      · exact hk
      · have hg : HeldAtMost (fun k l => (s.stack k).holder = some l) (s.granted .port) := hs'.of_eq rfl
        exact (hg.pathOnly (pathAccess_pathOnly ..)).2 k l hk
    | resetN =>
      cases ht
      have hn : ∀ k, (State.reset.stack k).holder = none := by decide
      cases (hn k).symm.trans hk
    | convRunAssert => exact pin_holders hs (.inl rfl) nofun ht k l hk
    | convRunDeassert => exact pin_holders hs (.inr (.inl rfl)) nofun ht k l hk
    | estopAssert => exact pin_holders hs (.inr (.inr (.inl rfl))) nofun ht k l hk
    | estopRelease => cases ht; exact hk
    | resetNRelease => exact pin_holders hs (.inr (.inr (.inr (.inr rfl)))) nofun ht k l hk

end Sys2Proof.Machine
end

section
/-!
PROOFS. What an event leaves of a line's pattern and mode; and the statement OnlyOwnPortProgramsLine.
-/

namespace Sys2Proof.Machine

/-! ## Pattern and mode of one line -/

/-- The line keeps its pattern, and its mode unless it was STOPPING and is OFF now; it does not begin to stop. -/
def LineState.ProgramKept (x y : LineState) : Prop :=
  y.pattern = x.pattern ∧ (y.mode = x.mode ∧ (y.activity = .stopping → x.activity = .stopping) ∨
    x.activity = .stopping ∧ y.mode = .off)

theorem LineState.ProgramKept.refl (x : LineState) : x.ProgramKept x := ⟨rfl, .inl ⟨rfl, id⟩⟩

theorem LineState.ProgramKept.trans {x y z : LineState} (h : x.ProgramKept y) (k : y.ProgramKept z) : x.ProgramKept z := by
  obtain ⟨hp, hm⟩ := h
  obtain ⟨kp, km⟩ := k
  refine ⟨kp.trans hp, ?_⟩
  rcases hm with ⟨hm, ha⟩ | ⟨hs, ho⟩
  · rcases km with ⟨km, ka⟩ | ⟨ks, ko⟩
    · exact .inl ⟨km.trans hm, ha ∘ ka⟩
    · exact .inr ⟨ha ks, ko⟩
  · rcases km with ⟨km, -⟩ | ⟨-, ko⟩
    · exact .inr ⟨hs, km.trans ho⟩
    · exact .inr ⟨hs, ko⟩

/-- A line replaced by one with its pattern and mode that is not STOPPING unless it was. -/
theorem LineState.ProgramKept.of_eq {x y : LineState} (h : (y.pattern, y.mode) = (x.pattern, x.mode))
    (ha : y.activity = .stopping → x.activity = .stopping) : x.ProgramKept y := by
  simp only [Prod.mk.injEq] at h
  exact ⟨h.1, .inl ⟨h.2, ha⟩⟩

/-- Every line but `o`, if that is one, keeps its program. -/
structure ProgramsKept (o : Option Line) (s t : State) : Prop where
  line : ∀ m, o ≠ some m → (s.line m).ProgramKept (t.line m)

namespace ProgramsKept

variable {o : Option Line} {s t u : State}

theorem refl (s : State) : ProgramsKept o s s := ⟨fun _ _ => .refl _⟩

theorem trans (h : ProgramsKept o s t) (k : ProgramsKept o t u) : ProgramsKept o s u :=
  ⟨fun m hm => (h.line m hm).trans (k.line m hm)⟩

/-- The lines are as they were. -/
theorem of_lines (h : t.lines.line = s.lines.line) : ProgramsKept o s t := ⟨fun m _ => by
  rw [State.line, State.line, h]
  exact .refl _⟩

theorem setStack {k : StackId} {x : Stack} (h : ProgramsKept o s t) : ProgramsKept o s (t.setStack k x) := ⟨h.line⟩

theorem setLine {l : Line} {x : LineState} (h : ProgramsKept o s t) (hx : o ≠ some l → (t.line l).ProgramKept x) :
    ProgramsKept o s (t.setLine l x) := h.trans ⟨fun m hm => by
  by_cases e : m = l
  · subst e; simpa using hx hm
  · rw [State.line_setLine_other _ _ e]; exact .refl _⟩

/-- A line replaced by one with its pattern and mode that is not STOPPING unless it was. -/
theorem setLine_of_eq {l : Line} {x : LineState} (h : ProgramsKept o s t)
    (hx : (x.pattern, x.mode) = ((t.line l).pattern, (t.line l).mode))
    (ha : x.activity = .stopping → (t.line l).activity = .stopping) : ProgramsKept o s (t.setLine l x) :=
  h.setLine fun _ => .of_eq hx ha

/-- The own line replaced. -/
theorem setOwn {l : Line} {x : LineState} (h : ProgramsKept (some l) s t) : ProgramsKept (some l) s (t.setLine l x) :=
  h.setLine fun hn => absurd rfl hn

theorem raise {n : Notice} (h : ProgramsKept o s t) : ProgramsKept o s (t.raise n) := ⟨h.line⟩

theorem raiseIf {c : Bool} {n : Notice} (h : ProgramsKept o s t) : ProgramsKept o s (t.raiseIf c n) :=
  h.trans (.of_lines (by simp))

theorem abandonAll {rs : List SheetRecord} (h : ProgramsKept o s t) : ProgramsKept o s (t.abandonAll rs) :=
  h.trans ⟨fun m _ => by rw [State.line_abandonAll]; exact .refl _⟩

theorem foldl {β : Type} {f : State → β → State} (hf : ∀ s b, ProgramsKept o s (f s b)) (bs : List β) (s : State) :
    ProgramsKept o s (bs.foldl f s) := foldl_rel .refl (fun _ _ _ h k => h.trans k) hf bs s

theorem iterate {f : State → State} (hf : ∀ s, ProgramsKept o s (f s)) (n : Nat) (s : State) :
    ProgramsKept o s (Machine.iterate f n s) := iterate_rel .refl (fun _ _ _ h k => h.trans k) hf n s

end ProgramsKept

/-! ## Panel closes, ends of a step and of a draw -/

section Operations

variable {o : Option Line}

theorem closePanelRecord_programs (l : Line) (st : PanelStatus) (ready : Bool) (s : State) :
    ProgramsKept o s (closePanelRecord l st ready s) := by
  unfold closePanelRecord
  dsimp only
  split
  · exact .refl s
  · split
    · exact .raiseIf (.setLine_of_eq (.refl s) rfl id)
    · exact .raise (.setLine_of_eq (.abandonAll (.refl s)) (by simp [LineState.panelDropped])
        (by simp [LineState.panelDropped]))

/-- A line enters OFF from STOPPING, or it is the own line. -/
theorem enterOff_programs {l : Line} {s : State} (h : o ≠ some l → (s.line l).activity = .stopping) :
    ProgramsKept o s (enterOff l s) :=
  have ht : ProgramsKept o s (s.setLine l (s.line l).turnedOff) :=
    .setLine (.refl s) fun hn => ⟨rfl, .inr ⟨h hn, rfl⟩⟩
  ht.trans (closePanelRecord_programs ..)

theorem completeStep_programs (l : Line) (next : Fin 16) (stop : Bool) (s : State) :
    ProgramsKept o s (completeStep l next stop s) := .raiseIf (.setLine_of_eq (.refl s) rfl nofun)

theorem faultLine_programs (l : Line) (kind : LineFault) (s : State) : ProgramsKept o s (faultLine l kind s) :=
  .raise (.setLine_of_eq (.refl s) rfl nofun)

/-- The report of a draw changes the last result of its line only. -/
theorem reportDraw_line (l : Line) (r : DrawResult) (s : State) :
    ∃ res, (reportDraw l r s).line l = { s.line l with lastDraw := res } := by
  unfold reportDraw
  split
  · split
    · exact ⟨some r, State.line_setLine_same ..⟩
    · exact ⟨_, rfl⟩
  · exact ⟨_, rfl⟩

theorem reportDraw_activity (l : Line) (r : DrawResult) (s : State) :
    ((reportDraw l r s).line l).activity = (s.line l).activity := by
  obtain ⟨res, h⟩ := reportDraw_line l r s
  rw [h]

theorem reportDraw_programs (l : Line) (r : DrawResult) (s : State) : ProgramsKept o s (reportDraw l r s) := by
  unfold reportDraw
  split
  · split
    · exact .raise (.setLine_of_eq (.refl s) rfl id)
    · exact .refl s
  · exact .refl s

/-! ## Grants, waits and selections -/

theorem beginPick_programs (l : Line) (k : StackId) (s : State) : ProgramsKept o s (beginPick l k s) :=
  .setLine_of_eq (.setStack (.refl s)) rfl nofun

theorem joinWaiters_programs (l : Line) (k : StackId) (g : GradeSet) (s : State) :
    ProgramsKept o s (joinWaiters l k g s) := .setLine_of_eq (.setStack (.refl s)) rfl nofun

theorem leaveWaiters_programs (l : Line) (k : StackId) (s : State) : ProgramsKept o s (leaveWaiters l k s) :=
  .setStack (.refl s)

theorem withdrawLine_line (l m : Line) (s : State) : (withdrawLine l s).line m = s.line m := by
  unfold withdrawLine
  split <;> rfl

theorem withdrawLine_programs (l : Line) (s : State) : ProgramsKept o s (withdrawLine l s) := ⟨fun m _ => by
  rw [withdrawLine_line]
  exact .refl _⟩

theorem ask_programs (l : Line) (k : StackId) (g : GradeSet) (s : State) : ProgramsKept o s (ask l k g s) := by
  unfold ask
  dsimp only
  split
  · exact .refl s
  · split
    · split
      · exact beginPick_programs ..
      · exact .refl s
    · exact joinWaiters_programs ..

theorem starve_programs (l : Line) (s : State) : ProgramsKept o s (starve l s) := by
  unfold starve
  dsimp only
  split
  · exact .refl s
  · exact .setLine_of_eq (.refl s) rfl nofun

theorem select_programs (l : Line) (s : State) : ProgramsKept o s (select l s) := by
  unfold select
  split
  · exact .refl s
  · split
    · exact ask_programs ..
    · exact starve_programs ..

theorem reselect_programs (l : Line) (s : State) : ProgramsKept o s (reselect l s) := by
  unfold reselect
  split
  · exact .setLine_of_eq (.refl s) rfl nofun
  · exact select_programs ..

theorem StackEvent.setState_lines (e : StackEvent) (k : StackId) (new : StackState) :
    (e.setState k new).st.lines = e.st.lines := by
  unfold StackEvent.setState
  split
  · rfl
  · cases new <;> rfl

theorem StackEvent.drainClose_lines (e : StackEvent) (k : StackId) : (e.drainClose k).st.lines = e.st.lines := by
  unfold StackEvent.drainClose
  dsimp only
  split
  · exact e.setState_lines k .closed
  · rfl

theorem StackEvent.offer_programs (k : StackId) (ls : List Line) (e : StackEvent) :
    ProgramsKept o e.st (StackEvent.offer k ls e).st := by
  induction ls generalizing e with
  | nil => exact .refl _
  | cons l ls ih =>
    unfold StackEvent.offer
    split
    · exact ih e
    · split
      · exact beginPick_programs ..
      · exact (leaveWaiters_programs l k e.st).trans
          (ih { st := leaveWaiters l k e.st, told := e.told.set l true, heard := e.heard })

theorem StackEvent.grantCheck_programs (e : StackEvent) (k : StackId) : ProgramsKept o e.st (e.grantCheck k).st := by
  unfold StackEvent.grantCheck
  dsimp only
  split
  · exact StackEvent.offer_programs ..
  · exact .refl _

theorem StackEvent.settle_programs (e : StackEvent) : ProgramsKept o e.st e.settle := by
  unfold StackEvent.settle
  split
  · exact .refl _
  · exact reselect_programs ..
  · exact reselect_programs ..
  · have h : ProgramsKept o e.st { e.st with choices := e.st.choices + 1 } := .of_lines rfl
    dsimp only
    split
    · exact .trans (.trans h (reselect_programs ..)) (reselect_programs ..)
    · exact .trans (.trans h (reselect_programs ..)) (reselect_programs ..)

theorem StackEvent.removeLine_lines (e : StackEvent) (k : StackId) (l : Line) :
    (e.removeLine k l).st.lines = e.st.lines := by
  unfold StackEvent.removeLine
  dsimp only
  split <;> rfl

end Operations

namespace ProgramsKept

variable {o : Option Line} {s : State} {e : StackEvent}

theorem settle (h : ProgramsKept o s e.st) : ProgramsKept o s e.settle := h.trans e.settle_programs
theorem setState (h : ProgramsKept o s e.st) (k : StackId) (new : StackState) : ProgramsKept o s (e.setState k new).st :=
  h.trans (.of_lines (by rw [e.setState_lines]))
theorem drainClose (h : ProgramsKept o s e.st) (k : StackId) : ProgramsKept o s (e.drainClose k).st :=
  h.trans (.of_lines (by rw [e.drainClose_lines]))
theorem removeLine (h : ProgramsKept o s e.st) (k : StackId) (l : Line) : ProgramsKept o s (e.removeLine k l).st :=
  h.trans (.of_lines (by rw [e.removeLine_lines]))
theorem grantCheck (h : ProgramsKept o s e.st) (k : StackId) : ProgramsKept o s (e.grantCheck k).st :=
  h.trans (e.grantCheck_programs k)

theorem drainCloses {e : StackEvent} (h : ProgramsKept o s e.st) : ∀ ks : List StackId,
    ProgramsKept o s (ks.foldl StackEvent.drainClose e).st
  | [] => h
  | k :: ks => drainCloses (h.drainClose k) ks

theorem grantChecks {e : StackEvent} (h : ProgramsKept o s e.st) : ∀ ks : List StackId,
    ProgramsKept o s (ks.foldl StackEvent.grantCheck e).st
  | [] => h
  | k :: ks => grantChecks (h.grantCheck k) ks

end ProgramsKept

section Events

variable {o : Option Line}

/-! ## Ends of a pick -/

theorem clearPick_line (l : Line) (k : StackId) (s : State) : (clearPick l k s).line l = (s.line l).unpicked := by
  unfold clearPick
  rw [State.line_setLine_same]

theorem clearPick_programs (l : Line) (k : StackId) (s : State) : ProgramsKept o s (clearPick l k s) :=
  .setLine_of_eq (.setStack (.refl s)) rfl id

theorem movePly_programs (l : Line) (k : StackId) (s : State) : ProgramsKept o s (movePly l k s) := by
  unfold movePly
  split
  · exact .setLine_of_eq (.setStack (.refl s)) rfl id
  · exact .refl s

theorem finishDraw_programs (l : Line) (s : State) : ProgramsKept o s (finishDraw l s) := by
  unfold finishDraw
  dsimp only
  split
  · next h => exact (reportDraw_programs ..).trans (enterOff_programs fun _ => (reportDraw_activity ..).trans h)
  · split
    · exact completeStep_programs ..
    · exact .setLine_of_eq (reportDraw_programs ..) rfl nofun

theorem pickDoneOn_programs (l : Line) (k : StackId) (s : State) : ProgramsKept o s (pickDoneOn l k s) :=
  have h : ProgramsKept o s (finishDraw l (movePly l k (clearPick l k s))) :=
    ((clearPick_programs l k s).trans (movePly_programs ..)).trans (finishDraw_programs ..)
  .settle (.grantCheck (.drainClose h k) k)

theorem pickDoneAfterEmpty_programs (l : Line) (k : StackId) (s : State) :
    ProgramsKept o s (pickDoneAfterEmpty l k s) := by
  have h : ProgramsKept o s ({ s with choices := s.choices + 1 }.setLine l { s.line l with emptied := false }) :=
    .setLine_of_eq (.of_lines rfl) rfl id
  unfold pickDoneAfterEmpty
  dsimp only
  split
  · exact .raise h
  · exact h.trans (pickDoneOn_programs ..)

theorem emptyHanded_programs (l : Line) (e : StackEvent) : ProgramsKept o e.st (emptyHanded l e).st := by
  unfold emptyHanded
  split
  · next h => exact (reportDraw_programs ..).trans (enterOff_programs fun _ => (reportDraw_activity ..).trans h)
  · exact .refl _

theorem markEmptied_programs (l : Line) (s : State) : ProgramsKept o s (markEmptied l s) := by
  unfold markEmptied
  split
  · exact .setLine_of_eq (.refl s) rfl id
  · exact .refl s

theorem pickEmptyOn_programs (l : Line) (k : StackId) (s : State) : ProgramsKept o s (pickEmptyOn l k s) :=
  have h : ProgramsKept o s ((clearPick l k s).raise .stackFault) := .raise (clearPick_programs l k s)
  .trans (.settle (.trans (.setState h k .faulted) (emptyHanded_programs l _))) (markEmptied_programs l _)

theorem timedOutLine_programs (l : Line) (s : State) : ProgramsKept o s (timedOutLine l s) := by
  unfold timedOutLine
  split
  · next h => exact (reportDraw_programs ..).trans (enterOff_programs fun _ => (reportDraw_activity ..).trans h)
  · exact (reportDraw_programs ..).trans (faultLine_programs ..)

theorem timeOutPick_programs (l : Line) (s : State) : ProgramsKept o s (timeOutPick l s) := by
  unfold timeOutPick
  split
  · exact .refl s
  · next k _ =>
    split
    · have h : ProgramsKept o s (timedOutLine l ((clearPick l k s).raise (.feederFault l))) :=
        .trans (.raise (clearPick_programs l k s)) (timedOutLine_programs l _)
      exact .settle (.grantCheck h k)
    · exact .refl s

theorem noticeStarved_programs (l : Line) (s : State) : ProgramsKept o s (noticeStarved l s) := by
  unfold noticeStarved
  split
  · exact .raise (.setLine_of_eq (.refl s) rfl id)
  · exact .refl s

/-! ## Steps, exec and the requests of a line -/

theorem beginDraw_programs (l : Line) (d : Draw) (s : State) : ProgramsKept o s (beginDraw l d s) := by
  have h : ProgramsKept o s (s.setLine l { s.line l with draw := some d }) := .setLine_of_eq (.refl s) rfl id
  unfold beginDraw
  dsimp only
  split
  · exact h.trans ((reportDraw_programs ..).trans (faultLine_programs ..))
  · exact h.trans (select_programs ..)

theorem signalLatch_programs (l : Line) (s : State) : ProgramsKept o s (signalLatch l s) := by
  unfold signalLatch
  dsimp only
  split
  · exact completeStep_programs ..
  · exact .setLine_of_eq (.refl s) rfl id

theorem loopStep_programs (l : Line) (target : Fin 16) (count : Fin 64) (s : State) :
    ProgramsKept o s (loopStep l target count s) :=
  .trans (.setLine_of_eq (.refl s) (by rfl) (by exact id)) (completeStep_programs ..)

theorem finishPanelEnd_programs (l : Line) (notice : Bool) (after : After) (s : State) :
    ProgramsKept o s (finishPanelEnd l notice after s) := (closePanelRecord_programs ..).trans (completeStep_programs ..)

theorem panelEndStep_programs (l : Line) (notice : Bool) (after : After) (s : State) :
    ProgramsKept o s (panelEndStep l notice after s) := by
  unfold panelEndStep
  split
  · exact finishPanelEnd_programs ..
  · exact .setLine_of_eq (.refl s) rfl nofun

theorem awaitStep_programs (l : Line) (s : State) : ProgramsKept o s (awaitStep l s) := by
  unfold awaitStep
  dsimp only
  split
  · exact .trans (.setLine_of_eq (.refl s) (by rfl) (by exact id)) (completeStep_programs ..)
  · exact .setLine_of_eq (.refl s) rfl nofun

theorem plyStep_programs (l : Line) (g : GradeSet) (role : Role) (pref : Preference) (s : State) :
    ProgramsKept o s (plyStep l g role pref s) := by
  unfold plyStep
  split
  · exact faultLine_programs ..
  · exact beginDraw_programs ..

theorem beginStep_programs (l : Line) (m : Manner) (s : State) : ProgramsKept o s (beginStep l m s) := by
  have h : ProgramsKept o s (s.setLine l { s.line l with step := some m }) := .setLine_of_eq (.refl s) rfl id
  unfold beginStep
  dsimp only
  split
  · exact h.trans (faultLine_programs ..)
  · exact h.trans (plyStep_programs ..)
  · exact h.trans (loopStep_programs ..)
  · exact h.trans (panelEndStep_programs ..)
  · exact h.trans ((signalLatch_programs ..).trans (completeStep_programs ..))
  · exact h.trans (awaitStep_programs ..)
  · exact h.trans (faultLine_programs ..)

theorem stopWait_programs (l : Line) (s : State) : ProgramsKept o s (stopWait l s) :=
  .setLine_of_eq (withdrawLine_programs l s) rfl nofun

theorem holdLine_programs (l : Line) (s : State) : ProgramsKept o s (holdLine l s) := by
  unfold holdLine
  split
  iterate 4 exact stopWait_programs l s
  all_goals exact .setLine_of_eq (.refl s) rfl id

theorem runLine_programs (l : Line) (s : State) : ProgramsKept o s (runLine l s) := by
  have h : ProgramsKept o s (s.setLine l { s.line l with exec := .run }) := .setLine_of_eq (.refl s) rfl id
  unfold runLine
  dsimp only
  split
  · exact .refl s
  · split
    · exact h.trans (beginStep_programs ..)
    · exact h

theorem setExec_programs (l : Line) (e : Exec) (s : State) : ProgramsKept o s (setExec l e s) := by
  cases e with
  | run => exact runLine_programs l s
  | hold => exact holdLine_programs l s
  | step => exact .trans (.setLine_of_eq (.refl s) (by rfl) (by exact id)) (beginStep_programs ..)
  | once => exact .trans (.setLine_of_eq (.refl s) (by rfl) (by exact id)) (beginStep_programs ..)

theorem cancelDrawOn_programs (l : Line) (s : State) : ProgramsKept o s (cancelDrawOn l s) :=
  .setLine_of_eq ((withdrawLine_programs l s).trans (reportDraw_programs ..)) rfl nofun

theorem closeWaiting_programs (l : Line) (s : State) : ProgramsKept o s (closeWaiting l s) := by
  unfold closeWaiting
  dsimp only
  split
  · exact finishPanelEnd_programs ..
  · exact .refl s

/-- The own line's change of mode. -/
theorem enterMode_programs (l : Line) (m : LineMode) (s : State) : ProgramsKept (some l) s (enterMode l m s) := by
  cases m with
  | off =>
    change ProgramsKept (some l) s (goOff l s)
    unfold goOff
    split
    · exact .setOwn (.refl s)
    · exact (withdrawLine_programs l s).trans
        ((reportDraw_programs ..).trans (enterOff_programs fun hn => absurd rfl hn))
  | load => exact .setOwn (.refl s)
  | direct => exact .setOwn (.refl s)
  | run => exact .setOwn (.refl s)

theorem abortPick_activity (l : Line) (s : State) : ((abortPick l s).line l).activity = (s.line l).activity := by
  unfold abortPick
  split
  · rfl
  · rw [clearPick_line]; rfl

theorem abortPick_programs (l : Line) (s : State) : ProgramsKept o s (abortPick l s) := by
  unfold abortPick
  split
  · exact .refl s
  · exact clearPick_programs ..

theorem estopLine_programs (l : Line) (s : State) : ProgramsKept o s (estopLine l s) := by
  have ht : ProgramsKept o s (withdrawLine l (abortPick l s)) := (abortPick_programs l s).trans (withdrawLine_programs ..)
  unfold estopLine
  dsimp only
  split
  · exact .refl s
  · next h =>
    refine ht.trans ((reportDraw_programs ..).trans (enterOff_programs fun _ => ?_))
    rw [reportDraw_activity, withdrawLine_line, abortPick_activity, h]
  · exact .setLine_of_eq ht rfl nofun
  · split
    · exact .setLine_of_eq (ht.trans (reportDraw_programs ..)) rfl nofun
    · exact .refl s
  · exact .refl s
  · exact .refl s

/-! ## Intake, tracking, landings and parameters -/

theorem abandon_lines (s : State) (r : SheetRecord) (d : Bool) : (s.abandon r d).lines = s.lines := by
  obtain ⟨g, e⟩ := s.abandon_only_grading r d
  rw [e]

theorem expireDue_lines (l : Lane) (s : State) : (expireDue l s).lines = s.lines := by
  unfold expireDue expireHead
  split
  · split
    · rfl
    · exact abandon_lines ..
  · rfl

theorem handOver_lines (r : SheetRecord) (s : State) : (handOver r s).lines = s.lines := by
  unfold handOver
  split
  · exact abandon_lines ..
  · split
    · rfl
    · exact abandon_lines ..

theorem mergeLane_lines (l : Lane) (s : State) : (mergeLane l s).lines = s.lines := by
  unfold mergeLane
  dsimp only
  split
  · exact handOver_lines ..
  · split <;> exact handOver_lines ..

theorem takeDecision_lines (p : TrackEntry → Bool) (s : State) : (takeDecision p s).lines = s.lines := by
  unfold takeDecision
  split
  · rfl
  · next e _ =>
    have ha : (if e.sheet.cls.isNone then s.abandon e.sheet false else s).lines = s.lines := by
      split
      · exact abandon_lines ..
      · rfl
    dsimp only
    split
    · rw [State.raiseIf_lines]; exact ha
    · unfold allocate
      dsimp only
      rw [State.raiseIf_lines, State.setStack_lines, State.raiseIf_lines]
      exact ha

theorem takeApproach_lines (p : TrackEntry → Bool) (s : State) : (takeApproach p s).lines = s.lines := by
  unfold takeApproach
  split <;> rfl

theorem takeGate_programs (p : TrackEntry → Bool) (s : State) : ProgramsKept o s (takeGate p s) := by
  unfold takeGate
  split
  · exact .refl s
  · split
    · exact .refl s
    · next k _ =>
      split
      · exact .of_lines rfl
      · exact .settle (.grantCheck (.drainClose (.of_lines (by rfl)) k) k)

theorem takeRunOut_lines (p : TrackEntry → Bool) (s : State) : (takeRunOut p s).lines = s.lines := by
  unfold takeRunOut
  split
  · rfl
  · exact abandon_lines ..

theorem commanded_programs {take : (TrackEntry → Bool) → State → State} (h : ∀ p s, ProgramsKept o s (take p s))
    (due : Geometry → TrackEntry → Bool) (n : Nat) (s : State) : ProgramsKept o s (commanded due take n s) := by
  unfold commanded
  split
  · exact h _ _
  · exact .refl s

theorem takeDecision_programs (p : TrackEntry → Bool) (s : State) : ProgramsKept o s (takeDecision p s) :=
  .of_lines (by rw [takeDecision_lines])

theorem takeApproach_programs (p : TrackEntry → Bool) (s : State) : ProgramsKept o s (takeApproach p s) :=
  .of_lines (by rw [takeApproach_lines])

theorem takeRunOut_programs (p : TrackEntry → Bool) (s : State) : ProgramsKept o s (takeRunOut p s) :=
  .of_lines (by rw [takeRunOut_lines])

theorem takeOwedBy_programs (e : TrackEntry) (s : State) : ProgramsKept o s (takeOwedBy e s) := by
  unfold takeOwedBy
  dsimp only
  split
  · exact takeDecision_programs ..
  · exact takeApproach_programs ..
  · exact takeGate_programs ..
  · exact takeRunOut_programs ..
  · exact .refl s

theorem takeOwed_programs (s : State) : ProgramsKept o s (takeOwed s) := by
  unfold takeOwed
  split
  · exact .refl s
  · exact takeOwedBy_programs ..
  · exact .trans (t := { s with choices := s.choices + 1 }) (.of_lines rfl) (takeOwedBy_programs ..)

theorem takeAllOwed_programs (s : State) : ProgramsKept o s (takeAllOwed s) := .iterate takeOwed_programs _ s

theorem startStall_lines (s : State) : (startStall s).lines = s.lines := by
  unfold startStall
  split <;> rfl

theorem OnlyStacks.lines {s t : State} (h : OnlyStacks s t) : t.lines = s.lines := by
  obtain ⟨v, rfl⟩ := h
  rfl

theorem takeStall_programs (s : State) : ProgramsKept o s (takeStall s) := by
  refine .settle (.grantChecks (.of_lines ?_) _)
  exact congrArg Lines.line (releaseReservations_only s.tracking.queue s).lines

theorem clearTracking_programs (s : State) : ProgramsKept o s (clearTracking s) := by
  refine .settle (.grantChecks (.drainCloses (.trans
    (.abandonAll (rs := s.tracking.queue.map (·.sheet)) (.refl s)) (.of_lines ?_)) _) _)
  refine congrArg Lines.line ((startStall_lines _).trans ?_)
  exact (releaseAllClaims_only s.tracking.queue _).lines

theorem pushFalling_lines (k : StackId) (unconfirmed : Bool) (s : State) : (pushFalling k unconfirmed s).lines = s.lines := by
  unfold pushFalling
  dsimp only
  split <;> rfl

theorem landOn_programs (k : StackId) (s : State) : ProgramsKept o s (landOn k s) :=
  .settle (.grantCheck (.of_lines (congrArg Lines.line (pushFalling_lines k false s))) k)

theorem missLanding_programs (k : StackId) (s : State) : ProgramsKept o s (missLanding k s) := by
  unfold missLanding
  split
  · exact .settle (.setState (.of_lines (congrArg Lines.line (pushFalling_lines k true s))) k .faulted)
  · exact .refl s

theorem paramApply_programs (q : Param) (v : Nat) (s : State) : ProgramsKept o s (q.apply v s) := by
  cases q with
  | ageLimit =>
    refine .trans (.trans (t := s.setIntake { s.intake with ageLimit := v }) (.of_lines rfl) (.iterate (fun s => ?_) _ _))
      (.iterate (fun s => ?_) _ _)
    · exact .of_lines (by rw [expireDue_lines])
    · exact .of_lines (by rw [expireDue_lines])
  | stallLimit =>
    have h : ProgramsKept o s (s.setTracking { s.tracking with stallLimit := v }) := .of_lines rfl
    simp only [Param.apply, setStallLimit]
    split
    · exact .of_lines rfl
    · split
      · exact .of_lines (by rw [startStall_lines]; rfl)
      · split
        · exact h.trans (takeStall_programs _)
        · exact h
  | landingLimit =>
    exact .trans (t := s.setSk { s.sk with landingLimit := v }) (.of_lines rfl)
      (.foldl (fun s k => .iterate (missLanding_programs k) _ s) _ _)
  | pickLimit =>
    exact .trans (.trans (t := s.setLines { s.lines with pickLimit := v }) (.of_lines rfl) (timeOutPick_programs .a _))
      (timeOutPick_programs .b _)
  | starveLimit =>
    exact .trans (.trans (t := s.setLines { s.lines with starveLimit := v }) (.of_lines rfl) (noticeStarved_programs .a _))
      (noticeStarved_programs .b _)
  | priority => exact .of_lines rfl
  | decision => exact .of_lines rfl
  | window => exact .of_lines rfl
  | gate k => exact .of_lines rfl
  | runOut => exact .of_lines rfl

theorem changeAccess_programs (k : StackId) (m : PerLine Bool) (s : State) : ProgramsKept o s (changeAccess k m s) :=
  have h : ProgramsKept o s (s.setStack k { s.stack k with access := m }) := .setStack (.refl s)
  .settle (.removeLine (.removeLine h k .a) k .b)

end Events

/-! ## Commands -/

/-- Requests of port `p` change the programs of that port's own lines only. -/
theorem Effect.programs {p : Port} {s t : State} (h : Effect p s t) {m : Line} (hm : ownPort m ≠ p) :
    (s.line m).ProgramKept (t.line m) := by
  have own (l : Line) (hl : ownPort l = p) : some l ≠ some m := fun e => hm (by cases e; exact hl)
  have kept {o : Option Line} (ho : o ≠ some m) (k : ProgramsKept o s t) := k.line m ho
  have all (k : ProgramsKept none s t) := k.line m nofun
  cases h with
  | same => exact all (.refl s)
  | notices mask => exact all (.of_lines rfl)
  | noticeMask mask => exact all (.of_lines rfl)
  | parameter q v => exact all (paramApply_programs q v s)
  | accept body lane => exact all (.of_lines (by rw [acceptSheet, (gradeNext_gradesOnly ..).lines]; rfl))
  | overrun lane => exact all (.raiseIf (.raise (.of_lines rfl)))
  | resync lane => exact all (.trans (.abandonAll (.refl s)) (.of_lines rfl))
  | root k d => exact all (.of_lines rfl)
  | current k => exact all (.of_lines rfl)
  | cacheMode scope c => exact all (.of_lines rfl)
  | purge scope keep => exact all (.of_lines rfl)
  | trackClear => exact all (clearTracking_programs s)
  | routing x => exact all (.of_lines rfl)
  | openStack k => exact all (.settle (.setState (.refl s) k _))
  | drainStack k => exact all (.settle (.drainClose (.setState (.refl s) k _) k))
  | closeStack k => exact all (.settle (.setState (.refl s) k _))
  | clearStack k => exact all (.setStack (.abandonAll (.refl s)))
  | capacity k c => exact all (.setStack (.refl s))
  | access k mask => exact all (changeAccess_programs k mask s)
  | lineMode l mode hl => exact kept (own l hl) (enterMode_programs l mode s)
  | lineExec l e => exact all (setExec_programs l e s)
  | steps l pattern hl => exact kept (own l hl) (.setOwn (.refl s))
  | pointer l n => exact all (.setLine_of_eq (.refl s) rfl id)
  | lineFault l => exact all (.setLine_of_eq (.refl s) rfl nofun)
  | signal l => exact all (signalLatch_programs l s)
  | draw l g pref role => exact all (beginDraw_programs l _ s)
  | cancelDraw l => exact all (cancelDrawOn_programs l s)
  | closePanel l => exact all (closePanelRecord_programs ..)
  | takePanel l r rest =>
    refine all (.trans (.setLine_of_eq (.abandonAll (.refl s)) ?_ ?_) (closeWaiting_programs l _)) <;> simp

theorem EventOf.programs {i : Instr} {f : State → State} (h : EventOf i f) (s : State) : ProgramsKept none s (f s) := by
  cases h with
  | recordExpired l => exact .of_lines (by rw [expireDue_lines])
  | mergeEvent l => exact .of_lines (by rw [mergeLane_lines])
  | encoderCount =>
    dsimp only
    split
    · exact (takeAllOwed_programs s).trans (.of_lines rfl)
    · exact .refl s
  | decisionPoint n => exact commanded_programs takeDecision_programs _ n s
  | approach n => exact commanded_programs takeApproach_programs _ n s
  | gate n => exact commanded_programs takeGate_programs _ n s
  | runOut n => exact commanded_programs takeRunOut_programs _ n s
  | encoderStall =>
    dsimp only
    split
    · exact takeStall_programs s
    · exact .refl s
  | landing k => exact landOn_programs k s
  | missedLanding k => exact missLanding_programs k s
  | lineStarved l => exact noticeStarved_programs l s
  | pickDone l =>
    dsimp only
    split
    · exact .raise (.refl s)
    · split
      · exact pickDoneAfterEmpty_programs ..
      · exact pickDoneOn_programs ..
  | pickEmpty l =>
    dsimp only
    split
    · exact .raise (.refl s)
    · exact pickEmptyOn_programs ..
  | pickTimeout l => exact timeOutPick_programs l s
  | stepBegin l =>
    dsimp only
    split
    · exact beginStep_programs ..
    · exact .refl s
  | byteGapTimeout p =>
    dsimp only
    split
    · exact .of_lines rfl
    · exact .refl s
  | answerSent p => exact .of_lines rfl

theorem pathOnly_programs {s t : State} (h : PathOnly s t) : ProgramsKept none s t := by
  have hb := h.blocks
  simp only [Prod.mk.injEq] at hb
  obtain ⟨-, -, -, -, -, hl, -⟩ := hb
  exact .of_lines (by rw [hl])

/-- What comes in on port `p` keeps the program of every other port's line as it is against a state `s`. -/
theorem programKept_kept {s : State} {m : Line} {p : Port} (hm : ownPort m ≠ p) :
    KeptByFrames (fun t => (s.line m).ProgramKept (t.line m)) p where
  receive _ h := h
  answer _ _ _ _ h := h
  join _ _ _ _ _ h := h.trans ((pathOnly_programs (joinPath_pathOnly ..)).line m nofun)
  effect _ he h := h.trans (he.programs hm)

theorem single_programs {i : Instr} {s t : State} (hi : SingleCommand i) (hr : i ≠ .resetN) (h : exec i s = .next t) :
    ProgramsKept none s t := by
  cases hi with
  | guWalkRead u =>
    rcases guWalkRead_cases h with rfl | ⟨j, x, f, -, -, -, -, kg⟩
    · exact .refl _
    · exact .of_lines (by rw [kg.lines]; rfl)
  | portAccessGrant =>
    rcases portAccessGrant_cases h with rfl | ⟨q, rest, x, -, -, -, rfl⟩
    · exact .refl _
    · exact .trans (t := s.granted .port) (.of_lines rfl) (pathOnly_programs (pathAccess_pathOnly ..))
  | convRunAssert =>
    replace h : execConvRunAssert s = .next t := h
    unfold execConvRunAssert at h
    dsimp only at h
    split at h
    · cases h; exact .refl _
    · split at h
      · cases h; exact .of_lines rfl
      · cases h; exact .of_lines (by rw [startStall_lines]; rfl)
  | convRunDeassert => cases h; exact .of_lines rfl
  | estopAssert =>
    replace h : Host.Outcome.next (if s.pins.estop then s else assertEstop s) = .next t := h
    cases h
    split
    · exact .refl s
    · unfold assertEstop
      dsimp only
      split
      · exact .of_lines rfl
      · exact .trans (t := (s.setPins { s.pins with estop := true }).raise .estop) (.of_lines rfl)
          ((estopLine_programs .a _).trans (estopLine_programs .b _))
  | estopRelease => cases h; exact .of_lines rfl
  | resetN => exact absurd rfl hr
  | resetNRelease =>
    replace h : Host.Outcome.next (if s.pins.resetHeld then releaseReset s else s) = .next t := h
    cases h
    split
    · exact .of_lines (by unfold releaseReset; rw [startStall_lines]; simp)
    · exact .refl s

/-- Settles O13: what another port sends changes no program of the line, and beyond the own port's requests a line is
reprogrammed only where STOPPING ends in OFF. -/
theorem onlyOwnPortProgramsLine : Obligations.OnlyOwnPortProgramsLine := by
  intro s t i l hreset hport ht
  suffices h : (s.line l).ProgramKept (t.line l) from ⟨h.1, h.2.imp And.left id⟩
  rcases command_kinds i with ⟨p, hp, hi⟩ | ⟨f, hf⟩ | hi
  · exact (programKept_kept fun e => hport (hp.trans (congrArg some e.symm))).exec hi (.refl _) ht
  · rw [hf.exec] at ht
    cases hr : s.pins.resetHeld with
    | true => rw [event_held f hr] at ht; cases ht; exact .refl _
    | false =>
      rw [event_taken f hr] at ht
      cases ht
      exact (hf.programs s).line l nofun
  · exact (single_programs hi hreset ht).line l nofun

end Sys2Proof.Machine
end

section
/-!
PROOFS. What a sound line is in each of its activities, and what keeps it sound.
-/

namespace Sys2Proof.Machine

/-! ## The stack a line waits at -/

/-- The stack a line waits at, with its grade set (R131). -/
def waitsAt (y : LineState) : Option (StackId × GradeSet) :=
  match y.activity with
  | .waitingTop => y.draw.bind fun d => d.stack.map (·, d.grades)
  | _ => none

theorem waitsAt_eq_some {y : LineState} {k : StackId} {g : GradeSet} : waitsAt y = some (k, g) ↔
    y.activity = .waitingTop ∧ ∃ d, y.draw = some d ∧ d.stack = some k ∧ d.grades = g := by
  unfold waitsAt
  split
  · next h => simp [h, Option.bind_eq_some_iff]
  · next h => exact ⟨nofun, fun e => absurd e.1 h⟩

theorem waitsAt_none {y : LineState} (h : y.activity ≠ .waitingTop) : waitsAt y = none := by
  unfold waitsAt
  split
  · next e => exact absurd e h
  · rfl

theorem heldStack_none {y : LineState} (hp : y.activity ≠ .picking) (hs : y.activity ≠ .stopping) :
    heldStack y = none := by
  unfold heldStack
  split
  · next e => exact absurd e hp
  · next e => exact absurd e hs
  · rfl

theorem heldStack_eq_some {y : LineState} {k : StackId} : heldStack y = some k ↔
    (y.activity = .picking ∨ y.activity = .stopping) ∧ ∃ d, y.draw = some d ∧ d.stack = some k := by
  unfold heldStack
  split
  · next h => simp [h, Option.bind_eq_some_iff]
  · next h => simp [h, Option.bind_eq_some_iff]
  · next h1 h2 => exact ⟨nofun, fun e => (e.1.elim h1 h2).elim⟩

/-! ## Lines at rest -/

/-- No step, no draw, no pick and no starvation. -/
structure LineState.Free (y : LineState) : Prop where
  step    : y.step = none
  draw    : y.draw = none
  timer   : y.pickTimer = none
  starve  : y.starveTimer = none
  noted   : y.starveNoted = false
  req     : y.pickReq = none
  emptied : y.emptied = false

/-- What a line's mode, exec and open panel agree in whatever it does (R141, R143, R168). -/
structure LineState.Fits (y : LineState) : Prop where
  held  : y.mode ≠ .run → y.exec = .hold
  plies : y.openPanel.length ≤ Config.panelPlies
  off   : y.mode = .off → y.openPanel = []

theorem LineState.stood_free (x : LineState) : x.stood.Free := ⟨rfl, rfl, rfl, rfl, rfl, rfl, rfl⟩

theorem LineState.Sound.fits {y : LineState} (h : y.Sound) : y.Fits := ⟨h.held, h.plies.1, fun hm => (h.off hm).2⟩

/-- An idle line is sound. -/
theorem LineState.Sound.of_idle {y : LineState} (hf : y.Free) (ht : y.Fits) (ha : y.activity = .idle)
    (hn : y.fault = none) : y.Sound where
  output := by rw [hf.req, heldStack_none] <;> simp [ha]
  timer := by simp [hf.timer, ha]
  drawing := by simp [hf.draw, ha]
  placed d h := by simp [hf.draw] at h
  ply d h := by simp [hf.draw] at h
  direct d h := by simp [hf.draw] at h
  plies := ⟨ht.plies, fun h => absurd hf.draw h⟩
  running h := absurd hf.step h
  resting _ := hf.step
  emptied h := by simp [hf.emptied] at h
  faulty := by simp [hn, ha]
  starving := by simp [ha, hf.starve, hf.noted]
  held := ht.held
  stopping h := by simp [ha] at h
  waits _ _ := by simp [ha]
  awaits h := by simp [ha] at h
  closes h := by simp [ha] at h
  off hm := ⟨ha, ht.off hm⟩
  load _ := .inl ha

/-- A faulted line is sound. -/
theorem LineState.Sound.of_fault {y : LineState} (hf : y.Free) (ht : y.Fits) (ha : y.activity = .fault)
    (hn : y.fault ≠ none) (hm : y.mode ≠ .off) : y.Sound where
  output := by rw [hf.req, heldStack_none] <;> simp [ha]
  timer := by simp [hf.timer, ha]
  drawing := by simp [hf.draw, ha]
  placed d h := by simp [hf.draw] at h
  ply d h := by simp [hf.draw] at h
  direct d h := by simp [hf.draw] at h
  plies := ⟨ht.plies, fun h => absurd hf.draw h⟩
  running h := absurd hf.step h
  resting _ := hf.step
  emptied h := by simp [hf.emptied] at h
  faulty := by simp [hn, ha]
  starving := by simp [ha, hf.starve, hf.noted]
  held := ht.held
  stopping h := by simp [ha] at h
  waits _ _ := by simp [ha]
  awaits h := by simp [ha] at h
  closes h := by simp [ha] at h
  off h := absurd h hm
  load _ := .inr ha

/-- A sound line that is idle or faulted does nothing. -/
theorem LineState.Sound.free {y : LineState} (h : y.Sound) (ha : y.activity = .idle ∨ y.activity = .fault) : y.Free where
  step := h.resting (ha.imp_right .inl)
  draw := by
    by_contra hn
    have := h.drawing.mp hn
    rcases ha with ha | ha <;> simp [ha] at this
  timer := by
    by_contra hn
    have := h.timer.mp hn
    rcases ha with ha | ha <;> simp [ha] at this
  starve := (h.starving.2 (by rcases ha with ha | ha <;> simp [ha])).1
  noted := (h.starving.2 (by rcases ha with ha | ha <;> simp [ha])).2
  req := h.output.trans (heldStack_none (by rcases ha with ha | ha <;> simp [ha]) (by rcases ha with ha | ha <;> simp [ha]))
  emptied := by
    by_contra hn
    have := h.emptied (by simpa using hn)
    rcases ha with ha | ha <;> simp [ha] at this

theorem LineState.Sound.fault_none {y : LineState} (h : y.Sound) (ha : y.activity ≠ .fault) : y.fault = none := by
  by_contra hn
  exact ha (h.faulty.mp hn)

/-- A line in the middle of a step that draws nothing is sound (R150, R151). -/
theorem LineState.Sound.of_step {y : LineState} (ha : y.activity = .awaiting ∨ y.activity = .waitRecord)
    (hs : y.step ≠ none) (hd : y.draw = none) (ht : y.pickTimer = none) (hv : y.starveTimer = none)
    (hn : y.starveNoted = false) (hr : y.pickReq = none) (he : y.emptied = false) (hf : y.fault = none)
    (hm : y.mode = .run) (hx : y.exec ≠ .hold) (hp : y.openPanel.length ≤ Config.panelPlies)
    (hA : y.activity = .awaiting → y.latch = false ∧ ∃ kept, y.pattern[y.pointer] = .await kept)
    (hW : y.activity = .waitRecord → y.openPanel ≠ [] ∧ Config.panelQueueRoom ≤ y.panelQueue.length ∧
      ∃ notice after, y.pattern[y.pointer] = .panelEnd notice after) : y.Sound where
  output := by rw [hr, heldStack_none] <;> rcases ha with ha | ha <;> simp [ha]
  timer := by rcases ha with ha | ha <;> simp [ht, ha]
  drawing := by rcases ha with ha | ha <;> simp [hd, ha]
  placed d h := by simp [hd] at h
  ply d h := by simp [hd] at h
  direct d h := by simp [hd] at h
  plies := ⟨hp, fun h => absurd hd h⟩
  running _ := hm
  resting h := by rcases ha with ha | ha <;> simp [ha] at h
  emptied h := by simp [he] at h
  faulty := by rcases ha with ha | ha <;> simp [hf, ha]
  starving := by rcases ha with ha | ha <;> simp [ha, hv, hn]
  held h := absurd hm h
  stopping h := by rcases ha with ha | ha <;> simp [ha] at h
  waits _ h := absurd h hx
  awaits h := ⟨hs, hA h⟩
  closes h := ⟨hs, hW h⟩
  off h := by simp [hm] at h
  load h := by simp [hm] at h

/-! ## Draws that go on -/

/-- A line, at no stack top, whose draw is to go on (R158, R159). -/
structure LineState.Reselects (y : LineState) : Prop where
  drawing : ∃ d, y.draw = some d ∧ d.grades ≠ 0 ∧
    (d.origin = .ply → y.mode = .run ∧ y.step ≠ none ∧ y.pattern[y.pointer] = .ply d.grades d.role d.pref) ∧
    (d.origin = .direct → y.mode = .direct ∧ y.step = none)
  room    : y.openPanel.length < Config.panelPlies
  running : y.step ≠ none → y.mode = .run
  held    : y.mode ≠ .run → y.exec = .hold
  fault   : y.fault = none
  timer   : y.pickTimer = none
  req     : y.pickReq = none
  emptied : y.emptied = false
  going   : y.activity ≠ .stopping
  starved : y.activity = .starved → y.Sound

theorem LineState.Reselects.mode {y : LineState} (h : y.Reselects) : y.mode = .run ∨ y.mode = .direct := by
  obtain ⟨d, -, -, hp, hd⟩ := h.drawing
  cases ho : d.origin with
  | ply => exact .inl (hp ho).1
  | direct => exact .inr (hd ho).1

theorem LineState.Reselects.fits {y : LineState} (h : y.Reselects) : y.Fits :=
  ⟨h.held, h.room.le, fun hm => by rcases h.mode with e | e <;> simp [hm] at e⟩

/-- A sound line that waits or starves could select again. -/
theorem LineState.Sound.reselects {y : LineState} (h : y.Sound) (ha : y.activity = .waitingTop ∨ y.activity = .starved) :
    y.Reselects := by
  have hd : y.draw ≠ none := h.drawing.mpr (by rcases ha with ha | ha <;> simp [ha])
  have hs : y.activity ≠ .stopping := by rcases ha with ha | ha <;> simp [ha]
  have hp : y.activity ≠ .picking := by rcases ha with ha | ha <;> simp [ha]
  obtain ⟨d, hd'⟩ := Option.ne_none_iff_exists'.mp hd
  refine ⟨⟨d, hd', (h.placed d hd').1, fun ho => ?_, h.direct d hd'⟩, h.plies.2 hd, h.running, h.held,
    h.fault_none (by rcases ha with ha | ha <;> simp [ha]), ?_, h.output.trans (heldStack_none hp hs), ?_, hs, fun _ => h⟩
  · obtain ⟨hm, hst, hpat⟩ := h.ply d hd' ho
    exact ⟨hm, hst hs, hpat⟩
  · by_contra hn
    rcases h.timer.mp hn with e | e
    · exact hp e
    · exact hs e
  · by_contra hn
    rcases h.emptied (by simpa using hn) with e | e
    · exact hp e
    · exact hs e

/-- A sound line that picks, its pick over, could select again. -/
theorem LineState.Sound.unpicked_reselects {y : LineState} (h : y.Sound) (ha : y.activity = .picking) :
    y.unpicked.Reselects := by
  have hd : y.draw ≠ none := h.drawing.mpr (by simp [ha])
  obtain ⟨d, hd'⟩ := Option.ne_none_iff_exists'.mp hd
  refine ⟨⟨d, hd', (h.placed d hd').1, fun ho => ?_, h.direct d hd'⟩, h.plies.2 hd, h.running, h.held,
    h.fault_none (by simp [ha]), rfl, rfl, rfl, fun e => ?_, fun e => ?_⟩
  · obtain ⟨hm, hst, hpat⟩ := h.ply d hd' ho
    exact ⟨hm, hst (by simp [ha]), hpat⟩
  · cases ha.symm.trans e
  · cases ha.symm.trans e

/-- The line whose draw picks, waits or starves is sound, with outputs and timers to match; where exec HOLD in RUN has a
line stand, it can only pick. -/
theorem LineState.Reselects.draws {y : LineState} (h : y.Reselects) (a : Activity) (k req : Option StackId)
    (timer starve : Option Nat) (ha : a = .picking ∨ a = .waitingTop ∨ a = .starved) (hk : k = none ↔ a = .starved)
    (hreq : req = if a = .picking then k else none) (ht : timer ≠ none ↔ a = .picking)
    (hs : starve ≠ none ↔ a = .starved) (hw : a ≠ .picking → y.mode = .run → y.exec ≠ .hold) : LineState.Sound
    { y with activity := a, draw := y.draw.map (fun d => { d with stack := k }), pickReq := req, pickTimer := timer,
             starveTimer := starve, starveNoted := false } := by
  obtain ⟨d, hd, hg, hp, hdir⟩ := h.drawing
  have hm := h.mode
  have drawn {P : Draw → Prop} (hP : P { d with stack := k }) (e : Draw)
      (he : y.draw.map (fun d => { d with stack := k }) = some e) : P e := by
    rw [hd] at he
    cases he
    exact hP
  have hstop : a ≠ .stopping := by rcases ha with rfl | rfl | rfl <;> simp
  exact
    { output := by rcases ha with rfl | rfl | rfl <;> simp [heldStack, hd, hreq]
      timer := ht.trans (by simp [hstop])
      drawing := by simp only [hd]; rcases ha with rfl | rfl | rfl <;> simp
      placed := drawn ⟨hg, hk⟩
      ply := drawn fun ho => ⟨(hp ho).1, fun _ => (hp ho).2.1, (hp ho).2.2⟩
      direct := drawn hdir
      plies := ⟨h.room.le, fun _ => h.room⟩
      running := h.running
      resting := fun e => by rcases ha with rfl | rfl | rfl <;> simp at e
      emptied := fun e => absurd (h.emptied.symm.trans e) (by simp)
      faulty := by rcases ha with rfl | rfl | rfl <;> simp [h.fault]
      starving := ⟨fun e => by simpa using hs.mpr e, fun e => ⟨not_not.mp (mt hs.mp e), rfl⟩⟩
      held := h.held
      stopping := fun e => absurd e hstop
      waits := fun hr hh => by
        by_cases hpick : a = .picking
        · simp [hpick]
        · exact absurd hh (hw hpick hr)
      awaits := fun e => by rcases ha with rfl | rfl | rfl <;> simp at e
      closes := fun e => by rcases ha with rfl | rfl | rfl <;> simp at e
      off := fun e => by rcases hm with hm | hm <;> simp [hm] at e
      load := fun e => by rcases hm with hm | hm <;> simp [hm] at e }

/-- The line of a granted pick is sound. -/
theorem LineState.Reselects.picks {y : LineState} (h : y.Reselects) (k : StackId) : LineState.Sound
    { y with activity := .picking, draw := y.draw.map (fun d => { d with stack := some k }), pickReq := some k,
             pickTimer := some 0, starveTimer := none, starveNoted := false } :=
  h.draws .picking (some k) (some k) (some 0) none (.inl rfl) (by simp) (by simp) (by simp) (by simp) (by simp)

/-- The line of a wait is sound, but where exec HOLD in RUN has it stand. -/
theorem LineState.Reselects.waits {y : LineState} (h : y.Reselects) (he : y.mode = .run → y.exec ≠ .hold) (k : StackId) :
    LineState.Sound { y with activity := .waitingTop, draw := y.draw.map (fun d => { d with stack := some k }),
                             starveTimer := none, starveNoted := false } :=
  h.draws .waitingTop (some k) y.pickReq y.pickTimer none (by simp) (by simp) (by simp [h.req]) (by simp [h.timer])
    (by simp) fun _ => he

/-- The line of a starvation is sound, but where exec HOLD in RUN has it stand. -/
theorem LineState.Reselects.starves {y : LineState} (h : y.Reselects) (he : y.mode = .run → y.exec ≠ .hold) :
    LineState.Sound { y with activity := .starved, draw := y.draw.map (fun d => { d with stack := none }),
                             starveTimer := some 0, starveNoted := false } :=
  h.draws .starved none y.pickReq y.pickTimer (some 0) (by simp) (by simp) (by simp [h.req]) (by simp [h.timer])
    (by simp) fun _ => he

end Sys2Proof.Machine
end

section
/-!
PROOFS. The agreement of lines and stack tops in the middle of an event: some lines taken out of it, some checks still to
be made; and how each change of a stack or a line bears on it.
-/

namespace Sys2Proof.Machine

/-! ## The agreement in the middle of an event -/

/-- What an event still has to check: tops it may have freed, stacks in DRAIN it may have emptied, lines it may have shut
out of a stack, and lines E-STOP has still to stop. -/
structure Due where
  free   : List StackId := []
  drain  : List StackId := []
  access : List (StackId × Line) := []
  quiet  : List Line := []

/-- No line. -/
def noLines : PerLine Bool := ⟨false, false⟩

/-- The agreement of `TopsSound`, but for the lines that are `out` of it, which are at no stack top, and for what is due. -/
structure Tops (out : PerLine Bool) (due : Due) (s : State) : Prop where
  lines   : ∀ l, out.get l = false → (s.line l).Sound
  holder  : ∀ k l, (s.stack k).holder = some l ↔ out.get l = false ∧ heldStack (s.line l) = some k
  waiters : ∀ k l g, (s.stack k).waiters.get l = some g ↔ out.get l = false ∧ waitsAt (s.line l) = some (k, g)
  taken   : ∀ k l, (s.stack k).holder = some l → (s.stack k).falling = []
    ∧ ∃ d, (s.line l).draw = some d ∧ (s.stack k).topIn d.grades = true
  serving : ∀ k l, (s.stack k).waiters.get l ≠ none → (s.stack k).serving = true ∧
    ((k, l) ∉ due.access → (s.stack k).access.get l = true) ∧ (k ∉ due.free → (s.stack k).free = false)
  drain   : ∀ k, k ∉ due.drain → (s.stack k).state = .drain → (s.stack k).inventory ≠ [] ∨ (s.stack k).allocated ≠ 0
  quiet   : s.estop = true ∨ s.pins.resetHeld = true → ∀ l, l ∉ due.quiet → out.get l = false →
    (s.line l).activity = .idle ∨ (s.line l).activity = .fault

theorem noLines_get (l : Line) : noLines.get l = false := by cases l <;> rfl

theorem topsSound_iff {s : State} : TopsSound s ↔ Tops noLines {} s := by
  constructor
  · intro h
    refine ⟨fun l _ => h.lines l, fun k l => (h.holder k l).trans ?_, fun k l g => (h.waiters k l g).trans ?_, h.taken,
      fun k l hw => ?_, fun k _ => h.drain k, fun he l _ _ => h.quiet he l⟩
    · simp [noLines_get]
    · rw [noLines_get, waitsAt_eq_some]; simp
    · obtain ⟨h1, h2, h3⟩ := h.serving k l hw
      exact ⟨h1, fun _ => h2, fun _ => h3⟩
  · intro h
    refine ⟨fun l => h.lines l (noLines_get l), fun k l => (h.holder k l).trans ?_,
      fun k l g => (h.waiters k l g).trans ?_, h.taken, fun k l hw => ?_, fun k => h.drain k List.not_mem_nil,
      fun he l => h.quiet he l List.not_mem_nil (noLines_get l)⟩
    · simp [noLines_get]
    · rw [noLines_get, waitsAt_eq_some]; simp
    · obtain ⟨h1, h2, h3⟩ := h.serving k l hw
      exact ⟨h1, h2 List.not_mem_nil, h3 List.not_mem_nil⟩

theorem set_get {α : Type} (p : PerLine α) (l m : Line) (b : α) : (p.set l b).get m = if m = l then b else p.get m := by
  split
  · next h => subst h; simp
  · next h => exact PerLine.get_set_other _ _ h

theorem line_setLine (s : State) (l m : Line) (x : LineState) : (s.setLine l x).line m = if m = l then x else s.line m := by
  split
  · next h => subst h; simp
  · next h => exact State.line_setLine_other _ _ h

namespace Tops

variable {out : PerLine Bool} {due : Due} {s t : State}

/-- Only lines, stacks and pins bear on the agreement. -/
theorem of_eq (h : Tops out due s) (he : (t.lines.line, t.sk.stack, t.pins) = (s.lines.line, s.sk.stack, s.pins)) :
    Tops out due t := by
  simp only [Prod.mk.injEq] at he
  obtain ⟨hl, hs, hp⟩ := he
  have line (l : Line) : t.line l = s.line l := by rw [State.line, State.line, hl]
  have stack (k : StackId) : t.stack k = s.stack k := by rw [State.stack, State.stack, hs]
  constructor
  case lines => simpa only [line] using h.lines
  case holder => simpa only [line, stack] using h.holder
  case waiters => simpa only [line, stack] using h.waiters
  case taken => simpa only [line, stack] using h.taken
  case serving => simpa only [line, stack] using h.serving
  case drain => simpa only [stack] using h.drain
  case quiet => simpa only [line, State.estop, hp] using h.quiet

theorem raise (h : Tops out due s) (n : Notice) : Tops out due (s.raise n) := h.of_eq rfl

theorem abandonAll (h : Tops out due s) (rs : List SheetRecord) : Tops out due (s.abandonAll rs) := by
  obtain ⟨g, e⟩ := s.abandonAll_only_grading rs
  rw [e]
  exact h.of_eq rfl

/-! ### Lines taken out and put back -/

/-- A line that is out holds no top and waits at none. -/
theorem away (h : Tops out due s) {l : Line} (hl : out.get l = true) (k : StackId) :
    (s.stack k).holder ≠ some l ∧ (s.stack k).waiters.get l = none := by
  refine ⟨fun e => ?_, ?_⟩
  · have := ((h.holder k l).mp e).1
    simp [hl] at this
  · by_contra hn
    obtain ⟨g, hg⟩ := Option.ne_none_iff_exists'.mp hn
    have := ((h.waiters k l g).mp hg).1
    simp [hl] at this

/-- A line that is at no top is taken out. -/
theorem takeOut (h : Tops out due s) {l : Line} (hh : heldStack (s.line l) = none) (hw : waitsAt (s.line l) = none) :
    Tops (out.set l true) due s where
  lines m hm := h.lines m (by rw [set_get] at hm; split at hm <;> simp_all)
  holder k m := by
    rw [h.holder, set_get]
    split
    · next e => subst e; simp [hh]
    · rfl
  waiters k m g := by
    rw [h.waiters, set_get]
    split
    · next e => subst e; simp [hw]
    · rfl
  taken := h.taken
  serving := h.serving
  drain := h.drain
  quiet he m hq hm := h.quiet he m hq (by rw [set_get] at hm; split at hm <;> simp_all)

/-- A line that is out changes as it likes. -/
theorem setLine (h : Tops out due s) {l : Line} (hl : out.get l = true) (x : LineState) : Tops out due (s.setLine l x) where
  lines m hm := by
    have : m ≠ l := by rintro rfl; simp [hl] at hm
    rw [line_setLine, if_neg this]
    exact h.lines m hm
  holder k m := by
    rw [line_setLine]
    split
    · next e =>
      subst e
      exact ⟨fun hk => absurd hk (h.away hl k).1, fun hk => absurd (hl.symm.trans hk.1) (by simp)⟩
    · exact h.holder k m
  waiters k m g := by
    rw [line_setLine]
    split
    · next e =>
      subst e
      exact ⟨fun hk => by simp [(h.away hl k).2] at hk, fun hk => absurd (hl.symm.trans hk.1) (by simp)⟩
    · exact h.waiters k m g
  taken k m hk := by
    have hm : m ≠ l := by rintro rfl; exact (h.away hl k).1 hk
    rw [line_setLine, if_neg hm]
    exact h.taken k m hk
  serving := h.serving
  drain := h.drain
  quiet he m hq hm := by
    have : m ≠ l := by rintro rfl; simp [hl] at hm
    rw [line_setLine, if_neg this]
    exact h.quiet he m hq hm

/-- A line that is out and sound again, at no top, is put back. -/
theorem putBack (h : Tops out due s) {l : Line} (hl : out.get l = true) (hs : (s.line l).Sound)
    (hh : heldStack (s.line l) = none) (hw : waitsAt (s.line l) = none)
    (hq : s.estop = true ∨ s.pins.resetHeld = true → l ∉ due.quiet →
      (s.line l).activity = .idle ∨ (s.line l).activity = .fault) : Tops (out.set l false) due s where
  lines m hm := by
    by_cases e : m = l
    · subst e; exact hs
    · rw [set_get, if_neg e] at hm
      exact h.lines m hm
  holder k m := by
    rw [set_get]
    split
    · next e =>
      subst e
      simp [hh, (h.away hl k).1]
    · exact h.holder k m
  waiters k m g := by
    rw [set_get]
    split
    · next e =>
      subst e
      simp [hw, (h.away hl k).2]
    · exact h.waiters k m g
  taken := h.taken
  serving := h.serving
  drain := h.drain
  quiet he m hm ho := by
    by_cases e : m = l
    · subst e; exact hq he hm
    · rw [set_get, if_neg e] at ho
      exact h.quiet he m hm ho

/-- A line that is out rests again: idle or faulted. -/
theorem rest (h : Tops out due s) {l : Line} (hl : out.get l = true) (hs : (s.line l).Sound)
    (ha : (s.line l).activity = .idle ∨ (s.line l).activity = .fault) : Tops (out.set l false) due s :=
  h.putBack hl hs (heldStack_none (by rcases ha with e | e <;> simp [e]) (by rcases ha with e | e <;> simp [e]))
    (waitsAt_none (by rcases ha with e | e <;> simp [e])) fun _ _ => ha

/-! ### Stacks -/

/-- Holder, waiters, state and access of a stack stay, and the top of one that is held: its top may have been freed and it
may have been emptied. -/
theorem setStack (h : Tops out due s) {k : StackId} {x : Stack}
    (he : (x.holder, x.waiters, x.state, x.access) =
      ((s.stack k).holder, (s.stack k).waiters, (s.stack k).state, (s.stack k).access))
    (ht : x.holder ≠ none → (s.stack k).falling = [] → x.falling = [] ∧ x.inventory = (s.stack k).inventory) :
    Tops out { due with free := k :: due.free, drain := k :: due.drain } (s.setStack k x) := by
  simp only [Prod.mk.injEq] at he
  obtain ⟨hh, hw, hst, ha⟩ := he
  refine ⟨h.lines, fun j l => ?_, fun j l g => ?_, fun j l hj => ?_, fun j l hj => ?_, fun j hd => ?_, h.quiet⟩
  · rw [stack_setStack]
    split
    · next e => subst e; rw [hh]; exact h.holder j l
    · exact h.holder j l
  · rw [stack_setStack]
    split
    · next e => subst e; rw [hw]; exact h.waiters j l g
    · exact h.waiters j l g
  · rw [stack_setStack] at hj ⊢
    split
    · next e =>
      subst e
      rw [if_pos rfl] at hj
      obtain ⟨hf, d, hd, hg⟩ := h.taken j l (hh ▸ hj)
      obtain ⟨hf', hi⟩ := ht (by simp [hj]) hf
      refine ⟨hf', d, hd, ?_⟩
      simpa [Stack.topIn, Stack.topGrade, hi] using hg
    · next e =>
      rw [if_neg e] at hj
      exact h.taken j l hj
  · rw [stack_setStack] at hj ⊢
    split
    · next e =>
      subst e
      rw [if_pos rfl, hw] at hj
      obtain ⟨h1, h2, -⟩ := h.serving j l hj
      refine ⟨?_, ha ▸ h2, fun hn => absurd List.mem_cons_self hn⟩
      simpa [Stack.serving, hst] using h1
    · next e =>
      rw [if_neg e] at hj
      obtain ⟨h1, h2, h3⟩ := h.serving j l hj
      exact ⟨h1, h2, fun hn => h3 fun hm => hn (List.mem_cons_of_mem k hm)⟩
  · have e : j ≠ k := by rintro rfl; exact hd List.mem_cons_self
    rw [stack_setStack, if_neg e]
    exact h.drain j fun hm => hd (List.mem_cons_of_mem k hm)

/-- A top that is not free after all, or at which nobody waits, needs no grant check. -/
theorem dropFree {k : StackId} {F : List StackId} (h : Tops out { due with free := k :: F } s)
    (hk : (s.stack k).free = false ∨ ∀ l, (s.stack k).waiters.get l = none) : Tops out { due with free := F } s :=
  { h with
    serving := fun j l hj => by
      obtain ⟨h1, h2, h3⟩ := h.serving j l hj
      refine ⟨h1, h2, fun hn => ?_⟩
      by_cases e : j = k
      · subst e
        rcases hk with hk | hk
        · exact hk
        · exact absurd (hk l) hj
      · exact h3 fun hm => (List.mem_cons.mp hm).elim e hn }

theorem dropDrain {k : StackId} {D : List StackId} (h : Tops out { due with drain := k :: D } s)
    (hk : (s.stack k).state = .drain → (s.stack k).inventory ≠ [] ∨ (s.stack k).allocated ≠ 0) :
    Tops out { due with drain := D } s :=
  { h with
    drain := fun j hn hs => by
      by_cases e : j = k
      · subst e; exact hk hs
      · exact h.drain j (fun hm => (List.mem_cons.mp hm).elim e hn) hs }

/-- What more is due does not hurt. -/
theorem weaken {due' : Due} (h : Tops out due s) (hf : due.free ⊆ due'.free) (hd : due.drain ⊆ due'.drain)
    (ha : due.access ⊆ due'.access) (hq : due.quiet ⊆ due'.quiet) : Tops out due' s :=
  { h with
    serving := fun j l hj => by
      obtain ⟨h1, h2, h3⟩ := h.serving j l hj
      exact ⟨h1, fun hn => h2 fun hm => hn (ha hm), fun hn => h3 fun hm => hn (hf hm)⟩
    drain := fun j hn => h.drain j fun hm => hn (hd hm)
    quiet := fun he l hn => h.quiet he l fun hm => hn (hq hm) }

/-- A line that waits at a stack leaves it and is out. -/
theorem leave (h : Tops out due s) {l : Line} {k : StackId} (hw : (s.stack k).waiters.get l ≠ none) :
    Tops (out.set l true) due (leaveWaiters l k s) := by
  obtain ⟨g, hg⟩ := Option.ne_none_iff_exists'.mp hw
  obtain ⟨ho, hat⟩ := (h.waiters k l g).mp hg
  have hact : (s.line l).activity = .waitingTop := (waitsAt_eq_some.mp hat).1
  have hheld : heldStack (s.line l) = none := heldStack_none (by simp [hact]) (by simp [hact])
  have wait (j : StackId) (m : Line) : ((leaveWaiters l k s).stack j).waiters.get m =
      if j = k ∧ m = l then none else (s.stack j).waiters.get m := by
    unfold leaveWaiters
    rw [stack_setStack]
    by_cases e : j = k
    · subst e
      by_cases e' : m = l
      · subst e'; simp
      · simp [e', PerLine.get_set_other _ _ e']
    · simp [e]
  have same (j : StackId) : ∃ w, (leaveWaiters l k s).stack j = { s.stack j with waiters := w } := by
    unfold leaveWaiters
    rw [stack_setStack]
    split
    · next e => subst e; exact ⟨_, rfl⟩
    · exact ⟨_, rfl⟩
  refine ⟨fun m hm => ?_, fun j m => ?_, fun j m g' => ?_, fun j m hj => ?_, fun j m hj => ?_, fun j hd => ?_,
    fun he m hq hm => ?_⟩
  · exact h.lines m (by rw [set_get] at hm; split at hm <;> simp_all)
  · obtain ⟨w, hs⟩ := same j
    rw [hs, set_get]
    refine (h.holder j m).trans ?_
    split
    · next e => subst e; simp [leaveWaiters, hheld]
    · rfl
  · rw [wait, set_get]
    by_cases e : m = l
    · subst e
      by_cases e' : j = k
      · simp [e']
      · simp only [e', false_and, if_false, if_true]
        refine ⟨fun hj => ?_, fun hj => absurd hj.1 (by simp)⟩
        have := ((h.waiters j m g').mp hj).2
        rw [hat] at this
        cases this
        exact absurd rfl e'
    · simp only [e, and_false, if_false]
      exact h.waiters j m g'
  · obtain ⟨w, hs⟩ := same j
    rw [hs] at hj ⊢
    exact h.taken j m hj
  · rw [wait] at hj
    obtain ⟨w, hs⟩ := same j
    rw [hs]
    exact h.serving j m (by split at hj <;> simp_all)
  · obtain ⟨w, hs⟩ := same j
    rw [hs]
    exact h.drain j hd
  · exact h.quiet he m hq (by rw [set_get] at hm; split at hm <;> simp_all)

/-- A line whose pick holds a top gives it up and is out; the top may be free. -/
theorem release (h : Tops out due s) {l : Line} {k : StackId} (ho : out.get l = false)
    (hk : heldStack (s.line l) = some k) :
    Tops (out.set l true) { due with free := k :: due.free } (s.setStack k { s.stack k with holder := none }) := by
  have hhold : (s.stack k).holder = some l := (h.holder k l).mpr ⟨ho, hk⟩
  have hact : (s.line l).activity ≠ .waitingTop := by
    rcases (heldStack_eq_some.mp hk).1 with e | e <;> simp [e]
  refine ⟨fun m hm => ?_, fun j m => ?_, fun j m g => ?_, fun j m hj => ?_, fun j m hj => ?_, fun j hd => ?_,
    fun he m hq hm => ?_⟩
  · exact h.lines m (by rw [set_get] at hm; split at hm <;> simp_all)
  · rw [stack_setStack, set_get]
    by_cases e : m = l
    · subst e
      simp only [if_true, reduceCtorEq, false_and, iff_false]
      split
      · simp
      · next e' =>
        intro hj
        have := ((h.holder j m).mp hj).2
        rw [hk] at this
        cases this
        exact e' rfl
    · rw [if_neg e]
      split
      · next e' =>
        subst e'
        simp only [reduceCtorEq, false_iff]
        intro hj
        have := (h.holder j m).mpr hj
        rw [hhold] at this
        cases this
        exact e rfl
      · exact h.holder j m
  · rw [set_get]
    have hj : ((s.setStack k { s.stack k with holder := none }).stack j).waiters = (s.stack j).waiters := by
      rw [stack_setStack]
      split
      · next e => subst e; rfl
      · rfl
    rw [hj]
    refine (h.waiters j m g).trans ?_
    split
    · next e => subst e; simp [waitsAt_none hact]
    · rfl
  · rw [stack_setStack] at hj ⊢
    split
    · next e => subst e; simp at hj
    · next e =>
      rw [if_neg e] at hj
      exact h.taken j m hj
  · rw [stack_setStack] at hj ⊢
    split
    · next e =>
      subst e
      rw [if_pos rfl] at hj
      obtain ⟨h1, h2, -⟩ := h.serving j m hj
      exact ⟨h1, h2, fun hn => absurd List.mem_cons_self hn⟩
    · next e =>
      rw [if_neg e] at hj
      obtain ⟨h1, h2, h3⟩ := h.serving j m hj
      exact ⟨h1, h2, fun hn => h3 fun hm => hn (List.mem_cons_of_mem k hm)⟩
  · rw [stack_setStack]
    split
    · next e => subst e; exact h.drain j hd
    · exact h.drain j hd
  · exact h.quiet he m hq (by rw [set_get] at hm; split at hm <;> simp_all)

/-- E-STOP is not in force and RESET_N not held. -/
def Awake (s : State) : Prop := s.estop = false ∧ s.pins.resetHeld = false

theorem awake_not {s : State} (h : Awake s) : ¬ (s.estop = true ∨ s.pins.resetHeld = true) := by
  simp [h.1, h.2]

/-- A line that waits or picks shows that nothing holds the part still. -/
theorem awake_of_busy (h : Tops out due s) {l : Line} (hq : l ∉ due.quiet) (ho : out.get l = false)
    (hi : (s.line l).activity ≠ .idle) (hf : (s.line l).activity ≠ .fault) : Awake s := by
  refine ⟨?_, ?_⟩
  · by_contra hn
    exact (h.quiet (.inl (by simpa using hn)) l hq ho).elim hi hf
  · by_contra hn
    exact (h.quiet (.inr (by simpa using hn)) l hq ho).elim hi hf

/-- A line that is out and would select again is granted a free top it may take. -/
theorem grant (h : Tops out due s) {l : Line} {k : StackId} (hl : out.get l = true) (hr : (s.line l).Reselects)
    (ha : Awake s) (hf : (s.stack k).free = true)
    (hg : ∀ d, (s.line l).draw = some d → (s.stack k).topIn d.grades = true) :
    Tops (out.set l false) due (beginPick l k s) := by
  have hfree : (s.stack k).falling = [] ∧ (s.stack k).holder = none := by
    simp only [Stack.free, Bool.and_eq_true, List.isEmpty_iff, Option.isNone_iff_eq_none] at hf
    exact ⟨hf.1.2, hf.2⟩
  obtain ⟨d, hd, -⟩ := hr.drawing
  have hheld : heldStack ((beginPick l k s).line l) = some k := by
    unfold beginPick
    rw [State.line_setLine_same]
    simp [heldStack, hd]
  have hnot : waitsAt ((beginPick l k s).line l) = none := waitsAt_none (by unfold beginPick; simp)
  have line (m : Line) (e : m ≠ l) : (beginPick l k s).line m = s.line m := by
    unfold beginPick
    exact State.line_setLine_other _ _ e
  have stack (j : StackId) : (beginPick l k s).stack j = if j = k then { s.stack k with
      holder := some l, lastGrant := some l, waiters := (s.stack k).waiters.set l none } else s.stack j :=
    stack_setStack ..
  have wait (j : StackId) (m : Line) : ((beginPick l k s).stack j).waiters.get m = (s.stack j).waiters.get m := by
    rw [stack]
    split
    · next e =>
      subst e
      by_cases e' : m = l
      · subst e'; simp [(h.away hl j).2]
      · exact PerLine.get_set_other _ _ e'
    · rfl
  refine ⟨fun m hm => ?_, fun j m => ?_, fun j m g' => ?_, fun j m hj => ?_, fun j m hj => ?_, fun j hd => ?_,
    fun he => absurd he (awake_not ha)⟩
  · by_cases e : m = l
    · subst e
      unfold beginPick
      rw [State.line_setLine_same]
      exact hr.picks k
    · rw [line m e]
      rw [set_get, if_neg e] at hm
      exact h.lines m hm
  · rw [stack, set_get]
    by_cases e : m = l
    · subst e
      simp only [if_true, hheld, true_and, Option.some.injEq]
      split
      · next e' => simp [e']
      · next e' => exact ⟨fun hj => absurd hj (h.away hl j).1, fun hj => absurd hj.symm e'⟩
    · rw [if_neg e, line m e]
      split
      · next e' =>
        subst e'
        have hn : (s.stack j).holder ≠ some m := by simp [hfree.2]
        simp only [Option.some.injEq]
        exact ⟨fun hj => absurd hj.symm e, fun hj => absurd ((h.holder j m).mpr hj) hn⟩
      · exact h.holder j m
  · rw [wait, set_get]
    by_cases e : m = l
    · subst e; simp [hnot, (h.away hl j).2]
    · rw [if_neg e, line m e]
      exact h.waiters j m g'
  · rw [stack] at hj ⊢
    split
    · next e =>
      subst e
      rw [if_pos rfl] at hj
      simp only [Option.some.injEq] at hj
      subst hj
      refine ⟨hfree.1, { d with stack := some j }, ?_, ?_⟩
      · unfold beginPick
        rw [State.line_setLine_same]
        simp [hd]
      · exact hg d hd
    · next e =>
      rw [if_neg e] at hj
      have hm : m ≠ l := by rintro rfl; exact (h.away hl j).1 hj
      rw [line m hm]
      exact h.taken j m hj
  · rw [wait] at hj
    obtain ⟨h1, h2, h3⟩ := h.serving j m hj
    rw [stack]
    split
    · next e => subst e; exact ⟨h1, h2, fun _ => by simp [Stack.free]⟩
    · exact ⟨h1, h2, h3⟩
  · rw [stack]
    split
    · next e => subst e; exact h.drain j hd
    · exact h.drain j hd

/-- A line that is out and would select again joins the waiters of a stack that serves it. -/
theorem join (h : Tops out due s) {l : Line} {k : StackId} (hl : out.get l = true) (hr : (s.line l).Reselects)
    (ha : Awake s) (he : (s.line l).mode = .run → (s.line l).exec ≠ .hold) (hs : (s.stack k).serving = true)
    (hac : (s.stack k).access.get l = true) (hf : (s.stack k).free = false) {d : Draw} (hd : (s.line l).draw = some d) :
    Tops (out.set l false) due (joinWaiters l k d.grades s) := by
  have hline : (joinWaiters l k d.grades s).line l = { s.line l with
      activity := .waitingTop, draw := some { d with stack := some k }, starveTimer := none, starveNoted := false } := by
    unfold joinWaiters
    rw [State.line_setLine_same, hd]
    rfl
  have hwaits : waitsAt ((joinWaiters l k d.grades s).line l) = some (k, d.grades) := by
    rw [hline]
    rfl
  have hheld : heldStack ((joinWaiters l k d.grades s).line l) = none := by
    rw [hline]
    rfl
  have line (m : Line) (e : m ≠ l) : (joinWaiters l k d.grades s).line m = s.line m := by
    unfold joinWaiters
    exact State.line_setLine_other _ _ e
  have same (j : StackId) : ∃ w, (joinWaiters l k d.grades s).stack j = { s.stack j with waiters := w } := by
    unfold joinWaiters
    change ∃ w, (s.setStack k _).stack j = _
    rw [stack_setStack]
    split
    · next e => subst e; exact ⟨_, rfl⟩
    · exact ⟨_, rfl⟩
  have wait (j : StackId) (m : Line) : ((joinWaiters l k d.grades s).stack j).waiters.get m =
      if j = k ∧ m = l then some d.grades else (s.stack j).waiters.get m := by
    unfold joinWaiters
    change ((s.setStack k _).stack j).waiters.get m = _
    rw [stack_setStack]
    by_cases e : j = k
    · subst e
      by_cases e' : m = l
      · subst e'; simp
      · simp [e', PerLine.get_set_other _ _ e']
    · simp [e]
  refine ⟨fun m hm => ?_, fun j m => ?_, fun j m g' => ?_, fun j m hj => ?_, fun j m hj => ?_, fun j hd => ?_,
    fun he => absurd he (awake_not ha)⟩
  · by_cases e : m = l
    · subst e
      have := hr.waits he k
      unfold joinWaiters
      rwa [State.line_setLine_same]
    · rw [line m e]
      rw [set_get, if_neg e] at hm
      exact h.lines m hm
  · obtain ⟨w, hj⟩ := same j
    rw [hj, set_get]
    by_cases e : m = l
    · subst e
      simp [hheld, (h.away hl j).1]
    · rw [if_neg e, line m e]
      exact h.holder j m
  · rw [wait, set_get]
    by_cases e : m = l
    · subst e
      simp only [and_true, if_true, hwaits, true_and, Option.some.injEq, Prod.mk.injEq]
      split
      · next e' => simp [e', eq_comm]
      · next e' => simp [(h.away hl j).2, Ne.symm e']
    · simp only [e, and_false, if_false]
      rw [line m e]
      exact h.waiters j m g'
  · obtain ⟨w, hj'⟩ := same j
    rw [hj'] at hj ⊢
    have hm : m ≠ l := by rintro rfl; exact (h.away hl j).1 hj
    rw [line m hm]
    exact h.taken j m hj
  · rw [wait] at hj
    obtain ⟨w, hj'⟩ := same j
    rw [hj']
    by_cases e : j = k ∧ m = l
    · obtain ⟨rfl, rfl⟩ := e
      exact ⟨hs, fun _ => hac, fun _ => hf⟩
    · rw [if_neg e] at hj
      exact h.serving j m hj
  · obtain ⟨w, hj⟩ := same j
    rw [hj]
    exact h.drain j hd

end Tops

end Sys2Proof.Machine
end

section
/-!
PROOFS. Selections and the events at the stacks keep the lines and the stack tops in agreement.
-/

namespace Sys2Proof.Machine

open Tops (Awake)

/-! ## More changes of a line or a stack -/

/-- Lines that are out of one set or of another. -/
def eitherOut (p q : PerLine Bool) : PerLine Bool := ⟨p.a || q.a, p.b || q.b⟩

theorem eitherOut_get (p q : PerLine Bool) (l : Line) : (eitherOut p q).get l = (p.get l || q.get l) := by cases l <;> rfl

theorem eitherOut_set (p q : PerLine Bool) (l : Line) : eitherOut (p.set l true) q = (eitherOut p q).set l true := by
  cases l <;> simp [eitherOut, PerLine.set]

theorem eitherOut_noLines (p : PerLine Bool) : eitherOut p noLines = p := by simp [eitherOut, noLines]

theorem perLine_ext {α : Type} {p q : PerLine α} (h : ∀ l, p.get l = q.get l) : p = q := by
  cases p
  cases q
  exact congrArg₂ PerLine.mk (h .a) (h .b)

namespace Tops

variable {out : PerLine Bool} {due : Due} {s t : State}

/-- A line changes where it stands: its draw and its place at the tops stay. -/
theorem replace (h : Tops out due s) {l : Line} {y : LineState} (hs : (s.line l).Sound → y.Sound)
    (he : (heldStack y, waitsAt y, y.draw) = (heldStack (s.line l), waitsAt (s.line l), (s.line l).draw))
    (hq : (s.line l).activity = .idle ∨ (s.line l).activity = .fault → y.activity = .idle ∨ y.activity = .fault) :
    Tops out due (s.setLine l y) := by
  simp only [Prod.mk.injEq] at he
  obtain ⟨hh, hw, hd⟩ := he
  refine ⟨fun m hm => ?_, fun k m => ?_, fun k m g => ?_, fun k m hk => ?_, h.serving, h.drain, fun he m hm ho => ?_⟩
  · rw [line_setLine]
    split
    · next e => subst e; exact hs (h.lines m hm)
    · exact h.lines m hm
  · rw [line_setLine]
    split
    · next e => subst e; rw [hh]; exact h.holder k m
    · exact h.holder k m
  · rw [line_setLine]
    split
    · next e => subst e; rw [hw]; exact h.waiters k m g
    · exact h.waiters k m g
  · obtain ⟨hf, d, hd', hg⟩ := h.taken k m hk
    refine ⟨hf, d, ?_, hg⟩
    rw [line_setLine]
    split
    · next e => subst e; rw [hd]; exact hd'
    · exact hd'
  · rw [line_setLine]
    split
    · next e => subst e; exact hq (h.quiet he m hm ho)
    · exact h.quiet he m hm ho

/-- The state of a stack changes to one that serves its waiters, if it has any. -/
theorem setStackState (h : Tops out due s) {k : StackId} {new : StackState}
    (hs : (∀ l, (s.stack k).waiters.get l = none) ∨ new = .opened ∨ new = .drain) :
    Tops out { due with drain := k :: due.drain } (s.setStack k { s.stack k with state := new }) := by
  have same (j : StackId) : ∃ st, (s.setStack k { s.stack k with state := new }).stack j = { s.stack j with state := st } ∧
      (j ≠ k → st = (s.stack j).state) ∧ (j = k → st = new) := by
    rw [stack_setStack]
    split
    · next e => subst e; exact ⟨new, rfl, fun hn => absurd rfl hn, fun _ => rfl⟩
    · next e => exact ⟨_, rfl, fun _ => rfl, fun e' => absurd e' e⟩
  refine ⟨h.lines, fun j l => ?_, fun j l g => ?_, fun j l hj => ?_, fun j l hj => ?_, fun j hd hst => ?_, h.quiet⟩
  · obtain ⟨st, hj, -, -⟩ := same j
    rw [hj]
    exact h.holder j l
  · obtain ⟨st, hj, -, -⟩ := same j
    rw [hj]
    exact h.waiters j l g
  · obtain ⟨st, hj', -, -⟩ := same j
    rw [hj'] at hj ⊢
    exact h.taken j l hj
  · obtain ⟨st, hj', hne, heq⟩ := same j
    rw [hj'] at hj ⊢
    obtain ⟨h1, h2, h3⟩ := h.serving j l hj
    refine ⟨?_, h2, h3⟩
    by_cases e : j = k
    · cases heq e
      subst e
      rcases hs with hs | rfl | rfl
      · exact absurd (hs l) hj
      · rfl
      · rfl
    · rw [hne e]
      exact h1
  · have e : j ≠ k := fun e => hd (e ▸ List.mem_cons_self)
    rw [stack_setStack, if_neg e] at hst ⊢
    exact h.drain j (fun hm => hd (List.mem_cons_of_mem k hm)) hst

theorem awake_of_pins (h : t.pins = s.pins) (ha : Awake s) : Awake t := by
  unfold Awake State.estop at ha ⊢
  rw [h]
  exact ha

/-! ### Selections -/

theorem candidate_of_selected {l : Line} {d : Draw} {k : StackId} (h : selectedStack l d s = some k) :
    (s.stack k).serving = true ∧ (s.stack k).access.get l = true ∧ (s.stack k).topIn d.grades = true := by
  have mem : ∀ (p : Preference) (g : StackId → Fin 5) (ks : List StackId) (j : StackId), firstRanked p g ks = some j → j ∈ ks := by
    intro p g ks
    induction ks with
    | nil => intro j hj; cases hj
    | cons i is ih =>
      intro j hj
      unfold firstRanked at hj
      split at hj
      · cases hj; exact List.mem_cons_self
      · next hm =>
        split at hj
        · cases hj; exact List.mem_cons_of_mem i (ih j hm)
        · cases hj; exact List.mem_cons_self
  have hm : k ∈ candidates l d s := by
    unfold selectedStack at h
    dsimp only at h
    split at h
    · next j hj => cases h; exact (List.mem_filter.mp (mem _ _ _ _ hj)).1
    · exact mem _ _ _ _ h
  have hc := (List.mem_filter.mp hm).2
  simp only [isCandidate, Bool.and_eq_true] at hc
  exact ⟨hc.1.1, hc.1.2, hc.2⟩

/-- A line whose draw is to go on selects: it picks, waits or starves (R158 to R160). -/
theorem select (h : Tops out due s) {l : Line} (hl : out.get l = true) (hr : (s.line l).Reselects) (ha : Awake s)
    (he : (s.line l).mode = .run → (s.line l).exec ≠ .hold) : Tops (out.set l false) due (Machine.select l s) := by
  obtain ⟨d, hd, -⟩ := hr.drawing
  unfold Machine.select
  rw [hd]
  dsimp only
  split
  · next k hk =>
    obtain ⟨hs, hac, hg⟩ := candidate_of_selected hk
    unfold ask
    dsimp only
    rw [if_neg (by simp [hs, hac])]
    split
    · next hf =>
      have hf : (s.stack k).free = true := (Bool.and_eq_true _ _ ▸ hf).1
      exact h.grant hl hr ha hf fun e he => by cases hd.symm.trans he; exact hg
    · next hf =>
      have hf : (s.stack k).free = false := by simpa [ha.1] using hf
      exact h.join hl hr ha he hs hac hf hd
  · unfold starve
    dsimp only
    split
    · next hst =>
      exact h.putBack hl (hr.starved hst) (heldStack_none (by simp [hst]) (by simp [hst])) (waitsAt_none (by simp [hst]))
        fun hq => absurd hq (awake_not ha)
    · refine (h.setLine hl _).putBack hl ?_ ?_ ?_ fun hq => absurd hq (awake_not ha)
      · rw [State.line_setLine_same]; exact hr.starves he
      · rw [State.line_setLine_same]; exact heldStack_none nofun nofun
      · rw [State.line_setLine_same]; exact waitsAt_none nofun

/-- A line stands: no step, no draw. -/
theorem stand (h : Tops out due s) {l : Line} (hl : out.get l = true) (hf : (s.line l).Fits)
    (hn : (s.line l).fault = none) : Tops (out.set l false) due (s.setLine l (s.line l).stood) := by
  refine (h.setLine hl _).rest hl ?_ ?_
  · rw [State.line_setLine_same]
    exact .of_idle (s.line l).stood_free ⟨hf.held, hf.plies, hf.off⟩ rfl hn
  · rw [State.line_setLine_same]
    exact .inl rfl

/-- A line whose draw is to go on selects again, or stands under exec HOLD (R145, R159). -/
theorem reselect (h : Tops out due s) {l : Line} (hl : out.get l = true) (hr : (s.line l).Reselects) (ha : Awake s) :
    Tops (out.set l false) due (Machine.reselect l s) := by
  unfold Machine.reselect
  split
  · exact h.stand hl hr.fits hr.fault
  · next hn => exact h.select hl hr ha fun hm he => hn hm he

end Tops

theorem reselect_line_other {l m : Line} (s : State) (h : m ≠ l) : (reselect l s).line m = s.line m := by
  unfold reselect select ask starve beginPick joinWaiters
  split
  · exact State.line_setLine_other _ _ h
  · split
    · rfl
    · split
      · dsimp only
        split
        · rfl
        · split
          · split
            · exact State.line_setLine_other _ _ h
            · rfl
          · exact State.line_setLine_other _ _ h
      · dsimp only
        split
        · rfl
        · exact State.line_setLine_other _ _ h

/-! ## Events at the stacks -/

/-- An event in the making: the lines told to reselect are out, and so are the lines `extra`; the agreement holds else, but
for what is due. -/
structure TopsEvent (extra : PerLine Bool) (due : Due) (e : StackEvent) : Prop where
  tops : Tops (eitherOut e.told extra) due e.st
  told : ∀ l, e.told.get l = true → (e.st.line l).Reselects ∧ Awake e.st
  calm : due.quiet = []

namespace TopsEvent

variable {extra : PerLine Bool} {due : Due} {e : StackEvent}

theorem of_tops {s : State} (h : Tops extra due s) (hc : due.quiet = []) : TopsEvent extra due (.of s) where
  tops := by
    have : eitherOut (StackEvent.of s).told extra = extra := by simp [eitherOut, StackEvent.of]
    rwa [this]
  told l hl := by cases l <;> cases hl
  calm := hc

theorem announce (h : TopsEvent extra due e) : TopsEvent extra due e.announce := ⟨h.tops, h.told, h.calm⟩

theorem announceTo (h : TopsEvent extra due e) (m : PerLine Bool) : TopsEvent extra due (e.announceTo m) :=
  ⟨h.tops, h.told, h.calm⟩

/-- A line that waits shows itself ready to select again. -/
theorem waiter (h : TopsEvent extra due e) {l : Line} {k : StackId} (hw : (e.st.stack k).waiters.get l ≠ none) :
    (e.st.line l).Reselects ∧ Awake e.st := by
  obtain ⟨g, hg⟩ := Option.ne_none_iff_exists'.mp hw
  obtain ⟨ho, hat⟩ := (h.tops.waiters k l g).mp hg
  have hact := (waitsAt_eq_some.mp hat).1
  exact ⟨(h.tops.lines l ho).reselects (.inl hact), h.tops.awake_of_busy (by simp [h.calm]) ho (by simp [hact]) (by simp [hact])⟩

/-- A waiter leaves its stack and is told to reselect. -/
theorem leave (h : TopsEvent extra due e) {l : Line} {k : StackId} (hw : (e.st.stack k).waiters.get l ≠ none) :
    TopsEvent extra due { st := leaveWaiters l k e.st, told := e.told.set l true, heard := e.heard } where
  tops := by
    rw [eitherOut_set]
    exact h.tops.leave hw
  told m hm := by
    by_cases hml : m = l
    · subst hml; exact h.waiter hw
    · exact h.told m (by rwa [set_get, if_neg hml] at hm)
  calm := h.calm

end TopsEvent

/-- A waiter leaves its stack and is told to reselect, if it waits there. -/
def StackEvent.leaveIf (e : StackEvent) (l : Line) (k : StackId) : StackEvent :=
  if (e.st.stack k).waiters.get l = none then e
  else { st := leaveWaiters l k e.st, told := e.told.set l true, heard := e.heard }

theorem setStack_setStack (s : State) (k : StackId) (x y : Stack) : (s.setStack k x).setStack k y = s.setStack k y := by
  simp [State.setStack]

theorem setStack_self (s : State) (k : StackId) : s.setStack k (s.stack k) = s := by
  simp [State.setStack, State.stack]

theorem StackEvent.withdrawAll_eq (e : StackEvent) (k : StackId) :
    e.withdrawAll k = (e.leaveIf .a k).leaveIf .b k := by
  obtain ⟨s, told, heard⟩ := e
  unfold StackEvent.withdrawAll StackEvent.leaveIf leaveWaiters
  rcases hw : (s.stack k).waiters with ⟨wa, wb⟩
  have hself : s.setStack k { s.stack k with waiters := ⟨wa, wb⟩ } = s := by
    rw [← hw]; exact setStack_self s k
  cases wa <;> cases wb <;>
    simp [hw, PerLine.get, PerLine.set, setStack_setStack, hself]

namespace TopsEvent

variable {extra : PerLine Bool} {due : Due} {e : StackEvent}

theorem leaveIf (h : TopsEvent extra due e) (l : Line) (k : StackId) : TopsEvent extra due (e.leaveIf l k) := by
  unfold StackEvent.leaveIf
  split
  · exact h
  · next hn => exact h.leave hn

theorem withdrawAll (h : TopsEvent extra due e) (k : StackId) : TopsEvent extra due (e.withdrawAll k) := by
  rw [e.withdrawAll_eq]
  exact (h.leaveIf .a k).leaveIf .b k

/-- What is due changes with the agreement. -/
theorem dues {due' : Due} (h : TopsEvent extra due e)
    (f : Tops (eitherOut e.told extra) due e.st → Tops (eitherOut e.told extra) due' e.st) (hc : due'.quiet = due.quiet) :
    TopsEvent extra due' e := ⟨f h.tops, h.told, hc.trans h.calm⟩

/-- The state changes beside the lines. -/
theorem onState {t : State} (h : TopsEvent extra due e) {due' : Due} (ht : Tops (eitherOut e.told extra) due' t)
    (hl : t.lines.line = e.st.lines.line) (hp : t.pins = e.st.pins) (hc : due'.quiet = due.quiet) :
    TopsEvent extra due' { e with st := t } :=
  ⟨ht, fun l hl' => ⟨by rw [State.line, hl]; exact (h.told l hl').1, Tops.awake_of_pins hp (h.told l hl').2⟩,
    hc.trans h.calm⟩

theorem raise (h : TopsEvent extra due e) (n : Notice) : TopsEvent extra due { e with st := e.st.raise n } :=
  h.onState (h.tops.raise n) rfl rfl rfl

/-! ### The state of a stack -/

theorem withdrawAll_waiters (e : StackEvent) (k : StackId) : ((e.withdrawAll k).st.stack k).waiters = ⟨none, none⟩ := by
  unfold StackEvent.withdrawAll
  rw [State.stack_setStack_same]

theorem setState_shut {e : StackEvent} {k : StackId} {new : StackState} (hne : (e.st.stack k).state ≠ new)
    (hn : new = .closed ∨ new = .faulted) : e.setState k new =
      { (e.announce.withdrawAll k) with
        st := (e.announce.withdrawAll k).st.setStack k { (e.announce.withdrawAll k).st.stack k with state := new } } := by
  unfold StackEvent.setState
  rw [if_neg hne]
  rcases hn with rfl | rfl <;> simp [StackEvent.withdrawAll, StackEvent.announce, setStack_setStack]

/-- A stack closed or faulted: its waiters are told to reselect (R118). -/
theorem shut (h : TopsEvent extra due e) {k : StackId} {new : StackState} (hn : new = .closed ∨ new = .faulted) :
    TopsEvent extra due (e.setState k new) := by
  by_cases hne : (e.st.stack k).state = new
  · unfold StackEvent.setState
    rwa [if_pos hne]
  · rw [setState_shut hne hn]
    have hw := h.announce.withdrawAll k
    refine hw.onState ((hw.tops.setStackState (.inl fun l => ?_)).dropDrain fun hd => ?_) rfl rfl rfl
    · rw [withdrawAll_waiters]
      cases l <;> rfl
    · rw [State.stack_setStack_same] at hd
      rcases hn with rfl | rfl <;> cases hd

/-- Nobody waits at a stack that does not serve. -/
theorem no_waiters (h : TopsEvent extra due e) {k : StackId} (hs : (e.st.stack k).serving = false) (l : Line) :
    (e.st.stack k).waiters.get l = none := by
  by_contra hn
  simp [(h.tops.serving k l hn).1] at hs

theorem setState_state (e : StackEvent) (k : StackId) (new : StackState) :
    ((e.setState k new).st.stack k).state = new := by
  unfold StackEvent.setState
  split
  · next h => exact h
  · cases new <;> simp [StackEvent.withdrawAll, StackEvent.announce]

/-- A stack opened. -/
theorem opened (h : TopsEvent extra due e) (k : StackId) : TopsEvent extra due (e.setState k .opened) := by
  unfold StackEvent.setState
  split
  · exact h
  · refine (h.onState ((h.tops.setStackState (.inr (.inl rfl))).dropDrain fun hd => ?_) rfl rfl rfl).announce
    rw [State.stack_setStack_same] at hd
    cases hd

/-- A stack put into DRAIN, which may be empty. -/
theorem drained (h : TopsEvent extra due e) (k : StackId) :
    TopsEvent extra { due with drain := k :: due.drain } (e.setState k .drain) := by
  unfold StackEvent.setState
  split
  · exact h.dues (fun ht => ht.weaken (List.Subset.refl _) (List.subset_cons_self ..) (List.Subset.refl _)
      (List.Subset.refl _)) rfl
  · exact (h.onState (h.tops.setStackState (.inr (.inr rfl))) rfl rfl rfl).announce

/-- A stack in DRAIN with nothing closes (R118). -/
theorem drainClose {k : StackId} {D : List StackId} (h : TopsEvent extra { due with drain := k :: D } e) :
    TopsEvent extra { due with drain := D } (e.drainClose k) := by
  unfold StackEvent.drainClose
  dsimp only
  split
  · refine ((h.shut (k := k) (.inl rfl)).raise .stackEmpty).dues (fun ht => ht.dropDrain fun hd => ?_) rfl
    have : ((e.setState k .closed).st.stack k).state = .drain := hd
    rw [setState_state] at this
    cases this
  · next hn =>
    refine h.dues (fun ht => ht.dropDrain fun hd => ?_) rfl
    by_contra hc
    exact hn ⟨hd, not_or.mp hc |>.imp not_not.mp not_not.mp⟩

theorem drainCloses : ∀ {D : List StackId} {e : StackEvent}, TopsEvent extra { due with drain := D } e →
    TopsEvent extra { due with drain := [] } (D.foldl StackEvent.drainClose e)
  | [], _, h => h
  | k :: D, e, h => drainCloses (e := e.drainClose k) (D := D) h.drainClose

/-! ### Grant checks -/

theorem beginPick_leaveWaiters (l : Line) (k : StackId) (s : State) :
    beginPick l k (leaveWaiters l k s) = beginPick l k s := by
  unfold beginPick leaveWaiters
  cases l <;> simp [setStack_setStack, PerLine.set]

theorem offer (k : StackId) : ∀ (ls : List Line) {e : StackEvent}, TopsEvent extra due e → (e.st.stack k).free = true →
    (∀ l, l ∉ ls → (e.st.stack k).waiters.get l = none) → TopsEvent extra due (StackEvent.offer k ls e) ∧
      (((StackEvent.offer k ls e).st.stack k).free = false ∨
        ∀ l, ((StackEvent.offer k ls e).st.stack k).waiters.get l = none)
  | [], e, h, _, hw => ⟨h, .inr fun l => hw l List.not_mem_nil⟩
  | l :: ls, e, h, hf, hw => by
    unfold StackEvent.offer
    split
    · next hn =>
      refine offer k ls h hf fun m hm => ?_
      by_cases hml : m = l
      · subst hml; exact hn
      · exact hw m fun hm' => (List.mem_cons.mp hm').elim hml hm
    · next g hg =>
      have hwait : (e.st.stack k).waiters.get l ≠ none := by simp [hg]
      obtain ⟨hr, ha⟩ := h.waiter hwait
      have hleave := h.leave hwait
      split
      · next htop =>
        obtain ⟨ho, hat⟩ := (h.tops.waiters k l g).mp hg
        obtain ⟨-, d, hd, -, hgr⟩ := waitsAt_eq_some.mp hat
        have hout : ((eitherOut e.told extra).set l true).set l false = eitherOut e.told extra := by
          refine perLine_ext fun m => ?_
          rw [set_get, set_get]
          split
          · next e' => subst e'; exact ho.symm
          · rfl
        refine ⟨⟨?_, fun m hm => ?_, h.calm⟩, .inl ?_⟩
        · have hgrant := (h.tops.leave hwait).grant (l := l) (k := k) (by simp) hr ha (by simpa [leaveWaiters, Stack.free] using hf)
            fun d' hd' => by
              cases hd.symm.trans hd'
              rw [hgr]
              simpa [leaveWaiters, Stack.topIn, Stack.topGrade] using htop
          rw [beginPick_leaveWaiters, hout] at hgrant
          exact hgrant
        · have hml : m ≠ l := by
            rintro rfl
            rw [eitherOut_get, hm] at ho
            cases ho
          obtain ⟨hr', ha'⟩ := h.told m hm
          refine ⟨?_, ha'⟩
          unfold beginPick
          change LineState.Reselects ((State.setLine _ l _).line m)
          rw [State.line_setLine_other _ _ hml]
          exact hr'
        · unfold beginPick
          change ((e.st.setStack k _).stack k).free = false
          rw [State.stack_setStack_same]
          simp [Stack.free]
      · refine offer k ls hleave (by simpa [leaveWaiters, Stack.free] using hf) fun m hm => ?_
        unfold leaveWaiters
        rw [State.stack_setStack_same]
        change ((e.st.stack k).waiters.set l none).get m = none
        rw [set_get]
        split
        · rfl
        · next hml => exact hw m fun hm' => (List.mem_cons.mp hm').elim hml hm

theorem mem_offerOrder (p : PickPriority) (last : Option Line) (l : Line) : l ∈ offerOrder p last := by
  unfold offerOrder
  split <;> cases l <;> simp

/-- A freed top is offered (R125, R132). -/
theorem grantCheck {k : StackId} {F : List StackId} (h : TopsEvent extra { due with free := k :: F } e) :
    TopsEvent extra { due with free := F } (e.grantCheck k) := by
  unfold StackEvent.grantCheck
  dsimp only
  split
  · next hc =>
    simp only [Bool.and_eq_true] at hc
    obtain ⟨hk, hf⟩ := offer k (offerOrder e.st.sk.priority (e.st.stack k).lastGrant) h hc.1.1
      fun l hl => absurd (mem_offerOrder _ _ l) hl
    exact hk.dues (fun ht => ht.dropFree hf) rfl
  · next hc =>
    refine h.dues (fun ht => ht.dropFree ?_) rfl
    by_contra hn
    obtain ⟨hfree, hw⟩ := not_or.mp hn
    obtain ⟨l, hl⟩ := not_forall.mp hw
    have hs := (h.tops.serving k l hl).1
    have ha := (h.waiter hl).2.1
    simp [hs, ha] at hc
    exact hfree hc

theorem grantChecks : ∀ {F : List StackId} {e : StackEvent}, TopsEvent extra { due with free := F } e →
    TopsEvent extra { due with free := [] } (F.foldl StackEvent.grantCheck e)
  | [], _, h => h
  | k :: F, e, h => grantChecks (e := e.grantCheck k) (F := F) h.grantCheck

/-! ### The access mask -/

theorem removeLine {k : StackId} {l : Line} {A : List (StackId × Line)}
    (h : TopsEvent extra { due with access := (k, l) :: A } e) :
    TopsEvent extra { due with access := A } (e.removeLine k l) := by
  have drop {e : StackEvent} (h : TopsEvent extra { due with access := (k, l) :: A } e)
      (hk : (e.st.stack k).access.get l = true ∨ (e.st.stack k).waiters.get l = none) :
      TopsEvent extra { due with access := A } e :=
    h.dues (fun ht => { ht with
      serving := fun j m hj => by
        obtain ⟨h1, h2, h3⟩ := ht.serving j m hj
        refine ⟨h1, fun hn => ?_, h3⟩
        by_cases hjm : (j, m) = (k, l)
        · cases hjm
          exact hk.resolve_right hj
        · exact h2 fun hm => (List.mem_cons.mp hm).elim hjm hn }) rfl
  unfold StackEvent.removeLine
  dsimp only
  split
  · next hc =>
    refine drop (h.leave ?_) (.inr ?_)
    · simp only [Bool.and_eq_true] at hc
      exact fun hn => by simp [hn] at hc
    · unfold leaveWaiters
      rw [State.stack_setStack_same]
      simp
  · next hc =>
    refine drop h ?_
    by_cases ha : (e.st.stack k).access.get l = true
    · exact .inl ha
    · refine .inr ?_
      simpa [ha] using hc

/-! ### The end of the event -/

/-- A line that selects at the end of the event can be taken out for it. -/
theorem selecting (h : TopsEvent noLines {} e) {l : Line} (hs : e.selects l = true) :
    Tops (e.told.set l true) {} e.st ∧ (e.st.line l).Reselects ∧ Awake e.st := by
  have ht := h.tops
  rw [eitherOut_noLines] at ht
  by_cases htold : e.told.get l = true
  · refine ⟨?_, h.told l htold⟩
    have : e.told.set l true = e.told := perLine_ext fun m => by
      rw [set_get]
      split
      · next e' => subst e'; exact htold.symm
      · rfl
    rwa [this]
  · have hst : (e.st.line l).activity = .starved := by
      unfold StackEvent.selects at hs
      simp only [htold, Bool.false_or, Bool.and_eq_true, decide_eq_true_eq] at hs
      exact hs.2
    have ho : e.told.get l = false := by simpa using htold
    refine ⟨ht.takeOut (heldStack_none (by simp [hst]) (by simp [hst])) (waitsAt_none (by simp [hst])),
      (ht.lines l ho).reselects (.inr hst), ht.awake_of_busy (by simp) ho (by simp [hst]) (by simp [hst])⟩

theorem told_of_selects_false {l : Line} (hs : e.selects l = false) : e.told.get l = false := by
  unfold StackEvent.selects at hs
  simp only [Bool.or_eq_false_iff] at hs
  exact hs.1

/-- The lines concerned select again, and the agreement is whole (R159, R160). -/
theorem settle (h : TopsEvent noLines {} e) : TopsSound e.settle := by
  rw [topsSound_iff]
  have one (l m : Line) (hl : e.selects l = true) (hm : e.selects m = false) (hall : ∀ n, n = l ∨ n = m) :
      Tops noLines {} (reselect l e.st) := by
    obtain ⟨ht, hr, ha⟩ := h.selecting hl
    have := ht.reselect (by simp) hr ha
    have hout : (e.told.set l true).set l false = noLines := perLine_ext fun n => by
      rw [set_get, set_get, noLines_get]
      split
      · rfl
      · next hn => rw [(hall n).resolve_left hn, told_of_selects_false hm]
    rwa [hout] at this
  have both (l m : Line) (hne : m ≠ l) (hl : e.selects l = true) (hm : e.selects m = true) (hall : ∀ n, n = l ∨ n = m) :
      Tops noLines {} (reselect m (reselect l { e.st with choices := e.st.choices + 1 })) := by
    obtain ⟨-, hrl, ha⟩ := h.selecting hl
    obtain ⟨ht, hrm, -⟩ := h.selecting hm
    have hboth : Tops ⟨true, true⟩ {} { e.st with choices := e.st.choices + 1 } := by
      refine Tops.of_eq (s := e.st) ?_ rfl
      by_cases htold : e.told.get l = true
      · have hout : e.told.set m true = ⟨true, true⟩ := perLine_ext fun n => by
          rw [set_get]
          split
          · cases n <;> rfl
          · next hn => rw [(hall n).resolve_right hn, htold]; cases l <;> rfl
        rwa [hout] at ht
      · have hst : (e.st.line l).activity = .starved := by
          unfold StackEvent.selects at hl
          simp only [htold, Bool.false_or, Bool.and_eq_true, decide_eq_true_eq] at hl
          exact hl.2
        have := ht.takeOut (l := l) (heldStack_none (by simp [hst]) (by simp [hst])) (waitsAt_none (by simp [hst]))
        have hout : (e.told.set m true).set l true = ⟨true, true⟩ := perLine_ext fun n => by
          rw [set_get, set_get]
          split
          · cases n <;> rfl
          · next hn =>
            rw [if_pos ((hall n).resolve_left hn)]
            cases n <;> rfl
        rwa [hout] at this
    have h1 := hboth.reselect (l := l) (by cases l <;> rfl) hrl ha
    have h2 := h1.reselect (l := m) ?_ ?_ ?_
    · have hout : (PerLine.set ⟨true, true⟩ l false).set m false = noLines := perLine_ext fun n => by
        rw [set_get, set_get, noLines_get]
        split
        · rfl
        · next hn => rw [if_pos ((hall n).resolve_right hn)]
      rwa [hout] at h2
    · rw [set_get, if_neg hne]
      cases m <;> rfl
    · rw [reselect_line_other _ hne]
      exact hrm
    · exact Tops.awake_of_pins (reselect_selectsOnly ..).pins ha
  unfold StackEvent.settle
  split
  · next ha hb =>
    have ht := h.tops
    have hout : eitherOut e.told noLines = noLines := perLine_ext fun n => by
      rw [eitherOut_noLines, noLines_get]
      cases n
      · exact told_of_selects_false ha
      · exact told_of_selects_false hb
    rwa [hout] at ht
  · next ha hb => exact one .a .b ha hb (by intro n; cases n <;> simp)
  · next ha hb => exact one .b .a hb ha (by intro n; cases n <;> simp)
  · next ha hb =>
    dsimp only
    split
    · exact both .a .b (by simp) ha hb (by intro n; cases n <;> simp)
    · exact both .b .a (by simp) hb ha (by intro n; cases n <;> simp)

end TopsEvent

end Sys2Proof.Machine
end

section
/-!
PROOFS. Steps, modes, exec and draws of one line keep the lines and the stack tops in agreement.
-/

namespace Sys2Proof.Machine

open Tops (Awake awake_not awake_of_pins)

/-! ## Operations on one line -/

/-- `t` is `s` with line `l` replaced by `y`, but for what bears on no stack top. -/
def LineNow (l : Line) (y : LineState) (s t : State) : Prop :=
  (t.lines.line, t.sk.stack, t.pins) = (s.lines.line.set l y, s.sk.stack, s.pins)

namespace LineNow

variable {l : Line} {y z : LineState} {s t u : State}

theorem setLine (s : State) (l : Line) (y : LineState) : LineNow l y s (s.setLine l y) := rfl

theorem of_eq (h : (t.lines.line, t.sk.stack, t.pins) = (s.lines.line, s.sk.stack, s.pins)) : LineNow l (s.line l) s t := by
  simp only [Prod.mk.injEq] at h
  simp only [LineNow, Prod.mk.injEq]
  refine ⟨h.1.trans (perLine_ext fun m => ?_), h.2⟩
  rw [set_get]
  split
  · next e => subst e; rfl
  · rfl

theorem refl (s : State) (l : Line) : LineNow l (s.line l) s s := of_eq rfl

theorem line (h : LineNow l y s t) : t.line l = y := by
  simp only [LineNow, Prod.mk.injEq] at h
  rw [State.line, h.1, set_get, if_pos rfl]

theorem other (h : LineNow l y s t) {m : Line} (hm : m ≠ l) : t.line m = s.line m := by
  simp only [LineNow, Prod.mk.injEq] at h
  rw [State.line, h.1, PerLine.get_set_other _ _ hm]
  rfl

theorem pins (h : LineNow l y s t) : t.pins = s.pins := by
  simp only [LineNow, Prod.mk.injEq] at h
  exact h.2.2

theorem trans (h : LineNow l y s t) (k : LineNow l z t u) : LineNow l z s u := by
  simp only [LineNow, Prod.mk.injEq] at h k ⊢
  refine ⟨?_, k.2.1.trans h.2.1, k.2.2.trans h.2.2⟩
  rw [k.1, h.1]
  refine perLine_ext fun m => ?_
  simp only [set_get]
  split <;> rfl

theorem raise (h : LineNow l y s t) (n : Notice) : LineNow l y s (t.raise n) := h

theorem raiseIf (h : LineNow l y s t) (c : Bool) (n : Notice) : LineNow l y s (t.raiseIf c n) := by
  unfold State.raiseIf
  split
  · exact h
  · exact h

/-- The panel is closed: it is empty, and the queue and the counter may have moved. -/
theorem closePanelRecord (l : Line) (st : PanelStatus) (ready : Bool) (s : State) : ∃ q n,
    LineNow l { s.line l with openPanel := [], panelQueue := q, panelCounter := n } s (closePanelRecord l st ready s) := by
  unfold Machine.closePanelRecord
  dsimp only
  split
  · next h =>
    refine ⟨(s.line l).panelQueue, (s.line l).panelCounter, ?_⟩
    have : { s.line l with openPanel := [] } = s.line l := by rw [← List.isEmpty_iff.mp h]
    rw [this]
    exact refl s l
  · split
    · exact ⟨_, _, (setLine s l _).raiseIf ..⟩
    · refine ⟨(s.line l).panelQueue, advanceCounter (s.line l).panelCounter, ?_⟩
      obtain ⟨g, e⟩ := s.abandonAll_only_grading ((s.line l).openPanel.map (·.sheet))
      rw [e]
      exact setLine s l _

theorem reportDraw (l : Line) (r : DrawResult) (s : State) :
    ∃ res, LineNow l { s.line l with lastDraw := res } s (reportDraw l r s) := by
  unfold Machine.reportDraw
  split
  · split
    · exact ⟨some r, (setLine s l _).raise _⟩
    · exact ⟨_, refl s l⟩
  · exact ⟨_, refl s l⟩

theorem completeStep (l : Line) (next : Fin 16) (stop : Bool) (s : State) :
    ∃ pointer exec, ((s.line l).exec = .hold → exec = .hold) ∧
      LineNow l { (s.line l).stood with pointer := pointer, exec := exec } s (completeStep l next stop s) := by
  refine ⟨_, _, fun h => ?_, (setLine s l _).raiseIf ..⟩
  rw [h]
  unfold execAfter
  split
  · split <;> rfl
  · rfl
  · rfl

theorem faultLine (l : Line) (kind : LineFault) (s : State) :
    LineNow l { (s.line l).stood with activity := .fault, fault := some kind, exec := .hold } s (faultLine l kind s) :=
  (setLine s l _).raise _

theorem enterOff (l : Line) (s : State) :
    ∃ q n, LineNow l { (s.line l).turnedOff with openPanel := [], panelQueue := q, panelCounter := n } s (enterOff l s) := by
  obtain ⟨q, n, h⟩ := closePanelRecord l .abandoned true (s.setLine l (s.line l).turnedOff)
  rw [State.line_setLine_same] at h
  exact ⟨q, n, (setLine s l _).trans h⟩

end LineNow

theorem perLine_set_set_false {out : PerLine Bool} {l : Line} (hl : out.get l = false) :
    (out.set l true).set l false = out := perLine_ext fun m => by
  rw [set_get, set_get]
  split
  · next e => subst e; exact hl.symm
  · rfl

namespace Tops

variable {out : PerLine Bool} {due : Due} {s t : State} {l : Line} {y : LineState}

/-- A line that is out changes as it likes. -/
theorem lineNow (h : Tops out due s) (hl : out.get l = true) (k : LineNow l y s t) : Tops out due t :=
  (h.setLine hl y).of_eq k

/-- A line that is out rests again. -/
theorem rests (h : Tops out due s) (hl : out.get l = true) (k : LineNow l y s t) (hs : y.Sound)
    (ha : y.activity = .idle ∨ y.activity = .fault) : Tops (out.set l false) due t :=
  (h.lineNow hl k).rest hl (k.line ▸ hs) (k.line ▸ ha)

/-- A line that is out completes a step, or its draw, and stands. -/
theorem completes (h : Tops out due s) (hl : out.get l = true) (hf : (s.line l).Fits) (hn : (s.line l).fault = none)
    (next : Fin 16) (stop : Bool) : Tops (out.set l false) due (completeStep l next stop s) := by
  obtain ⟨pointer, exec, he, hk⟩ := LineNow.completeStep l next stop s
  exact h.rests hl hk (.of_idle ⟨rfl, rfl, rfl, rfl, rfl, rfl, rfl⟩ ⟨fun hm => he (hf.held hm), hf.plies, hf.off⟩ rfl hn)
    (.inl rfl)

theorem faults (h : Tops out due s) (hl : out.get l = true) (hp : (s.line l).openPanel.length ≤ Config.panelPlies)
    (hm : (s.line l).mode ≠ .off) (kind : LineFault) : Tops (out.set l false) due (faultLine l kind s) :=
  h.rests hl (.faultLine l kind s)
    (.of_fault ⟨rfl, rfl, rfl, rfl, rfl, rfl, rfl⟩ ⟨fun _ => rfl, hp, fun e => absurd e hm⟩ rfl (Option.some_ne_none kind) hm) (.inr rfl)

theorem entersOff (h : Tops out due s) (hl : out.get l = true) : Tops (out.set l false) due (enterOff l s) := by
  obtain ⟨q, n, hk⟩ := LineNow.enterOff l s
  exact h.rests hl hk (.of_idle ⟨rfl, rfl, rfl, rfl, rfl, rfl, rfl⟩ ⟨fun _ => rfl, Nat.zero_le _, fun _ => rfl⟩ rfl rfl) (.inl rfl)

/-- A line that is out stands. -/
theorem stands (h : Tops out due s) (hl : out.get l = true) {x : LineState} (k : LineNow l x.stood s t) (hf : x.Fits)
    (hn : x.fault = none) : Tops (out.set l false) due t :=
  h.rests hl k (.of_idle x.stood_free ⟨hf.held, hf.plies, hf.off⟩ rfl hn) (.inl rfl)

/-- A sound line that is neither at a top nor on its way to one is taken out. -/
theorem takeIdle (h : Tops out due s) (ha : (s.line l).activity ≠ .picking ∧ (s.line l).activity ≠ .stopping ∧
    (s.line l).activity ≠ .waitingTop) : Tops (out.set l true) due s :=
  h.takeOut (heldStack_none ha.1 ha.2.1) (waitsAt_none ha.2.2)

/-- The line is taken off the stack it waits at, if it waits, and is out. -/
theorem withdraws (h : Tops out due s) (hl : out.get l = false)
    (ha : (s.line l).activity ≠ .picking ∧ (s.line l).activity ≠ .stopping) :
    Tops (out.set l true) due (withdrawLine l s) := by
  by_cases hw : (s.line l).activity = .waitingTop
  · have hs := h.lines l hl
    obtain ⟨d, hd⟩ := Option.ne_none_iff_exists'.mp (hs.drawing.mpr (.inl hw))
    obtain ⟨k, hk⟩ := Option.ne_none_iff_exists'.mp
      (show d.stack ≠ none from fun e => by simpa [hw] using (hs.placed d hd).2.mp e)
    have hat : waitsAt (s.line l) = some (k, d.grades) := waitsAt_eq_some.mpr ⟨hw, d, hd, hk, rfl⟩
    have he : withdrawLine l s = leaveWaiters l k s := by
      unfold withdrawLine
      simp [hw, hd, hk]
    rw [he]
    refine h.leave ?_
    rw [(h.waiters k l d.grades).mpr ⟨hl, hat⟩]
    nofun
  · have he : withdrawLine l s = s := by
      unfold withdrawLine
      split
      · next e _ => exact absurd e hw
      · rfl
    rw [he]
    exact h.takeIdle ⟨ha.1, ha.2, hw⟩

/-- The pick of a line is over at its top and its output; the line is out. -/
theorem unpicks {k : StackId} (h : Tops out due s) (hl : out.get l = false) (hk : heldStack (s.line l) = some k) :
    Tops (out.set l true) { due with free := k :: due.free } (clearPick l k s) :=
  (h.release hl hk).setLine (by simp) _

end Tops

/-! ## Steps (R148 to R152) -/

/-- A line in RUN, not held, that stands where a step can begin (R143). -/
structure LineState.CanBegin (y : LineState) : Prop where
  idle : y.activity = .idle
  free : y.Free
  mode : y.mode = .run
  exec : y.exec ≠ .hold
  fault : y.fault = none
  plies : y.openPanel.length ≤ Config.panelPlies

theorem LineState.Sound.canBegin {y : LineState} (h : y.Sound) (ha : y.activity = .idle) (hm : y.mode = .run)
    (x : Exec) (hx : x ≠ .hold) : LineState.CanBegin { y with exec := x } :=
  have hf := h.free (.inl ha)
  ⟨ha, ⟨hf.step, hf.draw, hf.timer, hf.starve, hf.noted, hf.req, hf.emptied⟩, hm, hx, h.fault_none (by simp [ha]), h.plies.1⟩

namespace Tops

variable {out : PerLine Bool} {due : Due} {s t : State} {l : Line} {y : LineState}

/-- The latch of a line is set, or its AWAIT ends (R151). -/
theorem signalLatch (h : Tops out due s) (hl : out.get l = false) : Tops out due (signalLatch l s) := by
  unfold Machine.signalLatch
  dsimp only
  split
  · next ha =>
    have hs := h.lines l hl
    have := (h.takeIdle (l := l) (by simp [ha])).completes (by simp) hs.fits (hs.fault_none (by simp [ha]))
      ((s.line l).pointer + 1) false
    rwa [perLine_set_set_false hl] at this
  · next ha => exact h.replace (fun hs => { hs with awaits := fun e => absurd e ha }) rfl id

theorem beginDraw (h : Tops out due s) (hl : out.get l = true) (ha : Awake s) {d : Draw}
    (hd : d.grades ≠ 0) (hfree : (s.line l).pickTimer = none ∧ (s.line l).pickReq = none ∧ (s.line l).emptied = false)
    (hidle : (s.line l).activity ≠ .stopping ∧ (s.line l).activity ≠ .starved)
    (hp : d.origin = .ply → (s.line l).mode = .run ∧ (s.line l).step ≠ none ∧
      (s.line l).pattern[(s.line l).pointer] = .ply d.grades d.role d.pref)
    (hdir : d.origin = .direct → (s.line l).mode = .direct ∧ (s.line l).step = none)
    (hrun : (s.line l).step ≠ none → (s.line l).mode = .run) (hheld : (s.line l).mode ≠ .run → (s.line l).exec = .hold)
    (hexec : (s.line l).mode = .run → (s.line l).exec ≠ .hold) (hn : (s.line l).fault = none)
    (hplies : (s.line l).openPanel.length ≤ Config.panelPlies) :
    Tops (out.set l false) due (beginDraw l d s) := by
  have ht : Tops out due (s.setLine l { s.line l with draw := some d }) := h.setLine hl _
  unfold Machine.beginDraw
  dsimp only
  split
  · obtain ⟨res, hk⟩ := LineNow.reportDraw l .aborted (s.setLine l { s.line l with draw := some d })
    refine (ht.lineNow hl hk).faults hl ?_ ?_ .overlength
    · rw [hk.line, State.line_setLine_same]; exact hplies
    · rw [hk.line, State.line_setLine_same]
      intro hoff
      have hoff : (s.line l).mode = .off := hoff
      cases ho : d.origin with
      | ply => simp [(hp ho).1] at hoff
      | direct => simp [(hdir ho).1] at hoff
  · next hroom =>
    refine ht.select hl ?_ ha ?_
    · rw [State.line_setLine_same]
      exact
        { drawing := ⟨d, rfl, hd, hp, hdir⟩
          room := not_le.mp hroom
          running := hrun
          held := hheld
          fault := hn
          timer := hfree.1
          req := hfree.2.1
          emptied := hfree.2.2
          going := hidle.1
          starved := fun e => absurd e hidle.2 }
    · rw [State.line_setLine_same]; exact hexec

end Tops

theorem signalLatch_line_other {l m : Line} (s : State) (h : m ≠ l) : (Machine.signalLatch l s).line m = s.line m := by
  unfold signalLatch
  dsimp only
  split
  · obtain ⟨_, _, -, hk⟩ := LineNow.completeStep l ((s.line l).pointer + 1) false s
    exact hk.other h
  · exact State.line_setLine_other _ _ h

theorem otherLine_ne (l : Line) : l ≠ otherLine l := by cases l <;> nofun

/-- A line in the middle of a step begun where it could begin. -/
structure LineState.InStep (y : LineState) : Prop where
  idle : y.activity = .idle
  step : y.step ≠ none
  draw : y.draw = none
  timer : y.pickTimer = none
  starve : y.starveTimer = none
  noted : y.starveNoted = false
  req : y.pickReq = none
  emptied : y.emptied = false
  mode : y.mode = .run
  exec : y.exec ≠ .hold
  fault : y.fault = none
  plies : y.openPanel.length ≤ Config.panelPlies

theorem LineState.CanBegin.inStep {y : LineState} (h : y.CanBegin) (m : Manner) :
    LineState.InStep { y with step := some m } :=
  ⟨h.idle, Option.some_ne_none m, h.free.draw, h.free.timer, h.free.starve, h.free.noted, h.free.req, h.free.emptied,
    h.mode, h.exec, h.fault, h.plies⟩

theorem LineState.InStep.fits {y : LineState} (h : y.InStep) : y.Fits :=
  ⟨fun e => absurd h.mode e, h.plies, fun e => by simp [h.mode] at e⟩

theorem LineState.InStep.on {y : LineState} (h : y.InStep) : y.mode ≠ .off := by simp [h.mode]

namespace Tops

variable {out : PerLine Bool} {due : Due} {s t : State} {l : Line} {y : LineState}

/-- A line that is out goes on in its step, waiting for a signal or a place in its panel queue. -/
theorem awaits (h : Tops out due s) (hl : out.get l = true) (ha : Awake s) (hs : y.Sound)
    (hy : y.activity = .awaiting ∨ y.activity = .waitRecord) : Tops (out.set l false) due (s.setLine l y) :=
  (h.setLine hl y).putBack hl (by rwa [State.line_setLine_same])
    (by rw [State.line_setLine_same]; exact heldStack_none (by rcases hy with e | e <;> simp [e]) (by rcases hy with e | e <;> simp [e]))
    (by rw [State.line_setLine_same]; exact waitsAt_none (by rcases hy with e | e <;> simp [e]))
    fun hq => absurd hq (awake_not ha)

theorem plyStep (h : Tops out due s) (hl : out.get l = true) (ha : Awake s) (hi : (s.line l).InStep) {g : GradeSet}
    {role : Role} {pref : Preference} (hp : (s.line l).pattern[(s.line l).pointer] = .ply g role pref) :
    Tops (out.set l false) due (plyStep l g role pref s) := by
  unfold Machine.plyStep
  split
  · exact h.faults hl hi.plies hi.on .badStep
  · next hg =>
    exact h.beginDraw hl ha hg ⟨hi.timer, hi.req, hi.emptied⟩ (by simp [hi.idle]) (fun _ => ⟨hi.mode, hi.step, hp⟩) nofun
      (fun _ => hi.mode) (fun e => absurd hi.mode e) (fun _ => hi.exec) hi.fault hi.plies

theorem finishPanelEnd (h : Tops out due s) (hl : out.get l = true) (hf : (s.line l).Fits) (hn : (s.line l).fault = none)
    (notice : Bool) (after : After) : Tops (out.set l false) due (finishPanelEnd l notice after s) := by
  obtain ⟨q, n, hk⟩ := LineNow.closePanelRecord l .complete notice s
  refine (h.lineNow hl hk).completes hl ?_ ?_ _ _
  · rw [hk.line]; exact ⟨hf.held, Nat.zero_le _, fun _ => rfl⟩
  · rw [hk.line]; exact hn

theorem panelEndStep (h : Tops out due s) (hl : out.get l = true) (ha : Awake s) (hi : (s.line l).InStep) {notice : Bool}
    {after : After} (hp : (s.line l).pattern[(s.line l).pointer] = .panelEnd notice after) :
    Tops (out.set l false) due (panelEndStep l notice after s) := by
  unfold Machine.panelEndStep
  split
  · exact h.finishPanelEnd hl hi.fits hi.fault notice after
  · next hc =>
    simp only [LineState.canClose, Bool.or_eq_true, List.isEmpty_iff, decide_eq_true_eq, not_or, not_lt] at hc
    exact h.awaits hl ha (.of_step (.inr rfl) hi.step hi.draw hi.timer hi.starve hi.noted hi.req hi.emptied hi.fault hi.mode
      hi.exec hi.plies nofun fun _ => ⟨hc.1, hc.2, notice, after, hp⟩) (.inr rfl)

theorem awaitStep (h : Tops out due s) (hl : out.get l = true) (ha : Awake s) (hi : (s.line l).InStep) {kept : KeptBytes}
    (hp : (s.line l).pattern[(s.line l).pointer] = .await kept) : Tops (out.set l false) due (awaitStep l s) := by
  unfold Machine.awaitStep
  dsimp only
  split
  · refine (h.setLine hl _).completes hl ?_ ?_ _ _
    · rw [State.line_setLine_same]; exact ⟨hi.fits.held, hi.plies, hi.fits.off⟩
    · rw [State.line_setLine_same]; exact hi.fault
  · next hn =>
    exact h.awaits hl ha (.of_step (.inl rfl) hi.step hi.draw hi.timer hi.starve hi.noted hi.req hi.emptied hi.fault hi.mode
      hi.exec hi.plies (fun _ => ⟨by simpa using hn, kept, hp⟩) nofun) (.inl rfl)

theorem loopStep (h : Tops out due s) (hl : out.get l = true) (hi : (s.line l).InStep) (target : Fin 16) (count : Fin 64) :
    Tops (out.set l false) due (loopStep l target count s) := by
  refine (h.setLine hl _).completes hl ?_ ?_ _ _
  · rw [State.line_setLine_same]; exact ⟨hi.fits.held, hi.plies, hi.fits.off⟩
  · rw [State.line_setLine_same]; exact hi.fault

/-- The step at the pointer is begun (R143, R148 to R152). -/
theorem beginStep (h : Tops out due s) (hl : out.get l = true) (ho : out.get (otherLine l) = false) (ha : Awake s)
    (hc : (s.line l).CanBegin) (m : Manner) : Tops (out.set l false) due (beginStep l m s) := by
  have ht : Tops out due (s.setLine l { s.line l with step := some m }) := h.setLine hl _
  have hi : ((s.setLine l { s.line l with step := some m }).line l).InStep := by
    rw [State.line_setLine_same]; exact hc.inStep m
  have hx : ((s.setLine l { s.line l with step := some m }).line l).pattern[((s.setLine l { s.line l with step := some m }).line l).pointer]
      = (s.line l).pattern[(s.line l).pointer] := by simp
  unfold Machine.beginStep
  dsimp only
  split
  · exact ht.faults hl hi.plies hi.on .blankStep
  · next hp => exact ht.plyStep hl ha hi (hx.trans hp)
  · exact ht.loopStep hl hi _ _
  · next hp => exact ht.panelEndStep hl ha hi (hx.trans hp)
  · refine (ht.signalLatch ho).completes hl ?_ ?_ _ _
    · rw [signalLatch_line_other _ (otherLine_ne l)]; exact hi.fits
    · rw [signalLatch_line_other _ (otherLine_ne l)]; exact hi.fault
  · next hp => exact ht.awaitStep hl ha hi (hx.trans hp)
  · exact ht.faults hl hi.plies hi.on .badStep

end Tops

/-! ## Requests of a line (R139 to R154, R166 to R172) -/

/-- A line that rests stays sound while only its program and panels change. -/
theorem LineState.Sound.resting_of_eq {y z : LineState} (h : y.Sound) (ha : y.activity = .idle ∨ y.activity = .fault)
    (he : (z.activity, z.fault, z.step, z.draw, z.pickTimer, z.starveTimer, z.starveNoted, z.pickReq, z.emptied) =
      (y.activity, y.fault, y.step, y.draw, y.pickTimer, y.starveTimer, y.starveNoted, y.pickReq, y.emptied))
    (ht : z.Fits) (hm : z.mode = .off → y.mode = .off) : z.Sound := by
  simp only [Prod.mk.injEq] at he
  obtain ⟨e1, e2, e3, e4, e5, e6, e7, e8, e9⟩ := he
  have hf := h.free ha
  have hz : z.Free := ⟨e3.trans hf.step, e4.trans hf.draw, e5.trans hf.timer, e6.trans hf.starve, e7.trans hf.noted,
    e8.trans hf.req, e9.trans hf.emptied⟩
  rcases ha with ha | ha
  · exact .of_idle hz ht (e1.trans ha) (e2.trans (h.fault_none (by simp [ha])))
  · exact .of_fault hz ht (e1.trans ha) (e2 ▸ h.faulty.mpr ha) fun hoff => by
      simpa [ha] using (h.off (hm hoff)).1

/-- In RUN under exec HOLD, a line that is not faulted or STOPPING and has no step in progress is idle (R145). -/
theorem LineState.Sound.idle_of_held {y : LineState} (h : y.Sound) (hm : y.mode = .run) (hx : y.exec = .hold)
    (hf : y.activity ≠ .fault) (hs : y.activity ≠ .stopping) (hn : y.step = none) : y.activity = .idle := by
  obtain ⟨hw, hst, haw, hwr⟩ := h.waits hm hx
  cases ha : y.activity with
  | idle => rfl
  | waitingTop => exact absurd ha hw
  | starved => exact absurd ha hst
  | awaiting => exact absurd ha haw
  | waitRecord => exact absurd ha hwr
  | stopping => exact absurd ha hs
  | fault => exact absurd ha hf
  | picking =>
    obtain ⟨d, hd⟩ := Option.ne_none_iff_exists'.mp (h.drawing.mpr (by simp [ha]))
    cases ho : d.origin with
    | ply => exact absurd hn ((h.ply d hd ho).2.1 hs)
    | direct => simpa [hm] using (h.direct d hd ho).1

/-- Beyond RUN, a line with no draw and not STOPPING rests. -/
theorem LineState.Sound.rests_of_no_draw {y : LineState} (h : y.Sound) (hm : y.mode ≠ .run) (hd : y.draw = none) :
    y.activity = .idle ∨ y.activity = .fault := by
  have hn := mt h.drawing.mpr (not_not.mpr hd)
  simp only [not_or] at hn
  obtain ⟨h1, h2, h3, h4⟩ := hn
  cases ha : y.activity with
  | idle => exact .inl rfl
  | fault => exact .inr rfl
  | waitingTop => exact absurd ha h1
  | picking => exact absurd ha h2
  | starved => exact absurd ha h3
  | stopping => exact absurd ha h4
  | awaiting => exact absurd (h.running (h.awaits ha).1) hm
  | waitRecord => exact absurd (h.running (h.closes ha).1) hm

namespace Tops

variable {due : Due} {s t : State} {l : Line} {y : LineState}

/-- A line changes where it stands. -/
theorem replaced {out : PerLine Bool} (h : Tops out due s) (k : LineNow l y s t) (hs : (s.line l).Sound → y.Sound)
    (he : (heldStack y, waitsAt y, y.draw) = (heldStack (s.line l), waitsAt (s.line l), (s.line l).draw))
    (hq : (s.line l).activity = .idle ∨ (s.line l).activity = .fault → y.activity = .idle ∨ y.activity = .fault) :
    Tops out due t := (h.replace hs he hq).of_eq k

/-- The program or the panels of a line that rests change. -/
theorem programs {out : PerLine Bool} (h : Tops out due s) (k : LineNow l y s t)
    (ha : (s.line l).activity = .idle ∨ (s.line l).activity = .fault)
    (he : (y.activity, y.fault, y.step, y.draw, y.pickTimer, y.starveTimer, y.starveNoted, y.pickReq, y.emptied) =
      ((s.line l).activity, (s.line l).fault, (s.line l).step, (s.line l).draw, (s.line l).pickTimer,
        (s.line l).starveTimer, (s.line l).starveNoted, (s.line l).pickReq, (s.line l).emptied))
    (ht : (s.line l).Sound → y.Fits) (hm : y.mode = .off → (s.line l).mode = .off) : Tops out due t := by
  have hact : y.activity = (s.line l).activity := congrArg (·.1) he
  have hd : y.draw = (s.line l).draw := by simp only [Prod.mk.injEq] at he; exact he.2.2.2.1
  refine h.replaced k (fun hs => hs.resting_of_eq ha he (ht hs) hm) ?_ fun e => hact ▸ e
  rw [heldStack_none (by rcases ha with e | e <;> simp [hact, e]) (by rcases ha with e | e <;> simp [hact, e]),
    heldStack_none (by rcases ha with e | e <;> simp [e]) (by rcases ha with e | e <;> simp [e]),
    waitsAt_none (by rcases ha with e | e <;> simp [hact, e]), waitsAt_none (by rcases ha with e | e <;> simp [e]), hd]

end Tops

namespace TopsSound

variable {s t : State} {l : Line}

theorem tops (h : TopsSound s) : Tops noLines {} s := topsSound_iff.mp h

theorem of_tops (h : Tops noLines {} s) : TopsSound s := topsSound_iff.mpr h

theorem of_back (h : Tops ((noLines.set l true).set l false) {} s) : TopsSound s := by
  rw [perLine_set_set_false (noLines_get l)] at h
  exact .of_tops h

/-- A wait is stopped under exec HOLD (R145). -/
theorem stopWait (h : TopsSound s) (ha : (s.line l).activity ≠ .picking ∧ (s.line l).activity ≠ .stopping)
    (hf : (s.line l).activity ≠ .fault) : TopsSound (stopWait l s) := by
  have hs := h.lines l
  refine .of_back (l := l) ((h.tops.withdraws (noLines_get l) ha).rests (by simp) (.setLine _ _ _)
    (.of_idle ⟨rfl, rfl, rfl, rfl, rfl, rfl, rfl⟩ ⟨fun _ => rfl, ?_, ?_⟩ rfl ?_) (.inl rfl))
  · rw [withdrawLine_line]; exact hs.fits.plies
  · rw [withdrawLine_line]; exact hs.fits.off
  · rw [withdrawLine_line]; exact hs.fault_none hf

theorem holdLine (h : TopsSound s) : TopsSound (holdLine l s) := by
  have keep (ha : (s.line l).activity = .idle ∨ (s.line l).activity = .picking ∨ (s.line l).activity = .stopping ∨
      (s.line l).activity = .fault) : TopsSound (s.setLine l { s.line l with exec := .hold }) :=
    .of_tops (h.tops.replace (fun hs => { hs with
      held := fun _ => rfl
      stopping := fun _ => rfl
      waits := fun _ _ => by rcases ha with e | e | e | e <;> simp [e] }) rfl id)
  unfold Machine.holdLine
  split
  · next ha => exact h.stopWait (by simp [ha]) (by simp [ha])
  · next ha => exact h.stopWait (by simp [ha]) (by simp [ha])
  · next ha => exact h.stopWait (by simp [ha]) (by simp [ha])
  · next ha => exact h.stopWait (by simp [ha]) (by simp [ha])
  · next ha => exact keep (.inl ha)
  · next ha => exact keep (.inr (.inl ha))
  · next ha => exact keep (.inr (.inr (.inl ha)))
  · next ha => exact keep (.inr (.inr (.inr ha)))

/-- A step is begun on an idle line in RUN, whatever its exec is set to but HOLD. -/
theorem beginStep (h : TopsSound s) (ha : (s.line l).activity = .idle) (hm : (s.line l).mode = .run) (hw : Awake s)
    (x : Exec) (hx : x ≠ .hold) (m : Manner) : TopsSound (beginStep l m (s.setLine l { s.line l with exec := x })) := by
  refine .of_back (l := l) (Tops.beginStep ((h.tops.takeIdle (by simp [ha])).setLine (by simp) _) (by simp) ?_ hw ?_ m)
  · rw [PerLine.get_set_other _ _ (otherLine_ne l).symm]; exact noLines_get _
  · rw [State.line_setLine_same]; exact (h.lines l).canBegin ha hm x hx

theorem runLine (h : TopsSound s) (hm : (s.line l).mode = .run) (hw : Awake s) (hf : (s.line l).activity ≠ .fault)
    (hs : (s.line l).activity ≠ .stopping) (hx : (s.line l).exec = .run ∨ (s.line l).exec = .hold) :
    TopsSound (runLine l s) := by
  unfold Machine.runLine
  dsimp only
  split
  · exact h
  · next hn =>
    have hx : (s.line l).exec = .hold := hx.resolve_left hn
    split
    · next hst =>
      exact h.beginStep ((h.lines l).idle_of_held hm hx hf hs (Option.isNone_iff_eq_none.mp hst)) hm hw .run nofun .walk
    · exact .of_tops (h.tops.replace (fun hy => { hy with
        held := fun e => absurd hm e
        stopping := fun e => absurd e hs
        waits := fun _ e => nomatch e }) rfl id)

theorem setExec (h : TopsSound s) {e : Exec} (hm : (s.line l).mode = .run) (hr : s.pins.resetHeld = false)
    (ht : execTaken (s.line l) s.estop e = true) : TopsSound (setExec l e s) := by
  unfold Machine.setExec
  cases e with
  | run =>
    simp only [execTaken, Bool.and_eq_true, Bool.not_eq_true', Bool.or_eq_true, decide_eq_true_eq] at ht
    obtain ⟨⟨⟨he, hf⟩, hs⟩, hx⟩ := ht
    exact h.runLine hm ⟨he, hr⟩ hf hs hx
  | hold => exact h.holdLine
  | step =>
    simp only [execTaken, Bool.and_eq_true, Bool.not_eq_true', decide_eq_true_eq] at ht
    exact h.beginStep ht.1.2 hm ⟨ht.1.1.1, hr⟩ .step nofun .step
  | once =>
    simp only [execTaken, Bool.and_eq_true, Bool.not_eq_true', decide_eq_true_eq] at ht
    exact h.beginStep ht.1.2 hm ⟨ht.1.1.1, hr⟩ .once nofun .once

theorem stepBegin (h : TopsSound s) (hr : s.pins.resetHeld = false) (hd : stepDue l s = true) :
    TopsSound (Machine.beginStep l .walk s) := by
  simp only [stepDue, Bool.and_eq_true, Bool.not_eq_true', decide_eq_true_eq] at hd
  obtain ⟨⟨⟨⟨hm, ha⟩, -⟩, hx⟩, he⟩ := hd
  have := h.beginStep ha hm ⟨he, hr⟩ (s.line l).exec (by simp [hx]) .walk
  have hself : s.setLine l { s.line l with exec := (s.line l).exec } = s := by
    cases l <;> simp [State.setLine, State.line, PerLine.set, PerLine.get]
  rwa [hself] at this

/-- A request for OFF (R141, R142). -/
theorem goOff (h : TopsSound s) (hn : (s.line l).activity ≠ .stopping) : TopsSound (goOff l s) := by
  unfold Machine.goOff
  split
  · next ha =>
    have hs := h.lines l
    refine .of_tops (h.tops.replace (fun hs => { hs with
      output := ?_
      timer := ?_
      drawing := ?_
      placed := fun d hd => ⟨(hs.placed d hd).1, ?_⟩
      ply := fun d hd ho => ⟨(hs.ply d hd ho).1, fun e => absurd rfl e, (hs.ply d hd ho).2.2⟩
      direct := fun d hd ho => ⟨(hs.direct d hd ho).1, rfl⟩
      running := fun e => absurd rfl e
      resting := fun _ => rfl
      emptied := fun _ => .inr rfl
      faulty := ?_
      starving := ⟨nofun, fun _ => hs.starving.2 (by simp [ha])⟩
      held := fun _ => rfl
      stopping := fun _ => rfl
      waits := fun _ _ => by simp
      awaits := nofun
      closes := nofun
      off := fun e => absurd (hs.off e).1 (by simp [ha])
      load := fun e => by simpa [ha] using hs.load e }) ?_ ?_)
    · simpa [heldStack, ha] using hs.output
    · simpa [ha] using hs.timer
    · simpa [ha] using hs.drawing
    · simpa [ha] using (hs.placed d hd).2
    · simpa [ha] using hs.faulty
    · simp [heldStack, waitsAt, ha]
    · simp [ha]
  · next hp =>
    obtain ⟨res, hk⟩ := LineNow.reportDraw l .cancelled (withdrawLine l s)
    exact .of_back (((h.tops.withdraws (noLines_get l) ⟨hp, hn⟩).lineNow (by simp) hk).entersOff (by simp))

theorem enterMode (h : TopsSound s) {m : LineMode} (hn : (s.line l).activity ≠ .stopping) (hm : m ≠ (s.line l).mode)
    (ht : modeTaken (s.line l).mode m (s.line l).activity = true) : TopsSound (enterMode l m s) := by
  have hs := h.lines l
  have rests (hoff : m ≠ .off) : (s.line l).activity = .idle ∨ (s.line l).activity = .fault := by
    cases hmode : (s.line l).mode with
    | off => exact .inl (hs.off hmode).1
    | load => exact hs.load hmode
    | run => cases m <;> simp_all [modeTaken]
    | direct => cases m <;> simp_all [modeTaken]
  unfold Machine.enterMode
  split
  · exact h.goOff hn
  · exact .of_tops (h.tops.programs (.setLine s l _) (rests nofun) rfl (fun hs => ⟨fun _ => rfl, hs.fits.plies, nofun⟩) nofun)
  · exact .of_tops (h.tops.programs (.setLine s l _) (rests nofun) rfl (fun hs => ⟨fun _ => rfl, hs.fits.plies, nofun⟩) nofun)
  · exact .of_tops (h.tops.programs (.setLine s l _) (rests nofun) rfl (fun hs => ⟨fun _ => rfl, hs.fits.plies, nofun⟩) nofun)

theorem writesSteps (h : TopsSound s) (hm : (s.line l).mode = .load) (p : Vector PatternStep 16) :
    TopsSound (s.setLine l { s.line l with pattern := p }) :=
  .of_tops (h.tops.programs (.setLine s l _) ((h.lines l).load hm) rfl (fun hs => ⟨hs.held, hs.fits.plies, hs.fits.off⟩) id)

theorem movesPointer (h : TopsSound s) (hf : (s.line l).pointerFree = true) (n : Fin 16) :
    TopsSound (s.setLine l { s.line l with pointer := n }) := by
  simp only [LineState.pointerFree, Bool.and_eq_true, Bool.or_eq_true, decide_eq_true_eq] at hf
  exact .of_tops (h.tops.programs (.setLine s l _) hf.1.1 rfl (fun hs => ⟨hs.held, hs.fits.plies, hs.fits.off⟩) id)

theorem clearsFault (h : TopsSound s) (ha : (s.line l).activity = .fault) :
    TopsSound (s.setLine l { s.line l with activity := .idle, fault := none }) := by
  have hf := (h.lines l).free (.inr ha)
  refine .of_back (l := l) ((h.tops.takeIdle (by simp [ha])).rests (by simp) (.setLine s l _)
    (.of_idle ⟨hf.step, hf.draw, hf.timer, hf.starve, hf.noted, hf.req, hf.emptied⟩
      ⟨(h.lines l).held, (h.lines l).fits.plies, (h.lines l).fits.off⟩ rfl rfl) (.inl rfl))

theorem signalLatch (h : TopsSound s) : TopsSound (signalLatch l s) := .of_tops (h.tops.signalLatch (noLines_get l))

theorem draw (h : TopsSound s) (hw : Awake s) (hm : (s.line l).mode = .direct) (hf : (s.line l).activity ≠ .fault)
    (hd : (s.line l).draw = none) {d : Draw} (ho : d.origin = .direct) (hg : d.grades ≠ 0) :
    TopsSound (beginDraw l d s) := by
  have hs := h.lines l
  have ha : (s.line l).activity = .idle := (hs.rests_of_no_draw (by simp [hm]) hd).resolve_right hf
  have hfree := hs.free (.inl ha)
  exact .of_back ((h.tops.takeIdle (by simp [ha])).beginDraw (by simp) hw hg ⟨hfree.timer, hfree.req, hfree.emptied⟩
    (by simp [ha]) (fun e => nomatch ho.symm.trans e) (fun _ => ⟨hm, hfree.step⟩) hs.running hs.held (fun e => nomatch hm.symm.trans e)
    (hs.fault_none hf) hs.fits.plies)

theorem cancelDrawOn (h : TopsSound s) (ha : (s.line l).activity ≠ .picking) (hs : (s.line l).activity ≠ .stopping)
    (hf : (s.line l).activity ≠ .fault) : TopsSound (cancelDrawOn l s) := by
  have hy := h.lines l
  obtain ⟨res, hk⟩ := LineNow.reportDraw l .cancelled (withdrawLine l s)
  refine .of_back (l := l) (((h.tops.withdraws (noLines_get l) ⟨ha, hs⟩).lineNow (by simp) hk).stands (by simp)
    (.setLine _ _ _) ?_ ?_)
  · rw [hk.line, withdrawLine_line]; exact ⟨hy.held, hy.fits.plies, hy.fits.off⟩
  · rw [hk.line, withdrawLine_line]; exact hy.fault_none hf

theorem closePanelRecord (h : TopsSound s) (ha : (s.line l).activity = .idle ∨ (s.line l).activity = .fault)
    (st : PanelStatus) (ready : Bool) : TopsSound (closePanelRecord l st ready s) := by
  obtain ⟨q, n, hk⟩ := LineNow.closePanelRecord l st ready s
  exact .of_tops (h.tops.programs hk ha rfl (fun hs => ⟨hs.held, Nat.zero_le _, fun _ => rfl⟩) id)

/-- A panel leaves the queue, and a line in WAIT_RECORD closes its own into the place (R170, R172). -/
theorem takePanel (h : TopsSound s) (rs : List SheetRecord) (rest : List PanelRecord) :
    TopsSound (closeWaiting l ((s.abandonAll rs).setLine l { s.line l with panelQueue := rest })) := by
  have hs := h.lines l
  have hab := h.tops.abandonAll rs
  unfold closeWaiting
  dsimp only
  split
  · next ha _ =>
    rw [State.line_setLine_same] at ha
    have ha : (s.line l).activity = .waitRecord := ha
    have hout : Tops (noLines.set l true) {} (s.abandonAll rs) := hab.takeIdle (by simp [ha])
    replace hout := hout.setLine (l := l) (by simp) { s.line l with panelQueue := rest }
    refine .of_back (hout.finishPanelEnd (by simp) ?_ ?_ _ _)
    · rw [State.line_setLine_same]; exact ⟨hs.held, hs.fits.plies, hs.fits.off⟩
    · rw [State.line_setLine_same]; exact hs.fault_none (by simp [ha])
  · next hn =>
    refine .of_tops (hab.replaced (.setLine _ l _) (fun _ => { hs with closes := fun ha => ?_ }) ?_ ?_)
    · obtain ⟨-, -, -, notice, after, hp⟩ := hs.closes ha
      refine (hn notice after ?_ ?_).elim
      · rw [State.line_setLine_same]; exact ha
      · simpa using hp
    · rw [State.line_abandonAll]; rfl
    · rw [State.line_abandonAll]; exact id

theorem noticeStarved (h : TopsSound s) : TopsSound (noticeStarved l s) := by
  unfold Machine.noticeStarved
  split
  · next hd =>
    simp only [starveDue, Bool.and_eq_true, decide_eq_true_eq] at hd
    have ha := hd.1.1.1
    have ht : Tops noLines {} (s.setLine l { s.line l with starveTimer := none, starveNoted := true }) :=
      h.tops.replace (fun hs => { hs with starving := ⟨fun _ => ⟨fun _ => rfl, fun _ => rfl⟩, fun e => absurd ha e⟩ }) rfl id
    exact .of_tops (ht.raise _)
  · exact h

theorem markEmptied (h : TopsSound s) : TopsSound (markEmptied l s) := by
  unfold Machine.markEmptied
  split
  · next ha => exact .of_tops (h.tops.replace (fun hs => { hs with emptied := fun _ => .inl ha }) rfl id)
  · exact h

end TopsSound

end Sys2Proof.Machine
end

section
/-!
PROOFS. Picks, drops, landings and stack requests keep the lines and the stack tops in agreement.
-/

namespace Sys2Proof.Machine

open Tops (Awake awake_not awake_of_pins)

/-! ## Ends of a pick (R134, R162 to R164) -/

/-- An event that has changed the state, but for the stacks it has freed and drained, settles with the agreement whole. -/
theorem Tops.settles {F D : List StackId} {s : State} (h : Tops noLines { free := F, drain := D } s) {e : StackEvent}
    (he : TopsEvent noLines { free := F, drain := D } (.of s) → TopsEvent noLines {} e) : TopsSound e.settle :=
  (he (.of_tops h rfl)).settle

namespace TopsSound

variable {s t : State} {l : Line} {k : StackId}

/-- The line of a pick whose top is given up, with what it was to draw. -/
theorem pick (h : TopsSound s) (hk : heldStack (s.line l) = some k) :
    ((s.line l).activity = .picking ∨ (s.line l).activity = .stopping) ∧ ∃ d, (s.line l).draw = some d ∧
      Tops (noLines.set l true) { free := [k] } (clearPick l k s) := by
  obtain ⟨ha, d, hd, -⟩ := heldStack_eq_some.mp hk
  exact ⟨ha, d, hd, h.tops.unpicks (noLines_get l) hk⟩

/-- What a pick's end leaves of its line: nothing bears on the mode or the activity. -/
theorem movePly_line (l : Line) (k : StackId) (s : State) :
    ∃ ps, (movePly l k s).line l = { s.line l with openPanel := ps } ∧ ps.length ≤ (s.line l).openPanel.length + 1 := by
  unfold movePly
  split
  · exact ⟨_, State.line_setLine_same .., (List.length_append ..).le⟩
  · exact ⟨_, rfl, Nat.le_succ _⟩

theorem movePly (h : Tops (noLines.set l true) { free := [k] } s) (hh : (s.stack k).holder = none) :
    Tops (noLines.set l true) { free := [k], drain := [k] } (movePly l k s) := by
  unfold Machine.movePly
  split
  · next r rest d _ _ =>
    have ht : Tops (noLines.set l true) { free := [k, k], drain := [k] }
        (s.setStack k { s.stack k with inventory := rest }) := h.setStack rfl fun hn => absurd hh hn
    exact (ht.setLine (PerLine.get_set_same ..) _).weaken (by simp) (List.Subset.refl _) (List.Subset.refl _)
      (List.Subset.refl _)
  · exact h.weaken (List.Subset.refl _) (List.nil_subset _) (List.Subset.refl _) (List.Subset.refl _)

/-- The draw of a pick that is over ends with its sheet (R162). -/
theorem finishDraw {due : Due} (h : Tops (noLines.set l true) due s)
    (hf : (s.line l).activity ≠ .stopping → (s.line l).Fits ∧ (s.line l).fault = none) :
    Tops noLines due (finishDraw l s) := by
  have back {t : State} (ht : Tops ((noLines.set l true).set l false) due t) : Tops noLines due t := by
    rwa [perLine_set_set_false (noLines_get l)] at ht
  obtain ⟨res, hk⟩ := LineNow.reportDraw l .done s
  unfold Machine.finishDraw
  dsimp only
  split
  · exact back ((h.lineNow (by simp) hk).entersOff (by simp))
  · next hn =>
    obtain ⟨hfit, hfault⟩ := hf hn
    split
    · exact back (h.completes (by simp) hfit hfault _ _)
    · refine back ((h.lineNow (by simp) hk).stands (by simp) (.setLine _ _ _) ?_ ?_)
      · rw [hk.line]; exact ⟨hfit.held, hfit.plies, hfit.off⟩
      · rw [hk.line]; exact hfault

theorem pickDoneOn (h : TopsSound s) (hk : heldStack (s.line l) = some k) : TopsSound (pickDoneOn l k s) := by
  obtain ⟨ha, d, hd, hc⟩ := h.pick hk
  have hs := h.lines l
  have hm := movePly hc (by unfold clearPick; simp)
  obtain ⟨ps, hline, hps⟩ := movePly_line l k (clearPick l k s)
  rw [clearPick_line] at hline hps
  have ht : Tops noLines { free := [k], drain := [k] } (Machine.finishDraw l (Machine.movePly l k (clearPick l k s))) := by
    refine finishDraw hm fun hn => ?_
    rw [hline] at hn ⊢
    have hp : (s.line l).activity = .picking := ha.resolve_right hn
    exact ⟨⟨hs.held, hps.trans (hs.plies.2 (by simp [hd])), fun e => absurd (hs.off e).1 (by simp [hp])⟩,
      hs.fault_none (by simp [hp])⟩
  exact ht.settles fun e => TopsEvent.grantCheck (due := {}) (F := [])
    (TopsEvent.drainClose (due := { free := [k] }) (D := []) (e.announceTo _))

/-- A PICK_DONE that may be stray (assumption 30). -/
theorem pickDoneAfterEmpty (h : TopsSound s) (hk : heldStack (s.line l) = some k) :
    TopsSound (pickDoneAfterEmpty l k s) := by
  have ht : TopsSound ({ s with choices := s.choices + 1 }.setLine l { s.line l with emptied := false }) := by
    have hc : Tops noLines {} { s with choices := s.choices + 1 } := h.tops.of_eq rfl
    exact .of_tops (hc.replace (fun hs => { hs with emptied := nofun }) rfl id)
  unfold Machine.pickDoneAfterEmpty
  dsimp only
  split
  · exact .of_tops (ht.tops.raise _)
  · exact ht.pickDoneOn (by rw [State.line_setLine_same]; exact hk)

/-- The line's own outcome of a PICK_EMPTY: it is told to reselect, or it enters OFF (R163). -/
theorem emptyHanded {e : StackEvent} (h : TopsEvent (noLines.set l true) {} e)
    (hr : (e.st.line l).activity ≠ .stopping → (e.st.line l).Reselects ∧ Awake e.st) :
    TopsEvent noLines {} (emptyHanded l e) := by
  have htops := h.tops
  have hswap : eitherOut e.told (noLines.set l true) = e.told.set l true := perLine_ext fun m => by
    rw [eitherOut_get, set_get, set_get, noLines_get]
    split <;> simp
  rw [hswap] at htops
  unfold Machine.emptyHanded
  split
  · next hst =>
    have hnot : e.told.get l = false := by
      by_contra hn
      exact (h.told l (by simpa using hn)).1.going hst
    obtain ⟨res, hk⟩ := LineNow.reportDraw l .aborted e.st
    obtain ⟨q, n, hoff⟩ := LineNow.enterOff l (reportDraw l .aborted e.st)
    refine ⟨?_, fun m hm => ?_, rfl⟩
    · have ht := (htops.lineNow (PerLine.get_set_same ..) hk).entersOff (PerLine.get_set_same ..)
      rw [perLine_set_set_false hnot] at ht
      rw [eitherOut_noLines]
      exact ht
    · have hml : m ≠ l := by
        rintro rfl
        simp [hnot] at hm
      obtain ⟨h1, h2⟩ := h.told m hm
      refine ⟨?_, awake_of_pins (hoff.pins.trans hk.pins) h2⟩
      rw [hoff.other hml, hk.other hml]
      exact h1
  · next hst =>
    refine ⟨?_, fun m hm => ?_, rfl⟩
    · rw [eitherOut_noLines]
      exact htops
    · rw [set_get] at hm
      split at hm
      · next e' => subst e'; exact hr hst
      · exact h.told m hm

theorem pickEmptyOn (h : TopsSound s) (hk : heldStack (s.line l) = some k) : TopsSound (pickEmptyOn l k s) := by
  obtain ⟨ha, d, hd, hc⟩ := h.pick hk
  have he : TopsEvent (noLines.set l true) { free := [k] } (.of ((clearPick l k s).raise .stackFault)) :=
    .of_tops (hc.raise _) rfl
  have hshut := he.shut (k := k) (.inr rfl)
  have hstop : (((StackEvent.of ((clearPick l k s).raise .stackFault)).setState k .faulted).st.stack k).serving = false := by
    unfold Stack.serving
    rw [TopsEvent.setState_state]
  have hfree : TopsEvent (noLines.set l true) {} ((StackEvent.of ((clearPick l k s).raise .stackFault)).setState k .faulted) :=
    hshut.dues (fun ht => Tops.dropFree (due := {}) (F := []) ht (.inr (hshut.no_waiters hstop))) rfl
  refine (emptyHanded hfree fun hn => ?_).settle.markEmptied
  have hline : ((((StackEvent.of ((clearPick l k s).raise .stackFault)).setState k .faulted).st).line l) = (s.line l).unpicked := by
    rw [State.line, StackEvent.setState_lines]
    exact clearPick_line l k s
  rw [hline] at hn ⊢
  have hp : (s.line l).activity = .picking := ha.resolve_right hn
  refine ⟨(h.lines l).unpicked_reselects hp, awake_of_pins (s := s) ?_
    (h.tops.awake_of_busy (l := l) List.not_mem_nil (noLines_get l) (by simp [hp]) (by simp [hp]))⟩
  exact (StackEvent.setState_atLines _ k .faulted).pins

theorem timedOutLine {due : Due} (h : Tops (noLines.set l true) due s) (hp : (s.line l).openPanel.length ≤ Config.panelPlies)
    (hm : (s.line l).mode ≠ .off) : Tops noLines due (timedOutLine l s) := by
  obtain ⟨res, hk⟩ := LineNow.reportDraw l .aborted s
  have back {t : State} (ht : Tops ((noLines.set l true).set l false) due t) : Tops noLines due t := by
    rwa [perLine_set_set_false (noLines_get l)] at ht
  unfold Machine.timedOutLine
  split
  · exact back ((h.lineNow (by simp) hk).entersOff (by simp))
  · exact back ((h.lineNow (by simp) hk).faults (by simp) (hk.line ▸ hp) (hk.line ▸ hm) .feederTimeout)

theorem timeOutPick (h : TopsSound s) : TopsSound (timeOutPick l s) := by
  unfold Machine.timeOutPick
  split
  · exact h
  · next k hk =>
    split
    · obtain ⟨ha, d, hd, hc⟩ := h.pick hk
      have hs := h.lines l
      have ht : Tops noLines { free := [k] } (Machine.timedOutLine l ((clearPick l k s).raise (.feederFault l))) := by
        have hline : ((clearPick l k s).raise (.feederFault l)).line l = (s.line l).unpicked := clearPick_line l k s
        refine timedOutLine (hc.raise _) (hline ▸ hs.plies.1) (hline ▸ fun hm => ?_)
        have hi := (hs.off hm).1
        rcases ha with ha | ha <;> simp [ha] at hi
      exact ht.settles fun e => TopsEvent.grantCheck (due := {}) (F := []) e
    · exact h

end TopsSound

end Sys2Proof.Machine
end

section
/-!
PROOFS. Drops, landings, stack requests, parameters and the emergency stop keep the lines and the stack tops in agreement;
and the statement TopsSoundKept.
-/

namespace Sys2Proof.Machine

open Tops (Awake awake_not awake_of_pins)

/-! ## What bears on no stack top -/

/-- The lines, the stacks and the pins are as they were. -/
def SameTops (s t : State) : Prop := (t.lines.line, t.sk.stack, t.pins) = (s.lines.line, s.sk.stack, s.pins)

namespace SameTops

variable {s t u : State}

theorem refl (s : State) : SameTops s s := rfl

theorem trans (h : SameTops s t) (k : SameTops t u) : SameTops s u := Eq.trans k h

theorem raiseIf (h : SameTops s t) (c : Bool) (n : Notice) : SameTops s (t.raiseIf c n) := by
  unfold State.raiseIf
  split <;> exact h

theorem abandon (s : State) (r : SheetRecord) (d : Bool) : SameTops s (s.abandon r d) := by
  obtain ⟨g, e⟩ := s.abandon_only_grading r d
  rw [e]
  rfl

theorem abandonAll (s : State) (rs : List SheetRecord) : SameTops s (s.abandonAll rs) := by
  obtain ⟨g, e⟩ := s.abandonAll_only_grading rs
  rw [e]
  rfl

theorem gradesOnly (h : GradesOnly s t) : SameTops s t := by
  simp only [SameTops, h.lines, h.sk, h.pins]

theorem pathOnly (h : PathOnly s t) : SameTops s t := by
  have hb := h.blocks
  simp only [Prod.mk.injEq] at hb
  obtain ⟨-, -, -, -, hk, hl, hp⟩ := hb
  simp only [SameTops, hl, hk, hp]

theorem expireDue (l : Lane) (s : State) : SameTops s (expireDue l s) := by
  unfold Machine.expireDue expireHead
  split
  · split
    · exact .refl s
    · exact .trans (.abandon s _ true) rfl
  · exact .refl s

theorem handOver (r : SheetRecord) (s : State) : SameTops s (handOver r s) := by
  unfold Machine.handOver
  split
  · exact .trans (.abandon s r true) rfl
  · split
    · rfl
    · exact .trans (.abandon s r true) rfl

theorem mergeLane (l : Lane) (s : State) : SameTops s (mergeLane l s) := by
  unfold Machine.mergeLane
  dsimp only
  split
  · exact .trans (by rfl) (.handOver _ _)
  · split
    · exact .trans (by rfl) (.handOver _ _)
    · exact .trans (by rfl) (.handOver _ _)

theorem takeRunOut (p : TrackEntry → Bool) (s : State) : SameTops s (takeRunOut p s) := by
  unfold Machine.takeRunOut
  split
  · exact .refl s
  · exact .trans (.abandon s _ true) rfl

theorem startStall (s : State) : SameTops s (startStall s) := by
  unfold Machine.startStall
  split <;> rfl

end SameTops

theorem TopsSound.of_same {s t : State} (h : TopsSound s) (k : SameTops s t) : TopsSound t := .of_tops (h.tops.of_eq k)

/-! ## Claims on the stacks (R93 to R95, R108, R120, R121) -/

namespace TopsSound

variable {s t : State} {k : StackId}

/-- A stack changes; its top is not freed, nor is it emptied in DRAIN. -/
theorem tune (h : TopsSound s) {x : Stack}
    (he : (x.holder, x.waiters, x.state, x.access) =
      ((s.stack k).holder, (s.stack k).waiters, (s.stack k).state, (s.stack k).access))
    (ht : x.holder ≠ none → (s.stack k).falling = [] → x.falling = [] ∧ x.inventory = (s.stack k).inventory)
    (hf : (s.stack k).free = false → x.free = false)
    (hd : x.state = .drain → (s.stack k).inventory ≠ [] ∨ (s.stack k).allocated ≠ 0 → x.inventory ≠ [] ∨ x.allocated ≠ 0) :
    TopsSound (s.setStack k x) := by
  have hs : Tops noLines { free := [k], drain := [k] } (s.setStack k x) := h.tops.setStack he ht
  simp only [Prod.mk.injEq] at he
  obtain ⟨-, hw, hst, -⟩ := he
  refine .of_tops (Tops.dropDrain (due := {}) (D := []) (Tops.dropFree (due := { drain := [k] }) (F := []) hs ?_) ?_)
  · rw [State.stack_setStack_same, hw]
    by_cases hn : ∀ l, (s.stack k).waiters.get l = none
    · exact .inr hn
    · obtain ⟨l, hl⟩ := not_forall.mp hn
      exact .inl (hf (h.serving k l hl).2.2)
  · rw [State.stack_setStack_same]
    exact fun e => hd e (h.drain k (hst ▸ e))

theorem allocate (h : TopsSound s) : TopsSound (allocate k s) := by
  have ht : TopsSound (s.setStack k { s.stack k with allocated := (s.stack k).allocated + 1 }) :=
    h.tune rfl (fun _ hf => ⟨hf, rfl⟩) (fun hf => hf) fun _ _ => .inr (Nat.succ_ne_zero _)
  exact ht.of_same (.raiseIf (.refl _) _ _)

theorem takeDecision (h : TopsSound s) (p : TrackEntry → Bool) : TopsSound (takeDecision p s) := by
  unfold Machine.takeDecision
  split
  · exact h
  · next e _ =>
    have ha : TopsSound (if e.sheet.cls.isNone then s.abandon e.sheet false else s) := by
      split
      · exact h.of_same (.abandon ..)
      · exact h
    have hu : TopsSound (((if e.sheet.cls.isNone then s.abandon e.sheet false else s).setQueue
        (updateFirst p (fun e' => e'.decidedBy (decideStack e.fixedClass s)) s.tracking.queue)).raiseIf
          e.sheet.cls.isNone .gradeLate) := ha.of_same (.raiseIf (by rfl) _ _)
    dsimp only
    split
    · exact hu
    · exact hu.allocate

theorem takeApproach (h : TopsSound s) (p : TrackEntry → Bool) : TopsSound (takeApproach p s) := by
  unfold Machine.takeApproach
  split
  · exact h
  · exact (h.of_same (by rfl)).tune rfl (fun _ hf => ⟨hf, rfl⟩) (fun _ => by simp [Stack.free]) fun _ => id

theorem fireDrop (h : TopsSound s) {p : TrackEntry → Bool} {e : TrackEntry} (hf : firesDrop k s = true) :
    TopsSound (fireDrop p e k s) := by
  simp only [firesDrop, Bool.and_eq_true, Option.isNone_iff_eq_none] at hf
  have hh := hf.1.1.1
  have hq : TopsSound (s.setQueue (dropFirst p s.tracking.queue)) := h.of_same (by rfl)
  have ht : TopsSound ((s.setQueue (dropFirst p s.tracking.queue)).setStack k
      { s.stack k with
        reservations := (s.stack k).reservations - 1
        falling := (s.stack k).falling ++ [{ sheet := e.sheet, timer := 0 }] }) :=
    hq.tune rfl (fun hn => absurd hh hn) (fun _ => by simp [Stack.free]) fun _ => id
  exact ht.of_same rfl

theorem abandonDrop (h : TopsSound s) (p : TrackEntry → Bool) : TopsSound (abandonDrop p k s) := by
  have hq : TopsSound (s.setQueue (updateFirst p (fun e => { e with drop := .abandoned }) s.tracking.queue)) :=
    h.of_same (by rfl)
  have ht := hq.tops.setStack (k := k) (x := { s.stack k with
    reservations := (s.stack k).reservations - 1, allocated := (s.stack k).allocated - 1 }) rfl fun _ hf => ⟨hf, rfl⟩
  exact (ht.raise .dropAbandoned).settles fun e => TopsEvent.grantCheck (due := {}) (F := [])
    (TopsEvent.drainClose (due := { free := [k] }) (D := []) e)

theorem takeGate (h : TopsSound s) (p : TrackEntry → Bool) : TopsSound (takeGate p s) := by
  unfold Machine.takeGate
  split
  · exact h
  · split
    · exact h
    · split
      · next hf => exact h.fireDrop hf
      · exact h.abandonDrop p

theorem takeOwedBy (h : TopsSound s) (e : TrackEntry) : TopsSound (takeOwedBy e s) := by
  unfold Machine.takeOwedBy
  dsimp only
  split
  · exact h.takeDecision _
  · exact h.takeApproach _
  · exact h.takeGate _
  · exact h.of_same (.takeRunOut _ s)
  · exact h

theorem takeOwed (h : TopsSound s) : TopsSound (takeOwed s) := by
  unfold Machine.takeOwed
  split
  · exact h
  · exact h.takeOwedBy _
  · exact takeOwedBy (s := { s with choices := s.choices + 1 }) (h.of_same rfl) _

theorem iterate {f : State → State} (hf : ∀ s, TopsSound s → TopsSound (f s)) (n : Nat) (h : TopsSound s) :
    TopsSound (Machine.iterate f n s) :=
  iterate_rel (R := fun s t => TopsSound s → TopsSound t) (fun _ => id) (fun _ _ _ h k => k ∘ h) hf n s h

theorem foldl {β : Type} {f : State → β → State} (hf : ∀ s b, TopsSound s → TopsSound (f s b)) (bs : List β)
    (h : TopsSound s) : TopsSound (bs.foldl f s) :=
  foldl_rel (R := fun s t => TopsSound s → TopsSound t) (fun _ => id) (fun _ _ _ h k => k ∘ h) hf bs s h

theorem takeAllOwed (h : TopsSound s) : TopsSound (takeAllOwed s) := h.iterate (fun _ => takeOwed) _

theorem commanded {take : (TrackEntry → Bool) → State → State} (ht : ∀ p s, TopsSound s → TopsSound (take p s))
    (due : Geometry → TrackEntry → Bool) (n : Nat) (h : TopsSound s) : TopsSound (commanded due take n s) := by
  unfold Machine.commanded
  split
  · exact ht _ _ h
  · exact h

/-! ## Landings (R128, R129) -/

theorem pushFalling (h : TopsSound s) (u : Bool) : Tops noLines { free := [k] } (pushFalling k u s) := by
  unfold Machine.pushFalling
  dsimp only
  split
  · exact h.tops.weaken (List.nil_subset _) (List.Subset.refl _) (List.Subset.refl _) (List.Subset.refl _)
  · next f rest hf =>
    refine Tops.dropDrain (due := { free := [k] }) (k := k) (D := [])
      (h.tops.setStack rfl fun _ he => by simp [hf] at he) fun _ => .inl ?_
    rw [State.stack_setStack_same]
    exact fun e => List.cons_ne_nil _ _ e

theorem landOn (h : TopsSound s) : TopsSound (landOn k s) :=
  (h.pushFalling false).settles fun e => TopsEvent.grantCheck (due := {}) (F := []) (e.announceTo _)

theorem missLanding (h : TopsSound s) : TopsSound (missLanding k s) := by
  unfold Machine.missLanding
  split
  · refine (((h.pushFalling (k := k) true).raise .missedLanding).raise .stackFault).settles fun e => ?_
    have hshut := e.shut (k := k) (.inr rfl)
    refine hshut.dues (fun ht => Tops.dropFree (due := {}) (F := []) ht (.inr (hshut.no_waiters ?_))) rfl
    unfold Stack.serving
    rw [TopsEvent.setState_state]
  · exact h

/-! ## Stalls and cleared tracking (R98, R100) -/

theorem releaseReservation {F : List StackId} (h : Tops noLines { free := F } s) {e : TrackEntry}
    (he : ∀ k, e.drop = .reserved → e.stack = some k → k ∈ F) :
    Tops noLines { free := F } (releaseReservation e s) := by
  unfold Machine.releaseReservation
  split
  · next k hd hk =>
    have ht : Tops noLines { free := k :: F, drain := [k] }
        (s.setStack k { s.stack k with reservations := (s.stack k).reservations - 1 }) := h.setStack rfl fun _ hf => ⟨hf, rfl⟩
    refine Tops.weaken (due := { free := k :: F }) (Tops.dropDrain (due := { free := k :: F }) (D := []) ht fun hst => ?_) ?_
      (List.Subset.refl _) (List.Subset.refl _) (List.Subset.refl _)
    · rw [State.stack_setStack_same] at hst ⊢
      exact h.drain k List.not_mem_nil hst
    · exact List.cons_subset.mpr ⟨he k hd hk, List.Subset.refl _⟩
  · exact h

theorem releaseClaims {F D : List StackId} (h : Tops noLines { free := F, drain := D } s) {e : TrackEntry}
    (hf : ∀ k, e.drop = .reserved → e.stack = some k → k ∈ F)
    (hd : ∀ k, e.drop = .allocated ∨ e.drop = .reserved → e.stack = some k → k ∈ D) :
    Tops noLines { free := F, drain := D } (releaseClaims e s) := by
  unfold Machine.releaseClaims
  split
  · next k hdrop hk =>
    have ht : Tops noLines { free := k :: F, drain := k :: D }
        (s.setStack k { s.stack k with allocated := (s.stack k).allocated - 1 }) := h.setStack rfl fun _ hf => ⟨hf, rfl⟩
    refine Tops.weaken (due := { free := F, drain := k :: D })
      { ht with serving := fun j l hj => ?_ } (List.Subset.refl _)
      (List.cons_subset.mpr ⟨hd k (.inl hdrop) hk, List.Subset.refl _⟩) (List.Subset.refl _) (List.Subset.refl _)
    obtain ⟨h1, h2, -⟩ := ht.serving j l hj
    refine ⟨h1, h2, fun hn => ?_⟩
    rw [stack_setStack] at hj ⊢
    split
    · next e =>
      subst e
      rw [if_pos rfl] at hj
      exact (h.serving j l hj).2.2 hn
    · next e =>
      rw [if_neg e] at hj
      exact (h.serving j l hj).2.2 hn
  · next k hdrop hk =>
    have ht : Tops noLines { free := k :: F, drain := k :: D } (s.setStack k { s.stack k with
        reservations := (s.stack k).reservations - 1, allocated := (s.stack k).allocated - 1 }) :=
      h.setStack rfl fun _ hf => ⟨hf, rfl⟩
    exact ht.weaken (List.cons_subset.mpr ⟨hf k hdrop hk, List.Subset.refl _⟩)
      (List.cons_subset.mpr ⟨hd k (.inr hdrop) hk, List.Subset.refl _⟩) (List.Subset.refl _) (List.Subset.refl _)
  · exact h

theorem mem_reservedStacks {q : List TrackEntry} {e : TrackEntry} (he : e ∈ q) (k : StackId) (hd : e.drop = .reserved)
    (hk : e.stack = some k) : k ∈ reservedStacks q :=
  List.mem_filter.mpr ⟨List.mem_finRange k, List.any_eq_true.mpr ⟨e, he, by simp [hd, hk]⟩⟩

theorem mem_allocatedStacks {q : List TrackEntry} {e : TrackEntry} (he : e ∈ q) (k : StackId)
    (hd : e.drop = .allocated ∨ e.drop = .reserved) (hk : e.stack = some k) : k ∈ allocatedStacks q :=
  List.mem_filter.mpr ⟨List.mem_finRange k, List.any_eq_true.mpr ⟨e, he, by rcases hd with hd | hd <;> simp [hd, hk]⟩⟩

theorem releaseReservations {F : List StackId} : ∀ (q : List TrackEntry) {s : State}, Tops noLines { free := F } s →
    (∀ e ∈ q, ∀ k, e.drop = .reserved → e.stack = some k → k ∈ F) →
    Tops noLines { free := F } (q.foldl (fun s e => Machine.releaseReservation e s) s)
  | [], _, h, _ => h
  | e :: q, _, h, he => releaseReservations q (releaseReservation h (he e List.mem_cons_self))
      fun e' h' => he e' (List.mem_cons_of_mem e h')

theorem releaseAllClaims {F D : List StackId} : ∀ (q : List TrackEntry) {s : State},
    Tops noLines { free := F, drain := D } s →
    (∀ e ∈ q, ∀ k, e.drop = .reserved → e.stack = some k → k ∈ F) →
    (∀ e ∈ q, ∀ k, e.drop = .allocated ∨ e.drop = .reserved → e.stack = some k → k ∈ D) →
    Tops noLines { free := F, drain := D } (q.foldl (fun s e => Machine.releaseClaims e s) s)
  | [], _, h, _, _ => h
  | e :: q, _, h, hf, hd => releaseAllClaims q
      (releaseClaims h (hf e List.mem_cons_self) (hd e List.mem_cons_self))
      (fun e' h' => hf e' (List.mem_cons_of_mem e h')) fun e' h' => hd e' (List.mem_cons_of_mem e h')

theorem takeStall (h : TopsSound s) : TopsSound (takeStall s) := by
  have ht : Tops noLines { free := reservedStacks s.tracking.queue }
      (s.tracking.queue.foldl (fun s e => Machine.releaseReservation e s) s) :=
    releaseReservations _ (h.tops.weaken (List.nil_subset _) (List.Subset.refl _) (List.Subset.refl _) (List.Subset.refl _))
      fun _ he => mem_reservedStacks he
  have hu : ∀ x, Tops noLines { free := reservedStacks s.tracking.queue }
      (((s.tracking.queue.foldl (fun s e => Machine.releaseReservation e s) s).setTracking x).raise .encoderStall) :=
    fun x => ht.of_eq rfl
  exact (hu _).settles fun e => TopsEvent.grantChecks (due := {}) e

theorem clearTracking (h : TopsSound s) : TopsSound (clearTracking s) := by
  have ht : Tops noLines { free := reservedStacks s.tracking.queue, drain := allocatedStacks s.tracking.queue }
      (s.tracking.queue.foldl (fun s e => Machine.releaseClaims e s) (s.abandonAll (s.tracking.queue.map (·.sheet)))) :=
    releaseAllClaims _
      ((h.tops.abandonAll _).weaken (List.nil_subset _) (List.nil_subset _) (List.Subset.refl _) (List.Subset.refl _))
      (fun _ he => mem_reservedStacks he) fun _ he => mem_allocatedStacks he
  have hu : ∀ x, Tops noLines { free := reservedStacks s.tracking.queue, drain := allocatedStacks s.tracking.queue }
      (Machine.startStall ((s.tracking.queue.foldl (fun s e => Machine.releaseClaims e s)
        (s.abandonAll (s.tracking.queue.map (·.sheet)))).setTracking x)) :=
    fun x => (ht.of_eq (by rfl)).of_eq (SameTops.startStall _)
  exact (hu _).settles fun e => TopsEvent.grantChecks (due := {})
    (TopsEvent.drainCloses (due := { free := reservedStacks s.tracking.queue }) e)

/-! ## Requests of the stacks (R119 to R122) -/

theorem opened (h : TopsSound s) (k : StackId) : TopsSound ((StackEvent.of s).setState k .opened).settle :=
  h.tops.settles fun e => e.opened k

theorem closed (h : TopsSound s) (k : StackId) : TopsSound ((StackEvent.of s).setState k .closed).settle :=
  h.tops.settles fun e => e.shut (.inl rfl)

theorem drained (h : TopsSound s) (k : StackId) : TopsSound (((StackEvent.of s).setState k .drain).drainClose k).settle :=
  h.tops.settles fun e => TopsEvent.drainClose (due := {}) (D := []) (e.drained k)

theorem clearStack (h : TopsSound s) (hs : (s.stack k).state = .closed) (hh : (s.stack k).holder = none) :
    TopsSound ((s.abandonAll (s.stack k).inventory).setStack k { s.stack k with inventory := [] }) := by
  have ha : TopsSound (s.abandonAll (s.stack k).inventory) := h.of_same (.abandonAll ..)
  refine ha.tune ?_ (fun hn => absurd hh hn) ?_ fun e => nomatch hs.symm.trans e
  · rw [State.stack_abandonAll]
  · rw [State.stack_abandonAll]; exact id

/-- The access mask of a stack changes: waiters it shuts out are still to be withdrawn. -/
theorem setAccess (h : TopsSound s) (m : PerLine Bool) :
    Tops noLines { access := [(k, .a), (k, .b)] } (s.setStack k { s.stack k with access := m }) := by
  have same (j : StackId) : ∃ ac, (s.setStack k { s.stack k with access := m }).stack j = { s.stack j with access := ac } ∧
      (j ≠ k → ac = (s.stack j).access) := by
    rw [stack_setStack]
    split
    · next e => subst e; exact ⟨m, rfl, fun hn => absurd rfl hn⟩
    · exact ⟨_, rfl, fun _ => rfl⟩
  refine ⟨h.tops.lines, fun j l => ?_, fun j l g => ?_, fun j l hj => ?_, fun j l hj => ?_, fun j hd => ?_, h.tops.quiet⟩
  · obtain ⟨ac, e, -⟩ := same j
    rw [e]
    exact h.tops.holder j l
  · obtain ⟨ac, e, -⟩ := same j
    rw [e]
    exact h.tops.waiters j l g
  · obtain ⟨ac, e, -⟩ := same j
    rw [e] at hj ⊢
    exact h.tops.taken j l hj
  · obtain ⟨ac, e, hac⟩ := same j
    rw [e] at hj ⊢
    obtain ⟨h1, h2, h3⟩ := h.serving j l hj
    refine ⟨h1, fun hn => ?_, fun _ => h3⟩
    have hjk : j ≠ k := by
      rintro rfl
      exact hn (by cases l <;> simp)
    rw [hac hjk]
    exact h2
  · obtain ⟨ac, e, -⟩ := same j
    rw [e]
    exact h.drain j

theorem changeAccess (h : TopsSound s) (k : StackId) (m : PerLine Bool) : TopsSound (changeAccess k m s) := by
  have he : TopsEvent noLines { access := [(k, .a), (k, .b)] }
      (StackEvent.of (s.setStack k { s.stack k with access := m })).announce := (TopsEvent.of_tops (h.setAccess m) rfl).announce
  exact (TopsEvent.removeLine (due := {}) (A := []) (TopsEvent.removeLine (due := {}) (A := [(k, .b)]) he)).settle

/-! ## Parameters (R182) -/

theorem paramApply (h : TopsSound s) (q : Param) (v : Nat) : TopsSound (q.apply v s) := by
  cases q with
  | ageLimit =>
    exact iterate (fun s h => h.of_same (.expireDue _ s)) _
      (iterate (fun s h => h.of_same (.expireDue _ s)) _ (h.of_same (by rfl)))
  | stallLimit =>
    have hl : TopsSound (s.setTracking { s.tracking with stallLimit := v }) := h.of_same rfl
    simp only [Param.apply, setStallLimit]
    split
    · exact h.of_same rfl
    · split
      · exact hl.of_same (.startStall _)
      · split
        · exact hl.takeStall
        · exact hl
  | landingLimit =>
    exact foldl (fun s k h => iterate (fun s => missLanding) _ h) _ (h.of_same (by rfl))
  | pickLimit => exact (TopsSound.of_same (t := s.setLines { s.lines with pickLimit := v }) h rfl).timeOutPick.timeOutPick
  | starveLimit =>
    exact (TopsSound.of_same (t := s.setLines { s.lines with starveLimit := v }) h rfl).noticeStarved.noticeStarved
  | priority => exact h.of_same rfl
  | decision => exact h.of_same rfl
  | window => exact h.of_same rfl
  | gate k => exact h.of_same rfl
  | runOut => exact h.of_same rfl

/-! ## Commands -/

theorem effect {p : Port} (h : TopsSound s) (hr : s.pins.resetHeld = false) (he : Effect p s t) : TopsSound t := by
  cases he with
  | same => exact h
  | notices mask => exact h.of_same rfl
  | noticeMask mask => exact h.of_same rfl
  | parameter q v => exact h.paramApply q v
  | accept body lane => exact (h.of_same (by rfl)).of_same (.gradesOnly (gradeNext_gradesOnly ..))
  | overrun lane => exact h.of_same (.raiseIf (by rfl) _ _)
  | resync lane => exact h.of_same (.trans (.abandonAll s _) rfl)
  | root k d => exact h.of_same rfl
  | current k => exact h.of_same rfl
  | cacheMode scope c => exact h.of_same rfl
  | purge scope keep => exact h.of_same rfl
  | trackClear => exact h.clearTracking
  | routing x => exact h.of_same rfl
  | openStack k => exact h.opened k
  | drainStack k => exact h.drained k
  | closeStack k => exact h.closed k
  | clearStack k hk hh => exact h.clearStack hk hh
  | capacity k c => exact h.tune rfl (fun _ hf => ⟨hf, rfl⟩) id fun _ => id
  | access k mask => exact h.changeAccess k mask
  | lineMode l mode hl ha hm ht => exact h.enterMode ha hm ht
  | lineExec l e hl hm ht => exact h.setExec hm hr ht
  | steps l pattern hl hm => exact h.writesSteps hm pattern
  | pointer l n hl hf => exact h.movesPointer hf n
  | lineFault l hl ha => exact h.clearsFault ha
  | signal l => exact h.signalLatch
  | draw l g pref role hl hg hm he hf hs hd => exact h.draw ⟨he, hr⟩ hm hf hd rfl hg
  | cancelDraw l hl hm hd ha hs =>
    exact h.cancelDrawOn ha hs fun hf => hd ((h.lines l).free (.inr hf)).draw
  | closePanel l hl hm hd hs hq => exact h.closePanelRecord ((h.lines l).rests_of_no_draw (by simp [hm]) hd) _ _
  | takePanel l r rest hl hq => exact h.takePanel _ rest

theorem event {i : Instr} {f : State → State} (h : TopsSound s) (hr : s.pins.resetHeld = false) (hf : EventOf i f) :
    TopsSound (f s) := by
  cases hf with
  | recordExpired l => exact h.of_same (.expireDue l s)
  | mergeEvent l => exact h.of_same (.mergeLane l s)
  | encoderCount =>
    dsimp only
    split
    · exact h.takeAllOwed.of_same rfl
    · exact h
  | decisionPoint n => exact commanded (fun p s h => h.takeDecision p) _ n h
  | approach n => exact commanded (fun p s h => h.takeApproach p) _ n h
  | gate n => exact commanded (fun p s h => h.takeGate p) _ n h
  | runOut n => exact commanded (fun p s h => h.of_same (.takeRunOut p s)) _ n h
  | encoderStall =>
    dsimp only
    split
    · exact h.takeStall
    · exact h
  | landing k => exact h.landOn
  | missedLanding k => exact h.missLanding
  | lineStarved l => exact h.noticeStarved
  | pickDone l =>
    dsimp only
    split
    · exact h.of_same rfl
    · next hk =>
      split
      · exact h.pickDoneAfterEmpty hk
      · exact h.pickDoneOn hk
  | pickEmpty l =>
    dsimp only
    split
    · exact h.of_same rfl
    · next hk => exact h.pickEmptyOn hk
  | pickTimeout l => exact h.timeOutPick
  | stepBegin l =>
    dsimp only
    split
    · next hd => exact h.stepBegin hr hd
    · exact h
  | byteGapTimeout p =>
    dsimp only
    split
    · exact h.of_same rfl
    · exact h
  | answerSent p => exact h.of_same rfl

end TopsSound

end Sys2Proof.Machine
end

section
/-!
PROOFS. The emergency stop, reset and the passing of time keep the lines and the stack tops in agreement; the statements
TopsSoundKept, InvariantsHoldAtReset and ResetReturnsEveryBlock.
-/

namespace Sys2Proof.Machine

open Tops (Awake awake_not awake_of_pins)

/-! ## The emergency stop (R155, R165) -/

theorem abortPick_line (l : Line) (s : State) :
    ∃ r t e, (abortPick l s).line l = { s.line l with pickReq := r, pickTimer := t, emptied := e } := by
  unfold abortPick
  split
  · exact ⟨_, _, _, rfl⟩
  · exact ⟨_, _, _, clearPick_line ..⟩

namespace Tops

variable {out : PerLine Bool} {F : List StackId} {Q : List Line} {s t : State} {l : Line} {y : LineState}

/-- A line that rests has been stopped. -/
theorem hush (h : Tops out { free := F, quiet := l :: Q } s)
    (ha : (s.line l).activity = .idle ∨ (s.line l).activity = .fault) : Tops out { free := F, quiet := Q } s :=
  { h with
    quiet := fun he m hm ho => by
      by_cases e : m = l
      · subst e; exact ha
      · exact h.quiet he m (fun hn => (List.mem_cons.mp hn).elim e hm) ho }

/-- A line is taken off the top it holds or waits at, and is out (R135, R165). -/
theorem aborts (h : Tops out { free := F, quiet := Q } s) (hl : out.get l = false) :
    ∃ F', Tops (out.set l true) { free := F', quiet := Q } (withdrawLine l (abortPick l s)) := by
  unfold abortPick
  split
  · next hn =>
    refine ⟨F, h.withdraws hl ?_⟩
    by_contra hp
    have hs := h.lines l hl
    have hp : (s.line l).activity = .picking ∨ (s.line l).activity = .stopping := by
      by_contra hne
      exact hp (not_or.mp hne)
    obtain ⟨d, hd⟩ := Option.ne_none_iff_exists'.mp (hs.drawing.mpr (by rcases hp with e | e <;> simp [e]))
    have hk : d.stack ≠ none := fun e => by
      have := (hs.placed d hd).2.mp e
      rcases hp with e | e <;> simp [e] at this
    obtain ⟨k, hk⟩ := Option.ne_none_iff_exists'.mp hk
    simpa [hn] using heldStack_eq_some.mpr ⟨hp, d, hd, hk⟩
  · next k hk =>
    refine ⟨k :: F, ?_⟩
    have hw : withdrawLine l (clearPick l k s) = clearPick l k s := by
      unfold withdrawLine
      rw [clearPick_line]
      split
      · next e _ =>
        have e : (s.line l).activity = .waitingTop := e
        rcases (heldStack_eq_some.mp hk).1 with e' | e' <;> simp [e] at e'
      · rfl
    rw [hw]
    exact h.unpicks hl hk

/-- A line stopped by E-STOP (R155, R165). -/
theorem estopLine (h : Tops noLines { free := F, quiet := l :: Q } s) :
    ∃ F', Tops noLines { free := F', quiet := Q } (estopLine l s) := by
  have hs := h.lines l (noLines_get l)
  obtain ⟨F', ht⟩ := h.aborts (noLines_get l)
  obtain ⟨pr, pt, em, hline⟩ := abortPick_line l s
  rw [← withdrawLine_line l l] at hline
  obtain ⟨res, hk⟩ := LineNow.reportDraw l .aborted (withdrawLine l (abortPick l s))
  rw [hline] at hk
  have back {u : State} {z : LineState} (hz : LineNow l z (withdrawLine l (abortPick l s)) u) (hsound : z.Sound)
      (ha : z.activity = .idle) : Tops noLines { free := F', quiet := Q } u := by
    have hu := ht.rests (by simp) hz hsound (.inl ha)
    rw [perLine_set_set_false (noLines_get l)] at hu
    exact hu.hush (.inl (hz.line ▸ ha))
  unfold Machine.estopLine
  dsimp only
  split
  · next ha => exact ⟨F, h.hush (.inr ha)⟩
  · obtain ⟨q, n, hoff⟩ := LineNow.enterOff l (reportDraw l .aborted (withdrawLine l (abortPick l s)))
    exact ⟨F', back (hk.trans hoff)
      (.of_idle ⟨rfl, rfl, rfl, rfl, rfl, rfl, rfl⟩ ⟨fun _ => rfl, Nat.zero_le _, fun _ => rfl⟩ rfl rfl) rfl⟩
  · next hm hf hst =>
    refine ⟨F', back (.setLine _ l _) (.of_idle ⟨rfl, rfl, rfl, rfl, rfl, rfl, rfl⟩ ⟨fun _ => rfl, ?_, ?_⟩ rfl ?_) rfl⟩
    · rw [hline]; exact hs.plies.1
    · rw [hline]; exact hs.fits.off
    · rw [hline]; exact hs.fault_none hf
  · next hm hf hst =>
    split
    · refine ⟨F', back (hk.trans (.setLine _ l _)) (.of_idle ⟨rfl, rfl, rfl, rfl, rfl, rfl, rfl⟩ ⟨?_, ?_, ?_⟩ rfl ?_) rfl⟩
      · rw [hk.line]; exact hs.held
      · rw [hk.line]; exact hs.plies.1
      · rw [hk.line]; exact hs.fits.off
      · rw [hk.line]; exact hs.fault_none hf
    · next hd => exact ⟨F, h.hush (hs.rests_of_no_draw (by simp [hm]) (by simpa using hd))⟩
  · next hm _ _ => exact ⟨F, h.hush (.inl (hs.off hm).1)⟩
  · next hm _ _ => exact ⟨F, h.hush (hs.load hm)⟩

/-- Only the pins change; where the part is held still, it was before. -/
theorem setPins {due : Due} (h : Tops out due s) {x : Pins}
    (hx : (s.setPins x).estop = true ∨ x.resetHeld = true → s.estop = true ∨ s.pins.resetHeld = true) :
    Tops out due (s.setPins x) :=
  { h with quiet := fun he => h.quiet (hx he) }

/-- Where the part is held still and every line is stopped, no freed top is of account. -/
theorem stopped (h : Tops noLines { free := F } s) (he : s.estop = true ∨ s.pins.resetHeld = true) : TopsSound s :=
  .of_tops { h with
    serving := fun k l hw => by
      obtain ⟨g, hg⟩ := Option.ne_none_iff_exists'.mp hw
      obtain ⟨ho, hat⟩ := (h.waiters k l g).mp hg
      have ha := (waitsAt_eq_some.mp hat).1
      have := h.quiet he l List.not_mem_nil ho
      simp [ha] at this }

end Tops

namespace TopsSound

variable {s t : State}

theorem assertEstop (h : TopsSound s) : TopsSound (assertEstop s) := by
  unfold Machine.assertEstop
  dsimp only
  split
  · next hr => exact .of_tops (h.tops.setPins fun _ => .inr hr)
  · next hr =>
    have ht : Tops noLines { quiet := [.a, .b] } ((s.setPins { s.pins with estop := true }).raise .estop) :=
      { h.tops with
        quiet := fun _ l hl => absurd (by cases l <;> simp) hl
        serving := h.tops.serving }
    obtain ⟨F, ha⟩ := ht.estopLine
    obtain ⟨G, hb⟩ := ha.estopLine
    refine hb.stopped (.inl ?_)
    have hp : (Machine.estopLine .b (Machine.estopLine .a ((s.setPins { s.pins with estop := true }).raise .estop))).estop = true := by
      rw [(estopLine_atLines .b _).estop, (estopLine_atLines .a _).estop]
      simpa [State.estop] using hr
    exact hp

/-- The part right after a reset, whatever the pins (R136, R156, R173). -/
theorem of_reset {t : State} (hl : t.lines.line = ⟨.reset, .reset⟩) (hk : t.sk.stack = Vector.replicate 10 Stack.reset) :
    TopsSound t := by
  have line (l : Line) : t.line l = .reset := by rw [State.line, hl]; cases l <;> rfl
  have stack (k : StackId) : t.stack k = .reset := by rw [State.stack, hk]; simp
  have hs : LineState.reset.Sound := .of_idle ⟨rfl, rfl, rfl, rfl, rfl, rfl, rfl⟩ ⟨fun _ => rfl, Nat.zero_le _, fun _ => rfl⟩ rfl rfl
  constructor
  case lines => exact fun l => line l ▸ hs
  case holder => intro k l; rw [stack, line]; simp [Stack.reset, LineState.reset, heldStack]
  case waiters => intro k l g; rw [stack, line]; cases l <;> simp [Stack.reset, LineState.reset, PerLine.get]
  case taken => intro k l h; rw [stack] at h; cases h
  case serving => intro k l h; rw [stack] at h; cases l <;> exact absurd rfl h
  case drain => intro k h; rw [stack] at h; cases h
  case quiet => exact fun _ l => .inl (by rw [line]; rfl)

theorem releaseReset (h : TopsSound s) (hr : s.pins.resetHeld = true) : TopsSound (releaseReset s) := by
  have ht : TopsSound (s.setPins { s.pins with resetHeld := false }) := .of_tops (h.tops.setPins fun _ => .inr hr)
  exact (ht.of_same (.raiseIf (.refl _) _ _)).of_same (.startStall _)

theorem single {i : Instr} (hi : SingleCommand i) (h : TopsSound s) (ht : exec i s = .next t) : TopsSound t := by
  cases hi with
  | guWalkRead u =>
    rcases guWalkRead_cases ht with rfl | ⟨j, x, f, -, -, -, -, k⟩
    · exact h
    · exact TopsSound.of_same (h.of_same (by rfl)) (.gradesOnly k)
  | portAccessGrant =>
    rcases portAccessGrant_cases ht with rfl | ⟨q, rest, x, -, -, -, rfl⟩
    · exact h
    · exact TopsSound.of_same (s := s.granted .port) (h.of_same rfl) (.pathOnly (pathAccess_pathOnly ..))
  | resetN => cases ht; exact .of_reset rfl rfl
  | convRunAssert =>
    replace ht : execConvRunAssert s = .next t := ht
    have hc : TopsSound (s.setPins { s.pins with convRun := true }) := .of_tops (h.tops.setPins id)
    unfold execConvRunAssert at ht
    dsimp only at ht
    split at ht
    · cases ht; exact h
    · split at ht
      · cases ht; exact hc
      · cases ht; exact hc.of_same (.startStall _)
  | convRunDeassert =>
    cases ht
    have hc : TopsSound (s.setPins { s.pins with convRun := false }) := .of_tops (h.tops.setPins id)
    exact hc.of_same rfl
  | estopAssert =>
    replace ht : Host.Outcome.next (if s.pins.estop then s else Machine.assertEstop s) = .next t := ht
    cases ht
    split
    · exact h
    · exact h.assertEstop
  | estopRelease =>
    cases ht
    exact .of_tops (h.tops.setPins fun he => he.elim (fun e => by simp [State.estop] at e) .inr)
  | resetNRelease =>
    replace ht : Host.Outcome.next (if s.pins.resetHeld then Machine.releaseReset s else s) = .next t := ht
    cases ht
    split
    · next hr => exact h.releaseReset hr
    · exact h

theorem kept : KeptByCommands TopsSound where
  frames _ :=
    { receive := fun _ h => h.of_same rfl
      answer := fun _ _ _ _ h => h.of_same rfl
      join := fun _ _ _ _ _ h => h.of_same (.pathOnly (joinPath_pathOnly ..))
      effect := fun hr he h => h.effect hr he }
  events := fun hf hr h => h.event hr hf
  singles := single

end TopsSound

/-! ## The passing of time -/

/-- Timers advance, and the mark of a pick that came with a PICK_EMPTY goes (R157, R160, assumption 30). -/
theorem LineState.Sound.tick {y : LineState} (h : y.Sound) : y.tick.Sound :=
  { h with
    timer := Iff.trans (by simp [LineState.tick, tickTimer]) h.timer
    starving := by
      obtain ⟨h1, h2⟩ := h.starving
      refine ⟨fun e => ?_, fun e => ?_⟩
      · exact Iff.trans (by simp [LineState.tick]) (h1 e)
      · obtain ⟨h3, h4⟩ := h2 e
        exact ⟨by simp [LineState.tick, h3], h4⟩
    emptied := nofun }

theorem topsSound_tick {s : State} (h : TopsSound s) : TopsSound (tick s) := by
  have free (x : Stack) : x.tick.free = x.free := by simp [Stack.tick, Stack.free]
  constructor
  case lines => intro l; rw [line_tick]; exact (h.lines l).tick
  case holder => intro k l; rw [stack_tick, line_tick]; exact h.holder k l
  case waiters => intro k l g; rw [stack_tick, line_tick]; exact h.waiters k l g
  case taken =>
    intro k l
    rw [stack_tick, line_tick]
    intro hk
    obtain ⟨hf, hd⟩ := h.taken k l hk
    exact ⟨by simp [Stack.tick, hf], hd⟩
  case serving =>
    intro k l
    rw [stack_tick, free]
    exact h.serving k l
  case drain => intro k; rw [stack_tick]; exact h.drain k
  case quiet => intro he l; rw [line_tick]; exact h.quiet he l

theorem topsSound_idle {s : State} (h : TopsSound s) : TopsSound (idle s) := by
  unfold idle settleOwed
  split
  · exact h
  · dsimp only
    split
    · exact (topsSound_tick h.takeAllOwed).of_same rfl
    · exact (topsSound_tick h).of_same rfl

/-- Settles O11: through every event the lines are followed as they leave a stack top and come to one, and every top an
event frees is offered before it ends. -/
theorem topsSoundKept : Obligations.TopsSoundKept :=
  fun _ _ h ht => TopsSound.kept.step (fun _ _ h => h.of_same rfl) (fun _ => topsSound_idle) h ht

/-- Settles O6, from what each invariant asks of the reset state. -/
theorem invariantsHoldAtReset : Obligations.InvariantsHoldAtReset :=
  ⟨tablesSound_reset, cachesSound_reset, bounded_reset, pendingSound_reset, claimsSound_reset, .of_reset rfl rfl⟩

end Sys2Proof.Machine
end

section
/-!
PROOFS. Reset, table memory, and the checks a port makes before its blocks; the statements ResetReturnsEveryBlock,
WrittenCellReadsBack, PortRefusesBeforeItsBlocks and WrongLengthIsBadRequest.
-/

namespace Sys2Proof.Machine

/-! ## The three ways a frame is served -/

/-- A frame is served in its event, as a line request, or on the port path (R176, R177, R51). -/
inductive Served (p : Port) (code tag : Byte) (body : List Byte) : (State → Result) → Prop
  | plain (block : State → Reply) : Served p code tag body (serve code p tag block)
  | line (block : State → Reply) : Served p code tag body (serveLine code p tag body block)
  | table (check : Except Status TableWork) : Served p code tag body (serveTable code p tag check)

section Frames

variable {p : Port} {code tag : Byte} {body : List Byte} {s : State}

theorem served_ite {c : Byte} {a b : State → Result} (ha : Served p c tag body a) (hb : Served p code tag body b) :
    Served p code tag body fun s => if code = c then a s else b s := by
  by_cases e : code = c
  · subst e; simpa using ha
  · simpa [e] using hb

theorem frameReceived_served : Served p code tag body (frameReceived p code tag body) :=
  served_ite (.plain (readNotices p body)) <|
  served_ite (.plain (ackNotices p body)) <|
  served_ite (.plain (setNoticeMask p body)) <|
  served_ite (.plain (setParameter body)) <|
  served_ite (.plain (getParameter body)) <|
  served_ite (.plain (submitSheet body)) <|
  served_ite (.plain (laneResync body)) <|
  served_ite (.plain (readIntake body)) <|
  served_ite (.table (checkWriteCell body)) <|
  served_ite (.table (checkReadCell body)) <|
  served_ite (.table (checkReplaceCell body)) <|
  served_ite (.table (checkInvalidateCell body)) <|
  served_ite (.plain (writeRoot body)) <|
  served_ite (.plain (changeover body)) <|
  served_ite (.plain (readRoots body)) <|
  served_ite (.table (checkProbePath body)) <|
  served_ite (.plain (setCacheMode body)) <|
  served_ite (.table (checkLockPaths body)) <|
  served_ite (.plain (purgeCache body)) <|
  served_ite (.plain (readCache body)) <|
  served_ite (.plain (trackClear body)) <|
  served_ite (.plain (readTracking body)) <|
  served_ite (.plain (writeRoute body)) <|
  served_ite (.plain (swapGroup body)) <|
  served_ite (.plain (readRoutes body)) <|
  served_ite (.plain (readRunout body)) <|
  served_ite (.plain (clearRunout body)) <|
  served_ite (.plain (openStack body)) <|
  served_ite (.plain (drainStack body)) <|
  served_ite (.plain (closeStack body)) <|
  served_ite (.plain (clearStackFault body)) <|
  served_ite (.plain (clearStack body)) <|
  served_ite (.plain (setStackCapacity body)) <|
  served_ite (.plain (setStackAccess body)) <|
  served_ite (.plain (readStack body)) <|
  served_ite (.line (setLineMode body)) <|
  served_ite (.line (setLineExec body)) <|
  served_ite (.line (writeSteps body)) <|
  served_ite (.plain (readSteps body)) <|
  served_ite (.line (setStepPointer body)) <|
  served_ite (.line (clearLineFault body)) <|
  served_ite (.plain (readLineStatus body)) <|
  served_ite (.plain (signalLine body)) <|
  served_ite (.line (draw body)) <|
  served_ite (.line (cancelDraw body)) <|
  served_ite (.line (closePanel body)) <|
  served_ite (.line (takePanel body)) <|
  served_ite (.plain (peekPanel body)) <|
  .plain fun t => refuse t .badRequest

/-! ## RESET_N held (R183) -/

theorem Served.held {r : State → Result} (hr : Served p code tag body r) (h : s.pins.resetHeld = true) : r s = .next s := by
  cases hr with
  | plain block => exact serve_held block h
  | line block => exact serve_held _ h
  | table check => exact serveTable_held check h

theorem frameReceived_held (h : s.pins.resetHeld = true) : frameReceived p code tag body s = .next s :=
  frameReceived_served.held h

theorem receiveByte_held (b : Byte) (h : s.pins.resetHeld = true) : receiveByte p b s = .next s := if_pos h

theorem receiveBytes_held (h : s.pins.resetHeld = true) : ∀ bs : List Byte, receiveBytes p bs s = .next s
  | [] => rfl
  | b :: bs => by
    simp only [receiveBytes, receiveByte_held b h]
    exact receiveBytes_held h bs

theorem onLink_held {taken : State → Result} (h : s.pins.resetHeld = true) (ht : taken s = .next s) (bs : List Byte) :
    onLink p bs taken s = .next s := by
  unfold onLink
  split
  · exact receiveBytes_held h bs
  · exact ht

end Frames

/-- While RESET_N is held, only the pins are followed (R183). -/
theorem exec_held {s : State} {i : Instr} (h : s.pins.resetHeld = true) (h1 : i ≠ .resetN) (h2 : i ≠ .resetNRelease)
    (h3 : i ≠ .estopAssert) (h4 : i ≠ .estopRelease) (h5 : i ≠ .convRunAssert) (h6 : i ≠ .convRunDeassert) :
    exec i s = .next s := by
  rcases command_kinds i with ⟨p, -, hf | ⟨code, tag, body, crc, rfl⟩ | rfl | ⟨n, rfl⟩⟩ | ⟨f, hf⟩ | hi
  · obtain ⟨f, hi, -⟩ := Option.map_eq_some_iff.mp hf
    rw [exec_frame hi]
    exact onLink_held h (frameReceived_held h) _
  · exact onLink_held h (if_pos h) _
  · exact receiveByte_held _ h
  · exact receiveByte_held _ h
  · rw [hf.exec]
    exact event_held f h
  · cases hi with
    | guWalkRead u => exact if_pos (.inl h)
    | portAccessGrant => exact if_pos (.inl h)
    | convRunAssert => exact absurd rfl h5
    | convRunDeassert => exact absurd rfl h6
    | estopAssert => exact absurd rfl h3
    | estopRelease => exact absurd rfl h4
    | resetN => exact absurd rfl h1
    | resetNRelease => exact absurd rfl h2

theorem cell_nil (n : Nat) : Memory.cell [] n = Vector.replicate 16 0 := rfl

/-- Settles O3: the reset state read off block by block; while RESET_N is held every other command is put by. -/
theorem resetReturnsEveryBlock : Obligations.ResetReturnsEveryBlock := by
  refine ⟨⟨fun s => ⟨_, rfl, ?_⟩, fun s h => ?_, fun s h => ?_⟩, fun s i h h1 h2 h3 h4 h5 h6 =>
    exec_held h h1 h2 h3 h4 h5 h6⟩
  · refine ⟨rfl, rfl, rfl, fun l => by cases l <;> rfl, rfl, rfl, rfl, rfl, fun u => by cases u <;> rfl, cell_nil,
      fun k => by cases k <;> rfl, rfl, rfl, fun u => by cases u <;> exact ⟨rfl, rfl, rfl⟩, rfl, rfl, rfl, rfl, ?_, rfl, rfl,
      rfl, ?_, ?_, rfl, ?_, rfl, rfl, ?_, rfl, rfl, fun p => by cases p <;> rfl⟩
    · exact (by decide : ∀ k : StackId, Geometry.default.gate k = 3000 + 1800 * k.val)
    · exact (by decide : ∀ c : Fin 8, Routing.reset.routes[c] = ⟨none, none, 0⟩)
    · exact (by decide : ∀ g : Fin 4, Routing.reset.swaps[g] = false)
    · exact (by decide : ∀ k : StackId, Stacks.reset.stack[k] = .reset)
    · intro l
      have : ∀ n : Fin 16, LineState.reset.pattern[n] = .blank ⟨0, 0, 0⟩ ∧ LineState.reset.counters[n] = none := by decide
      cases l <;> exact ⟨rfl, rfl, rfl, this, rfl, rfl, rfl, rfl, rfl, rfl, rfl, rfl, rfl, rfl, rfl, rfl, rfl, rfl⟩
  · refine congrArg Host.Outcome.next ((if_pos h).trans ?_)
    have hstart (t : State) (hp : t.pins = { s.pins with resetHeld := false }) (ht : t.tracking = s.tracking) :
        startStall t = if s.tracking.state = .running ∧ s.pins.convRun = true ∧ s.tracking.stallLimit ≠ 0 then
          t.setTracking { t.tracking with stallTimer := some 0 } else t := by
      unfold startStall State.tracks
      rw [hp, ht]
      simp [and_assoc]
    exact hstart _ (by simp) (by simp)
  · exact congrArg Host.Outcome.next (if_neg (by simp [h]))

/-! ## Table memory (R42) -/

/-- What each cell reads after one was written. -/
theorem Memory.cell_setCell {m : Memory} {n : Nat} (x : Cell16) (h : m.wf = true) (k : Nat) :
    (m.setCell n x).cell k = if k = n then x else m.cell k := by
  have hrise : Memory.risesFrom 0 m = true := by
    simp only [Memory.wf, Bool.and_eq_true] at h
    exact h.1
  have byte (j : Nat) (hj : j < 16) : Memory.read (m.setCell n x) (16 * k + j) =
      if k = n then x[j] else Memory.read m (16 * k + j) := by
    unfold Memory.setCell
    rw [Memory.read_writeBytes hrise, Vector.length_toList, Config.cellBytes]
    split
    · next hc =>
      have hkn : k = n := by omega
      subst hkn
      rw [if_pos rfl, show 16 * k + j - 16 * k = j by omega]
      simp [hj]
    · next hc => rw [if_neg (by omega)]
  refine Vector.ext fun j hj => ?_
  have hcell (m : Memory) : (m.cell k)[j] = Memory.read m (16 * k + j) := by
    unfold Memory.cell Config.cellBytes
    interval_cases j <;> rfl
  rw [hcell, byte j hj]
  split
  · rfl
  · exact (hcell m).symm

/-- Settles O14: by what each cell holds after the write, the written one and any other. -/
theorem writtenCellReadsBack : Obligations.WrittenCellReadsBack := by
  intro m n x h hn
  refine ⟨?_, fun k hk => ?_, Memory.setCell_wf h hn⟩
  · rw [Memory.cell_setCell x h, if_pos rfl]
  · rw [Memory.cell_setCell x h, if_neg hk]

/-! ## The port's own checks (R176, R177) -/

section Checks

variable {p : Port} {code tag : Byte} {body : List Byte} {s : State}

theorem Served.busy {r : State → Result} (hr : Served p code tag body r) (h : s.pins.resetHeld = false)
    (hp : (s.port p).pending ≠ none) : r s = .next (s.answered p code tag .busy []) := by
  cases hr with
  | plain block => exact serve_busy block h hp
  | line block => exact serve_busy _ h hp
  | table check => exact serveTable_busy check h hp

theorem forall_mem_cons_of {α : Type} {P : α → Prop} {x : α} {xs : List α} (hx : P x) (hxs : ∀ y ∈ xs, P y) :
    ∀ y ∈ x :: xs, P y := List.forall_mem_cons.mpr ⟨hx, hxs⟩

/-- A code that names no request reaches no block (R177). -/
theorem frameReceived_unknown (h : isRequestCode code = false) :
    frameReceived p code tag body s = serve code p tag (fun t => refuse t .badRequest) s := by
  have hne (c : Byte) (hc : c ∈ requestCodes) : code ≠ c := by
    rintro rfl
    simp [isRequestCode, hc] at h
  unfold frameReceived
  repeat rw [if_neg (hne _ (by decide))]
  rfl

/-- A body that names no line: it is empty, or its line field names none. -/
def NamesNoLine (body : List Byte) : Prop := body = [] ∨ ∃ b rest, body = b :: rest ∧ lineOf b.toNat = none

theorem NamesNoLine.lineOf (h : NamesNoLine body) (hl : body.length ≠ 0) : lineOf (byteAt body 0) = none := by
  rcases h with rfl | ⟨b, rest, rfl, hb⟩
  · exact absurd rfl hl
  · exact hb

theorem NamesNoLine.notOwner (h : NamesNoLine body) : notOwner p body = false := by
  rcases h with rfl | ⟨b, rest, rfl, hb⟩
  · rfl
  · simp [Machine.notOwner, hb]

/-- A body that names no line is refused, for its length or for its line field. -/
def RefusesUnnamed (body : List Byte) (block : State → Reply) : Prop :=
  NamesNoLine body → ∀ t, block t = refuse t .badRequest ∨ block t = refuse t .badValue

theorem setLineMode_unnamed : RefusesUnnamed body (setLineMode body) := fun h t => by
  unfold setLineMode
  split
  · exact .inl rfl
  · next hl => exact .inr (by rw [h.lineOf (by omega)])

theorem setLineExec_unnamed : RefusesUnnamed body (setLineExec body) := fun h t => by
  unfold setLineExec
  split
  · exact .inl rfl
  · next hl => exact .inr (by rw [h.lineOf (by omega)])

theorem writeSteps_unnamed : RefusesUnnamed body (writeSteps body) := fun h t => by
  unfold writeSteps
  dsimp only
  split
  · exact .inl rfl
  · next hl => exact .inr (by rw [h.lineOf (by omega)])

theorem setStepPointer_unnamed : RefusesUnnamed body (setStepPointer body) := fun h t => by
  unfold setStepPointer
  split
  · exact .inl rfl
  · next hl => exact .inr (by rw [h.lineOf (by omega)])

theorem onLine_unnamed {f : State → Line → Reply} : RefusesUnnamed body fun t => onLine body t (f t) := fun h t => by
  unfold onLine
  split
  · exact .inl rfl
  · next hl => exact .inr (by rw [h.lineOf (by omega)])

theorem draw_unnamed : RefusesUnnamed body (draw body) := fun h t => by
  unfold draw
  split
  · exact .inl rfl
  · next hl => exact .inr (by rw [h.lineOf (by omega)])

/-- A line request is served by a block of its own that refuses a body naming no line. -/
theorem frameReceived_line (h : isLineRequest code = true) : ∃ block : State → Reply,
    frameReceived p code tag body s = serveLine code p tag body block s ∧ RefusesUnnamed body block := by
  have each : ∀ c ∈ [Code.setLineMode, Code.setLineExec, Code.writeSteps, Code.setStepPointer, Code.clearLineFault, Code.draw,
      Code.cancelDraw, Code.closePanel, Code.takePanel], ∃ block : State → Reply,
      frameReceived p c tag body s = serveLine c p tag body block s ∧ RefusesUnnamed body block :=
    forall_mem_cons_of ⟨setLineMode body, rfl, setLineMode_unnamed⟩ <|
    forall_mem_cons_of ⟨setLineExec body, rfl, setLineExec_unnamed⟩ <|
    forall_mem_cons_of ⟨writeSteps body, rfl, writeSteps_unnamed⟩ <|
    forall_mem_cons_of ⟨setStepPointer body, rfl, setStepPointer_unnamed⟩ <|
    forall_mem_cons_of ⟨clearLineFault body, rfl, onLine_unnamed⟩ <|
    forall_mem_cons_of ⟨draw body, rfl, draw_unnamed⟩ <|
    forall_mem_cons_of ⟨cancelDraw body, rfl, onLine_unnamed⟩ <|
    forall_mem_cons_of ⟨closePanel body, rfl, onLine_unnamed⟩ <|
    forall_mem_cons_of ⟨takePanel body, rfl, onLine_unnamed⟩ <|
    fun _ h => absurd h List.not_mem_nil
  exact each code (List.contains_iff_mem.mp h)

end Checks

/-- Settles O15: by the port's checks in their order. -/
theorem portRefusesBeforeItsBlocks : Obligations.PortRefusesBeforeItsBlocks := by
  refine ⟨fun s i f hi hl hp => ?_, fun s p code tag body hr hc => ?_, fun s i f b rest l hi hl hr hb hline hown => ?_,
    fun s i f hi hl hr hb => ?_⟩
  · rw [exec_frame hi, receiveRequest_whole _ hl.2]
    exact frameReceived_served.busy hl.1 hp
  · change receiveRequest code p tag body (frameReceived p code tag body) s = _
    rw [receiveRequest_whole _ hr.whole, frameReceived_unknown hc]
    exact serve_refuse hr rfl
  · rw [exec_frame hi, receiveRequest_whole _ hr.whole]
    obtain ⟨block, he, -⟩ := frameReceived_line (p := f.port) (tag := f.tag) (body := f.body) (s := s) hl
    rw [he]
    exact serveLine_notOwner block hr (by simp [notOwner, hb, hline, Ne.symm hown])
  · rw [exec_frame hi, receiveRequest_whole _ hr.whole]
    obtain ⟨block, he, hun⟩ := frameReceived_line (p := f.port) (tag := f.tag) (body := f.body) (s := s) hl
    rw [he, serveLine_owned block (NamesNoLine.notOwner hb)]
    exact (hun hb (s.hunt f.port)).imp (serve_refuse hr) (serve_refuse hr)

/-! ## Bodies of the wrong length (R184, R191) -/

section Lengths

variable {p : Port} {code tag : Byte} {body : List Byte} {s : State}

theorem line_refuse {block : State → Reply} {st : Status} (hr : Ready s p) (ho : notOwner p body = false)
    (hb : block (s.hunt p) = refuse (s.hunt p) st) :
    serveLine code p tag body block s = .next (s.answered p code tag st []) := by
  rw [serveLine_owned block ho]
  exact serve_refuse hr hb

/-- Each request of a fixed length refuses a body of another. -/
theorem frameReceived_wrongLength (hr : Ready s p) : ∀ e ∈ fixedLengths, body.length ≠ e.1 → ∀ c ∈ e.2,
    (isLineRequest c = true → notOwner p body = false) →
    frameReceived p c tag body s = .next (s.answered p c tag .badRequest []) := by
  refine forall_mem_cons_of (fun hl => ?_) ?_
  · exact
      forall_mem_cons_of (fun _ => serve_refuse (block := readNotices p body) hr (if_pos hl)) <|
      forall_mem_cons_of (fun _ => serve_refuse (block := changeover body) hr (if_pos hl)) <|
      forall_mem_cons_of (fun _ => serve_refuse (block := readRoots body) hr (if_pos hl)) <|
      forall_mem_cons_of (fun _ => serve_refuse (block := trackClear body) hr (if_pos hl)) <|
      forall_mem_cons_of (fun _ => serve_refuse (block := readRoutes body) hr (if_pos hl)) <|
      forall_mem_cons_of (fun _ => serve_refuse (block := readRunout body) hr (if_pos hl)) <|
      forall_mem_cons_of (fun _ => serve_refuse (block := clearRunout body) hr (if_pos hl)) <|
      fun _ h => absurd h List.not_mem_nil
  refine forall_mem_cons_of (fun hl => ?_) ?_
  · exact
      forall_mem_cons_of (fun _ => serve_refuse (block := getParameter body) hr (if_pos hl)) <|
      forall_mem_cons_of (fun _ => serve_refuse (block := laneResync body) hr (if_pos hl)) <|
      forall_mem_cons_of (fun _ => serve_refuse (block := readIntake body) hr (if_pos hl)) <|
      forall_mem_cons_of (fun _ => serve_refuse (block := readTracking body) hr (if_pos hl)) <|
      forall_mem_cons_of (fun _ => serve_refuse (block := openStack body) hr (if_pos hl)) <|
      forall_mem_cons_of (fun _ => serve_refuse (block := drainStack body) hr (if_pos hl)) <|
      forall_mem_cons_of (fun _ => serve_refuse (block := closeStack body) hr (if_pos hl)) <|
      forall_mem_cons_of (fun _ => serve_refuse (block := clearStackFault body) hr (if_pos hl)) <|
      forall_mem_cons_of (fun _ => serve_refuse (block := clearStack body) hr (if_pos hl)) <|
      forall_mem_cons_of (fun ho => line_refuse (block := clearLineFault body) hr (ho rfl) (if_pos hl)) <|
      forall_mem_cons_of (fun _ => serve_refuse (block := readLineStatus body) hr (if_pos hl)) <|
      forall_mem_cons_of (fun _ => serve_refuse (block := signalLine body) hr (if_pos hl)) <|
      forall_mem_cons_of (fun ho => line_refuse (block := cancelDraw body) hr (ho rfl) (if_pos hl)) <|
      forall_mem_cons_of (fun ho => line_refuse (block := closePanel body) hr (ho rfl) (if_pos hl)) <|
      forall_mem_cons_of (fun ho => line_refuse (block := takePanel body) hr (ho rfl) (if_pos hl)) <|
      fun _ h => absurd h List.not_mem_nil
  refine forall_mem_cons_of (fun hl => ?_) ?_
  · exact
      forall_mem_cons_of (fun _ => serveTable_error (check := checkReadCell body) hr (if_pos hl)) <|
      forall_mem_cons_of (fun _ => serve_refuse (block := setCacheMode body) hr (if_pos hl)) <|
      forall_mem_cons_of (fun _ => serve_refuse (block := purgeCache body) hr (if_pos hl)) <|
      forall_mem_cons_of (fun _ => serve_refuse (block := readCache body) hr (if_pos hl)) <|
      forall_mem_cons_of (fun _ => serve_refuse (block := swapGroup body) hr (if_pos hl)) <|
      forall_mem_cons_of (fun _ => serve_refuse (block := setStackAccess body) hr (if_pos hl)) <|
      forall_mem_cons_of (fun ho => line_refuse (block := setLineMode body) hr (ho rfl) (if_pos hl)) <|
      forall_mem_cons_of (fun ho => line_refuse (block := setLineExec body) hr (ho rfl) (if_pos hl)) <|
      forall_mem_cons_of (fun ho => line_refuse (block := setStepPointer body) hr (ho rfl) (if_pos hl)) <|
      forall_mem_cons_of (fun _ => serve_refuse (block := peekPanel body) hr (if_pos hl)) <|
      fun _ h => absurd h List.not_mem_nil
  refine forall_mem_cons_of (fun hl => ?_) ?_
  · exact
      forall_mem_cons_of (fun _ => serve_refuse (block := setParameter body) hr (if_pos hl)) <|
      forall_mem_cons_of (fun _ => serveTable_error (check := checkInvalidateCell body) hr (if_pos hl)) <|
      forall_mem_cons_of (fun _ => serve_refuse (block := writeRoute body) hr (if_pos hl)) <|
      forall_mem_cons_of (fun _ => serve_refuse (block := setStackCapacity body) hr (if_pos hl)) <|
      forall_mem_cons_of (fun _ => serve_refuse (block := readSteps body) hr (if_pos hl)) <|
      fun _ h => absurd h List.not_mem_nil
  refine forall_mem_cons_of (fun hl => ?_) ?_
  · exact
      forall_mem_cons_of (fun _ => serve_refuse (block := ackNotices p body) hr (if_pos hl)) <|
      forall_mem_cons_of (fun _ => serve_refuse (block := setNoticeMask p body) hr (if_pos hl)) <|
      forall_mem_cons_of (fun _ => serve_refuse (block := readStack body) hr (if_pos hl)) <|
      forall_mem_cons_of (fun ho => line_refuse (block := draw body) hr (ho rfl) (if_pos hl)) <|
      fun _ h => absurd h List.not_mem_nil
  refine forall_mem_cons_of (fun hl => ?_) ?_
  · exact
      forall_mem_cons_of (fun _ => serve_refuse (block := writeRoot body) hr (if_pos hl)) <|
      fun _ h => absurd h List.not_mem_nil
  refine forall_mem_cons_of (fun hl => ?_) ?_
  · exact
      forall_mem_cons_of (fun _ => serveTable_error (check := checkProbePath body) hr (if_pos hl)) <|
      fun _ h => absurd h List.not_mem_nil
  refine forall_mem_cons_of (fun hl => ?_) ?_
  · exact
      forall_mem_cons_of (fun _ => serveTable_error (check := checkWriteCell body) hr (if_pos hl)) <|
      fun _ h => absurd h List.not_mem_nil
  refine forall_mem_cons_of (fun hl => ?_) ?_
  · exact
      forall_mem_cons_of (fun _ => serveTable_error (check := checkReplaceCell body) hr (if_pos hl)) <|
      fun _ h => absurd h List.not_mem_nil
  exact fun _ h => absurd h List.not_mem_nil

theorem bodyLength_eq_some {n : Nat} (h : bodyLength code = some n) : ∃ e ∈ fixedLengths, e.1 = n ∧ code ∈ e.2 := by
  obtain ⟨e, he, rfl⟩ := Option.map_eq_some_iff.mp h
  exact ⟨e, List.mem_of_find?_eq_some he, rfl, by simpa using List.find?_some he⟩

end Lengths

/-- Settles O16: each request by its own length check. -/
theorem wrongLengthIsBadRequest : Obligations.WrongLengthIsBadRequest := by
  refine ⟨fun s i f n hi hn hl hr ho => ?_, fun s p tag body hr hl => ?_, fun s p tag body hr hl => ?_,
    fun s p tag body hr ho hl => ?_⟩
  · obtain ⟨e, he, rfl, hc⟩ := bodyLength_eq_some hn
    rw [exec_frame hi, receiveRequest_whole _ hr.whole]
    exact frameReceived_wrongLength hr e he hl f.code hc ho
  · exact (receiveRequest_whole _ hr.whole).trans (serve_refuse hr (if_pos hl))
  · exact (receiveRequest_whole _ hr.whole).trans (serveTable_error hr (if_pos hl))
  · exact (receiveRequest_whole _ hr.whole).trans (line_refuse hr ho (if_pos hl))

end Sys2Proof.Machine
end

section
/-!
PROOFS. Bytes on RX and the frames they make (R174, R175); the statement ReceiverTakesBytes.
-/

namespace Sys2Proof.Machine

section Receiver

variable {p : Port} {code tag : Byte} {body : List Byte} {s : State}

/-! ## A receiver left as it is set -/

theorem State.receive_receive (s : State) (p : Port) (r r' : Receiver) : (s.receive p r).receive p r' = s.receive p r' := by
  cases p <;> rfl

theorem State.hunt_receive (s : State) (p : Port) (r : Receiver) : (s.receive p r).hunt p = s.hunt p := by
  cases p <;> rfl

theorem State.receive_self (s : State) (p : Port) : s.receive p (s.port p).receiver = s := by cases p <;> rfl

@[simp] theorem State.receiver_receive (s : State) (p : Port) (r : Receiver) : ((s.receive p r).port p).receiver = r := by
  cases p <;> rfl

@[simp] theorem State.pins_receive (s : State) (p : Port) (r : Receiver) : (s.receive p r).pins = s.pins := rfl

/-! ## A frame is taken by a port that hunts again -/

/-- What serves a frame has the receiver hunt first, so where it stood is of no account. -/
theorem Served.receive {r : State → Result} (hr : Served p code tag body r) (h : s.pins.resetHeld = false) (x : Receiver) :
    r (s.receive p x) = r s := by
  have hx : (s.receive p x).pins.resetHeld = false := h
  cases hr with
  | plain block => simp only [serve, hx, h, Bool.false_eq_true, if_false, State.hunt_receive]
  | line block => simp only [serveLine, serve, hx, h, Bool.false_eq_true, if_false, State.hunt_receive]
  | table check => simp only [serveTable, hx, h, Bool.false_eq_true, if_false, State.hunt_receive]

theorem frameReceived_receive (h : s.pins.resetHeld = false) (x : Receiver) :
    frameReceived p code tag body (s.receive p x) = frameReceived p code tag body s := frameReceived_served.receive h x

theorem frameComplete_receive (h : s.pins.resetHeld = false) (crc : BitVec 16) (x : Receiver) :
    frameComplete p code tag body crc (s.receive p x) = frameComplete p code tag body crc s := by
  unfold frameComplete
  simp only [frameReceived_receive h, State.hunt_receive, State.pins_receive, h, Bool.false_eq_true, if_false]

theorem frameComplete_right (h : s.pins.resetHeld = false) :
    frameComplete p code tag body (requestCrc code tag body) s = frameReceived p code tag body s := by
  simp [frameComplete, h]

theorem frameComplete_wrong (h : s.pins.resetHeld = false) {crc : BitVec 16} (hc : crc ≠ requestCrc code tag body) :
    frameComplete p code tag body crc s = .next (s.hunt p) := by
  simp [frameComplete, h, hc]

/-! ## One byte -/

theorem receiveByte_hunting (h : s.pins.resetHeld = false) (hr : (s.port p).receiver = .hunting) (b : Byte) :
    receiveByte p b s = .next (s.receive p (huntByte b)) := by
  simp [receiveByte, h, hr]

/-- After a gap of more than 50 ms the frame begun is lost. -/
theorem receiveByte_late (h : s.pins.resetHeld = false) {bytes : List Byte} {gap : Nat}
    (hr : (s.port p).receiver = .receiving bytes gap) (hg : 50 < gap) (b : Byte) :
    receiveByte p b s = .next (s.receive p (huntByte b)) := by
  simp [receiveByte, h, hr, Config.byteGapLimit, hg]

theorem receiveByte_within (h : s.pins.resetHeld = false) {bytes : List Byte} {gap : Nat}
    (hr : (s.port p).receiver = .receiving bytes gap) (hg : gap ≤ 50) (b : Byte) :
    receiveByte p b s = frameByte p bytes b s := by
  simp [receiveByte, h, hr, Config.byteGapLimit, Nat.not_lt.mpr hg]

/-- A port that is not in the middle of a frame takes A5h as the lead byte of one. -/
theorem receiveByte_lead (h : s.pins.resetHeld = false) (hm : s.midFrame p = false) :
    receiveByte p 0xA5 s = .next (s.receive p (.receiving [] 0)) := by
  cases hr : (s.port p).receiver with
  | hunting => exact receiveByte_hunting h hr _
  | receiving bytes gap =>
    refine receiveByte_late h hr ?_ _
    simpa [State.midFrame, hr, Config.byteGapLimit] using hm

theorem frameByte_long {b : Byte} (hb : 250 < b.toNat) : frameByte p [] b s = .next (s.receive p .hunting) := by
  simp [frameByte, Config.maxBody, byteAt, hb]

theorem frameByte_length {b : Byte} (hb : b.toNat ≤ 250) : frameByte p [] b s = .next (s.receive p (.receiving [b] 0)) := by
  simp [frameByte, Config.maxBody, byteAt, Nat.not_lt.mpr hb]

theorem frameByte_data {n b : Byte} {bytes : List Byte} (hn : n.toNat ≤ 250) (hl : bytes.length + 2 < n.toNat + 5) :
    frameByte p (n :: bytes) b s = .next (s.receive p (.receiving (n :: bytes ++ [b]) 0)) := by
  simp [frameByte, Config.maxBody, byteAt, Nat.not_lt.mpr hn]
  omega

/-! ## The last byte of a frame -/

theorem toNat_crc (hi lo : Byte) : (BitVec.ofNat 16 (hi.toNat * 256 + lo.toNat)).toNat = hi.toNat * 256 + lo.toNat := by
  have := hi.isLt
  have := lo.isLt
  rw [BitVec.toNat_ofNat]
  omega

theorem crcBytes_eq_iff (w : BitVec 16) (hi lo : Byte) :
    crcBytes w = [hi, lo] ↔ BitVec.ofNat 16 (hi.toNat * 256 + lo.toNat) = w := by
  have hhi := hi.isLt
  have hlo := lo.isLt
  have hw := w.isLt
  simp only [crcBytes, List.cons.injEq, and_true, BitVec.toNat_eq, toNat_crc, BitVec.extractLsb'_toNat, Nat.shiftRight_eq_div_pow]
  omega

theorem frameByte_last {hi lo : Byte} (hb : body.length ≤ 250) :
    frameByte p (b8 body.length :: code :: tag :: body ++ [hi]) lo s =
      frameComplete p code tag body (BitVec.ofNat 16 (hi.toNat * 256 + lo.toNat)) s := by
  have hn : byteAt (b8 body.length :: code :: tag :: (body ++ [hi, lo])) 0 = body.length := toNat_b8 (by omega)
  have hcrc : crcAt (b8 body.length :: code :: tag :: (body ++ [hi, lo])) (body.length + 3) =
      BitVec.ofNat 16 (hi.toNat * 256 + lo.toNat) := by
    simp [crcAt, wordAt, byteAt]
  have hall : (b8 body.length :: code :: tag :: body ++ [hi]) ++ [lo] = b8 body.length :: code :: tag :: (body ++ [hi, lo]) := by
    simp
  unfold frameByte
  dsimp only
  rw [hall, hn, if_neg (by simp only [Config.maxBody]; omega), if_neg (by simp), hcrc]
  simp [byteAt, b8]

/-! ## Runs of bytes -/

theorem receiveBytes_single (b : Byte) (s : State) : receiveBytes p [b] s = receiveByte p b s := by
  simp only [receiveBytes]
  split <;> simp_all

theorem receiveBytes_cons {b : Byte} {bs : List Byte} {t : State} (h : receiveByte p b s = .next t) :
    receiveBytes p (b :: bs) s = receiveBytes p bs t := by simp only [receiveBytes, h]

theorem receiveBytes_append (rest : List Byte) : ∀ (first : List Byte) {s t : State}, receiveBytes p first s = .next t →
    receiveBytes p (first ++ rest) s = receiveBytes p rest t
  | [], s, t, h => by cases h; rfl
  | b :: bs, s, t, h => by
    obtain ⟨u, hu⟩ := receiveByte_next (p := p) b s
    rw [receiveBytes_cons hu] at h
    rw [List.cons_append, receiveBytes_cons hu]
    exact receiveBytes_append rest bs h

/-- Bytes that do not complete the frame are its data. -/
theorem receiveBytes_data (h : s.pins.resetHeld = false) {n : Byte} (hn : n.toNat ≤ 250) : ∀ (bs bytes : List Byte),
    bytes.length + bs.length + 1 < n.toNat + 5 → receiveBytes p bs (s.receive p (.receiving (n :: bytes) 0)) =
      .next (s.receive p (.receiving (n :: bytes ++ bs) 0))
  | [], bytes, _ => by rw [List.append_nil]; rfl
  | b :: bs, bytes, hl => by
    simp only [List.length_cons] at hl
    have hb : receiveByte p b (s.receive p (.receiving (n :: bytes) 0)) =
        .next (s.receive p (.receiving (n :: (bytes ++ [b])) 0)) := by
      rw [receiveByte_within (s := s.receive p _) h (State.receiver_receive ..) (Nat.zero_le _), frameByte_data hn (by omega),
        State.receive_receive]
      rfl
    rw [receiveBytes_cons hb, receiveBytes_data h hn bs (bytes ++ [b]) (by simp; omega)]
    simp

theorem crcBytes_eq (w : BitVec 16) : crcBytes w = [w.extractLsb' 8 8, w.extractLsb' 0 8] := rfl

/-- A frame of which a port has all bytes but the last completes with that one. -/
theorem receiveBytes_last (h : s.pins.resetHeld = false) {hi lo : Byte} {gap : Nat} (hb : body.length ≤ 250)
    (hr : (s.port p).receiver = .receiving (b8 body.length :: code :: tag :: body ++ [hi]) gap) (hg : gap ≤ 50) :
    receiveBytes p [lo] s = frameComplete p code tag body (BitVec.ofNat 16 (hi.toNat * 256 + lo.toNat)) s := by
  rw [receiveBytes_single, receiveByte_within h hr hg, frameByte_last hb]

/-- The bytes of a frame, received by a port not in the middle of another, are that frame (R174, R175). -/
theorem receiveBytes_frame (h : s.pins.resetHeld = false) (hm : s.midFrame p = false) (hb : body.length ≤ 250)
    (crc : BitVec 16) : receiveBytes p (frameBytes code tag body crc) s = frameComplete p code tag body crc s := by
  have hn : (b8 body.length).toNat = body.length := toNat_b8 (by omega)
  have hlen : receiveByte p (b8 body.length) (s.receive p (.receiving [] 0)) =
      .next (s.receive p (.receiving [b8 body.length] 0)) := by
    rw [receiveByte_within (s := s.receive p _) h (State.receiver_receive ..) (Nat.zero_le _), frameByte_length (by omega), State.receive_receive]
  have hdata : receiveBytes p (code :: tag :: body ++ [crc.extractLsb' 8 8]) (s.receive p (.receiving [b8 body.length] 0)) =
      .next (s.receive p (.receiving (b8 body.length :: code :: tag :: body ++ [crc.extractLsb' 8 8]) 0)) :=
    receiveBytes_data h (by omega) _ [] (by simp; omega)
  have hsplit : frameBytes code tag body crc = 0xA5 :: b8 body.length ::
      ((code :: tag :: body ++ [crc.extractLsb' 8 8]) ++ [crc.extractLsb' 0 8]) := by
    simp [frameBytes, crcBytes]
  rw [hsplit, receiveBytes_cons (receiveByte_lead h hm), receiveBytes_cons hlen, receiveBytes_append _ _ hdata,
    receiveBytes_last (s := s.receive p _) h hb (State.receiver_receive ..) (Nat.zero_le _), frameComplete_receive h,
    (crcBytes_eq_iff crc _ _).mp (crcBytes_eq crc)]

theorem execByteGapTimeout_eq (h : s.pins.resetHeld = false) :
    exec (.byteGapTimeout p) s = .next (if gapDue (s.port p) then s.hunt p else s) := event_taken _ h

/-- A request command on a port not in the middle of a frame. -/
theorem exec_frame_whole {i : Instr} {f : Frame} (hi : i.frame = some f) (hm : s.midFrame f.port = false) :
    exec i s = frameReceived f.port f.code f.tag f.body s := by
  rw [exec_frame hi, receiveRequest_whole _ hm]

theorem midFrame_hunt (s : State) (p : Port) : (s.hunt p).midFrame p = false := by
  simp [State.midFrame]

end Receiver

/-- Settles O17: byte by byte, and a frame by its bytes one after the other. -/
theorem receiverTakesBytes : Obligations.ReceiverTakesBytes := by
  intro s p h
  refine ⟨fun hr => receiveByte_hunting h hr _, fun bytes gap hr hg => ⟨receiveByte_late h hr hg _, ?_⟩,
    fun bytes gap hr hg => ?_, fun length gap hr hg hl => ?_, fun n bytes gap hr hg hn hl => ?_,
    fun code tag body crc hm hc => ?_, fun hr => ?_, fun length hr hl => ?_, (receiveBytes_single _ s).symm,
    fun length => (receiveBytes_single length s).symm, fun i f hi lo gap hf hp hb hr hg => ?_,
    fun b bytes gap hr hg => ?_, rfl, fun b hr hb => ?_, fun b gap hr hg hb => ?_, fun b n bytes gap hr hg hn hl => ?_,
    fun first rest t ht => receiveBytes_append rest first ht, fun i f hf hp hb => ?_, fun code tag body crc hb => ?_⟩
  · rw [execByteGapTimeout_eq h, if_pos (by simp [gapDue, hr, Config.byteGapLimit, hg])]
    rfl
  · rw [execByteGapTimeout_eq h, if_neg (by simp [gapDue, hr, Config.byteGapLimit, hg])]
  · exact (receiveByte_within h hr hg _).trans (frameByte_long hl)
  · exact (receiveByte_within h hr hg _).trans (frameByte_data hn hl)
  · change onLink p _ _ s = _
    unfold onLink
    rw [if_neg (by simp [hm]), frameComplete_wrong h hc]
    rfl
  · rw [execByteGapTimeout_eq h, if_neg (by simp [gapDue, hr])]
  · refine (receiveByte_hunting h hr _).trans ?_
    rw [huntByte, if_neg hl, ← hr, State.receive_self]
  · subst hp
    have hlast (lo : Byte) := receiveBytes_last (lo := lo) h hb hr hg
    have hexec : exec i (s.hunt f.port) = frameReceived f.port f.code f.tag f.body s := by
      rw [exec_frame_whole hf (midFrame_hunt s _)]
      exact frameReceived_receive h _
    refine ⟨fun hc => ?_, fun hc => ?_, fun hc => ?_⟩
    · rw [hlast, (crcBytes_eq_iff _ _ _).mp hc, frameComplete_right h]
      exact hexec.symm
    · rw [hlast, frameComplete_wrong h fun e => hc ((crcBytes_eq_iff _ _ _).mpr e)]
      rfl
    · refine (receiveBytes_single _ s).symm.trans ?_
      rw [hlast, (crcBytes_eq_iff _ _ _).mp hc, frameComplete_right h]
      exact hexec.symm
  · have hh : ((s.receive p .hunting).port p).receiver = .hunting := State.receiver_receive ..
    rw [receiveBytes_single, receiveBytes_single, receiveByte_late h hr hg]
    refine Eq.symm ((receiveByte_hunting (s := s.receive p .hunting) h hh b).trans ?_)
    rw [State.receive_receive]
  · rw [receiveBytes_single, receiveByte_hunting h hr, huntByte, if_neg hb, ← hr, State.receive_self]
  · rw [receiveBytes_single, receiveByte_within h hr hg, frameByte_length hb]
    rfl
  · rw [receiveBytes_single, receiveByte_within h hr hg, frameByte_data hn hl]
    rfl
  · subst hp
    cases hm : s.midFrame f.port with
    | true => rw [exec_frame hf, receiveRequest_inside _ hm]; rfl
    | false => rw [exec_frame_whole hf hm, ← frameComplete_right h]; exact (receiveBytes_frame h hm hb _).symm
  · change onLink p _ _ s = _
    unfold onLink
    split
    · rfl
    · next hm => exact (receiveBytes_frame h (by simpa using hm) hb crc).symm

end Sys2Proof.Machine
end

section
/-!
PROOFS. The transmitter, the CRC word and the notice requests; the statements TransmitterKeepsOrder,
CrcWordFollowsGenerator and NoticeRequestsActOnOwnPort.
-/

namespace Sys2Proof.Machine

theorem EventOf.taken {i : Instr} {f : State → State} {s : State} (hf : EventOf i f) (h : s.pins.resetHeld = false) :
    Machine.exec i s = .next (f s) := by rw [hf.exec, event_taken f h]

theorem State.setPort_self (s : State) (p : Port) : s.setPort p (s.port p) = s := by cases p <;> rfl

/-! ## The transmitter (R178) -/

/-- Settles O18: by what waits behind the frame being sent. -/
theorem transmitterKeepsOrder : Obligations.TransmitterKeepsOrder := by
  refine ⟨fun x frame => ⟨fun hs => ?_, fun f hs hw => ?_, fun f hs hw => ?_⟩, fun s p h => ⟨fun hs => ?_, fun f hs => ?_⟩,
    fun s p code tag st body => ⟨?_, fun q hq => ?_⟩⟩
  · simp [PortState.send, hs]
  · simp [PortState.send, hs, Config.txRoom, hw]
  · simp [PortState.send, hs, Config.txRoom, Nat.not_lt.mpr hw]
  · rw [(EventOf.answerSent p).taken h, PortState.sent, hs, State.setPort_self]
  · rw [(EventOf.answerSent p).taken h, PortState.sent, hs]
  · rw [State.answered, State.port_answer_same, State.port_hunt_same]
    rfl
  · rw [State.answered, State.port_answer_other _ _ _ _ _ hq, State.port_hunt_other _ hq]

/-! ## The CRC word (R175) -/

/-- A bit equal to the register's top one only shifts the register. -/
theorem crcBit_shift {r : BitVec 16} {b : Bool} (h : r.getLsbD 15 = b) : crcBit r b = r <<< 1 := by
  have hm : r.msb = b := (BitVec.msb_eq_getLsbD_last r).trans h
  simp [crcBit, hm]

/-- A byte equal to the register's upper one only shifts the register. -/
theorem crcByte_shift {r : BitVec 16} {b : Byte} (h : ∀ i < 8, b.getLsbD i = r.getLsbD (i + 8)) : crcByte r b = r <<< 8 := by
  have bit (k i : Nat) (hk : i + k = 7) : (r <<< k).getLsbD 15 = b.getLsbD i := by
    rw [BitVec.getLsbD_shiftLeft, h i (by omega)]
    simp [show 15 - k = i + 8 by omega, show ¬ 15 < k by omega]
  have h0 : r.getLsbD 15 = b.getLsbD 7 := (h 7 (by omega)).symm
  simp only [crcByte, List.foldl]
  rw [crcBit_shift h0, crcBit_shift (bit 1 6 rfl), ← BitVec.shiftLeft_add, crcBit_shift (bit 2 5 rfl), ← BitVec.shiftLeft_add,
    crcBit_shift (bit 3 4 rfl), ← BitVec.shiftLeft_add, crcBit_shift (bit 4 3 rfl), ← BitVec.shiftLeft_add,
    crcBit_shift (bit 5 2 rfl), ← BitVec.shiftLeft_add, crcBit_shift (bit 6 1 rfl), ← BitVec.shiftLeft_add,
    crcBit_shift (bit 7 0 rfl), ← BitVec.shiftLeft_add]

/-- Settles O19: a byte equal to the upper byte of the register only shifts it, and the CRC word is two such bytes. -/
theorem crcWordFollowsGenerator : Obligations.CrcWordFollowsGenerator := by
  refine ⟨rfl, fun bytes b => ?_, fun bytes => ?_⟩
  · intro generator bit
    have hbit : crcBit = bit := funext₂ fun r x => by
      have hgen : (1#16 <<< 12) ^^^ (1#16 <<< 5) ^^^ 1#16 = 0x1021 := by decide
      change crcBit r x = if (r.getLsbD 15 ^^ x) = true then (r <<< 1) ^^^ ((1#16 <<< 12) ^^^ (1#16 <<< 5) ^^^ 1#16) else r <<< 1
      rw [hgen, crcBit, BitVec.msb_eq_getLsbD_last]
    rw [← hbit, crcWord, List.foldl_append]
    rfl
  · have hsplit : crcWord (bytes ++ crcBytes (crcWord bytes)) = crcByte (crcByte (crcWord bytes) ((crcWord bytes).extractLsb' 8 8))
        ((crcWord bytes).extractLsb' 0 8) := by
      rw [crcWord, List.foldl_append]
      rfl
    have hfirst : crcByte (crcWord bytes) ((crcWord bytes).extractLsb' 8 8) = crcWord bytes <<< 8 :=
      crcByte_shift fun i hi => by simp [hi, Nat.add_comm]
    have hsecond : crcByte (crcWord bytes <<< 8) ((crcWord bytes).extractLsb' 0 8) = crcWord bytes <<< 8 <<< 8 :=
      crcByte_shift fun i hi => by simp [hi, show i + 8 < 16 by omega, BitVec.getLsbD_eq_getElem (show i < 16 by omega)]
    rw [hsplit, hfirst, hsecond, ← BitVec.shiftLeft_add]
    exact BitVec.shiftLeft_eq_zero (by decide)

/-! ## Notices (R179 to R181) -/

section Answers

variable {p : Port} {code tag : Byte} {body : List Byte} {s : State}

/-- A request that is taken and answered changes its port's own fields and forms the answer. -/
theorem hunt_setPort (s : State) (p : Port) (f : PortState → PortState)
    (hf : ∀ x, f { x with receiver := .hunting } = { f x with receiver := .hunting }) :
    (s.hunt p).setPort p (f ((s.hunt p).port p)) = (s.setPort p (f (s.port p))).hunt p := by
  rw [State.port_hunt_same, hf]
  cases p <;> rfl

theorem answer_hunt_setPort (f : PortState → PortState) (st : Status)
    (hf : ∀ x, f { x with receiver := .hunting } = { f x with receiver := .hunting }) :
    ((s.hunt p).setPort p (f ((s.hunt p).port p))).answer p code tag st body =
      (s.setPort p (f (s.port p))).answered p code tag st body := by
  rw [hunt_setPort s p f hf]
  rfl

end Answers

theorem maskAt_four (a b c d : Byte) : maskAt [a, b, c, d] 0 = a ++ b ++ c ++ d := by
  have ha := a.isLt
  have hb := b.isLt
  have hc := c.isLt
  have hd := d.isLt
  refine BitVec.eq_of_toNat_eq ?_
  simp only [maskAt, wordAt, byteAt, BitVec.toNat_ofNat, BitVec.toNat_append]
  rw [← Nat.shiftLeft_add_eq_or_of_lt hd, ← Nat.shiftLeft_add_eq_or_of_lt hc, ← Nat.shiftLeft_add_eq_or_of_lt hb]
  simp only [Nat.shiftLeft_eq, List.getElem?_cons_zero, List.getElem?_cons_succ, Option.getD_some]
  omega

/-- The notice of a flag number (R190). -/
def Notice.ofNumber : Nat → Option Notice
  | 0 => some .intakeOverrun
  | 1 => some .laneDesync
  | 2 => some .recordExpired
  | 3 => some .unmeasuredSheet
  | 4 => some .gradeLate
  | 5 => some .ruleFault
  | 6 => some .trackOverflow
  | 7 => some .dropAbandoned
  | 8 => some .missedLanding
  | 9 => some .stackFull
  | 10 => some .stackEmpty
  | 11 => some .stackFault
  | 12 => some .encoderStall
  | 13 => some .estop
  | 14 => some (.panelReady .a)
  | 15 => some (.panelDropped .a)
  | 16 => some (.lineStopped .a)
  | 17 => some (.lineStarved .a)
  | 18 => some (.drawDone .a)
  | 19 => some (.feederFault .a)
  | 20 => some (.panelReady .b)
  | 21 => some (.panelDropped .b)
  | 22 => some (.lineStopped .b)
  | 23 => some (.lineStarved .b)
  | 24 => some (.drawDone .b)
  | 25 => some (.feederFault .b)
  | _ => none

theorem Notice.ofNumber_number (n : Notice) : Notice.ofNumber n.number = some n := by
  rcases n with _ | _ | _ | _ | _ | _ | _ | _ | _ | _ | _ | _ | _ | _ | l | l | l | l | l | l
  case panelReady | panelDropped | lineStopped | lineStarved | drawDone | feederFault => cases l <;> rfl
  all_goals rfl

theorem Notice.number_injective {m n : Notice} (h : m.number = n.number) : m = n :=
  Option.some.inj (m.ofNumber_number.symm.trans ((congrArg Notice.ofNumber h).trans n.ofNumber_number))

theorem Notice.number_lt (n : Notice) : n.number < 26 := by
  by_contra hn
  have h := n.ofNumber_number
  obtain ⟨k, hk⟩ := Nat.exists_eq_add_of_le (not_lt.mp hn)
  rw [hk, Nat.add_comm] at h
  cases h

theorem Notice.getLsbD_bit (n : Notice) (m : Nat) : n.bit.getLsbD m = decide (m = n.number) := by
  have := n.number_lt
  simp only [Notice.bit, BitVec.getLsbD_shiftLeft, BitVec.getLsbD_one]
  by_cases h : m = n.number
  · simp [h]; omega
  · simp [h]; omega

theorem PortState.noticeLine_iff (x : PortState) :
    x.noticeLine = true ↔ ∃ m, m < 32 ∧ x.notices.getLsbD m = true ∧ x.mask.getLsbD m = true := by
  have hbit (m : Nat) : (x.notices &&& x.mask).getLsbD m = true ↔ x.notices.getLsbD m = true ∧ x.mask.getLsbD m = true := by
    simp
  simp only [PortState.noticeLine, bne_iff_ne, ← hbit]
  constructor
  · intro hne
    by_contra hall
    refine hne (BitVec.eq_of_getLsbD_eq fun i hi => ?_)
    have hi' := (not_exists.mp hall) i
    simp only [hi, true_and, Bool.not_eq_true] at hi'
    simpa using hi'
  · rintro ⟨m, -, hm⟩ h0
    simp [h0] at hm

theorem raise_notices (s : State) (n : Notice) (p : Port) : ((s.raise n).port p).notices = (s.port p).notices ||| n.bit := by
  cases p <;> rfl

/-- Settles O20: each request by the port state it leaves. -/
theorem noticeRequestsActOnOwnPort : Obligations.NoticeRequestsActOnOwnPort := by
  refine ⟨fun s p tag a b c d h => ⟨?_, ?_⟩,
    ⟨fun s n p m => by rw [raise_notices, BitVec.getLsbD_or, n.getLsbD_bit], Notice.number_lt, fun m n => Notice.number_injective,
      PortState.noticeLine_iff⟩,
    fun s p tag h => ⟨?_, fun body hl => ?_, fun body hl => ⟨?_, ?_⟩⟩, fun s => ⟨_, rfl, fun p => by cases p <;> exact ⟨rfl, rfl⟩⟩⟩
  · have hleft : acknowledged ((s.hunt p).port p).notices (maskAt [a, b, c, d] 0) (s.hunt p).estop =
        (s.port p).notices &&& ~~~(if s.estop then a ++ b ++ c ++ d &&& ~~~(1#32 <<< 13) else a ++ b ++ c ++ d) := by
      rw [State.port_hunt_same, maskAt_four]
      rfl
    generalize ((s.port p).notices &&& ~~~(if s.estop then a ++ b ++ c ++ d &&& ~~~(1#32 <<< 13) else a ++ b ++ c ++ d)) = left
      at hleft ⊢
    have hblock : ackNotices p [a, b, c, d] (s.hunt p) =
        okReply ((s.hunt p).setPort p { (s.hunt p).port p with notices := left }) (b32 left) := by
      unfold ackNotices
      rw [if_neg (by simp)]
      simp only [hleft]
    exact (receiveRequest_whole _ h.whole).trans ((serve_ok h hblock).trans
      (congrArg Host.Outcome.next (answer_hunt_setPort (fun x => { x with notices := left }) .ok fun _ => rfl)))
  · have hblock : setNoticeMask p [a, b, c, d] (s.hunt p) =
        okReply ((s.hunt p).setPort p { (s.hunt p).port p with mask := a ++ b ++ c ++ d }) (b32 (s.port p).mask) := by
      unfold setNoticeMask
      rw [if_neg (by simp), maskAt_four, State.port_hunt_same]
    exact (receiveRequest_whole _ h.whole).trans ((serve_ok h hblock).trans
      (congrArg Host.Outcome.next (answer_hunt_setPort (fun x => { x with mask := a ++ b ++ c ++ d }) .ok fun _ => rfl)))
  · have hblock : readNotices p [] (s.hunt p) = okReply (s.hunt p)
        (b32 (s.port p).notices ++ b32 (s.port p).mask ++ [if s.estop then 1 else 0]) := by
      unfold readNotices
      rw [if_neg (by simp), State.port_hunt_same]
      rfl
    exact (receiveRequest_whole _ h.whole).trans (serve_ok h hblock)
  · exact (receiveRequest_whole _ h.whole).trans (serve_refuse h (if_pos hl))
  · exact (receiveRequest_whole _ h.whole).trans (serve_refuse h (if_pos hl))
  · exact (receiveRequest_whole _ h.whole).trans (serve_refuse h (if_pos hl))

end Sys2Proof.Machine
end

section
/-!
PROOFS. The arbiter's turns (R50), the record of a sheet submitted (R4 to R6), the class tests and the result of a path
copy (R27 to R34); the statements ArbiterServesEachInTurn, SubmittedRecordIsClamped and ClassTestsAndPathResult.
-/

namespace Sys2Proof.Machine

/-! ## The arbiter -/

/-- The requester that follows in the cycle GU1, GU2, PORT. -/
def Requester.following : Requester → Requester
  | .gu1 => .gu2
  | .gu2 => .port
  | .port => .gu1

theorem cycleAfter_eq (r : Requester) : cycleAfter r = [r.following, r.following.following, r] := by cases r <;> rfl

theorem Requester.following_ne (r : Requester) : r.following ≠ r := by cases r <;> decide

theorem mem_cycleAfter (g r : Requester) : r ∈ cycleAfter g := by cases g <;> cases r <;> decide

theorem Requester.eq_following {g r : Requester} (h : r ≠ g) (h' : r ≠ g.following) : r = g.following.following := by
  have hm := mem_cycleAfter g r
  rw [cycleAfter_eq] at hm
  simpa [h, h'] using hm

theorem waiting_of_arbiterNext {s : State} {r : Requester} (h : arbiterNext s = some r) : isWaiting s r = true :=
  List.find?_some h

theorem arbiterNext_ne_none {s : State} {r : Requester} (h : isWaiting s r = true) : arbiterNext s ≠ none := fun e =>
  List.find?_eq_none.mp e r (mem_cycleAfter _ r) h

/-- The requester that follows the last grant is granted if it waits. -/
theorem arbiterNext_following {s : State} (h : isWaiting s s.tables.lastGrant.following = true) :
    arbiterNext s = some s.tables.lastGrant.following := by
  rw [arbiterNext, cycleAfter_eq, List.find?_cons_of_pos h]

/-- A waiting requester other than the last grant is passed over only by the one that follows the last grant, and comes
after it. -/
theorem passed_over {s : State} {r h : Requester} (hr : isWaiting s r = true) (hl : s.tables.lastGrant ≠ r)
    (hn : arbiterNext s = some h) (hne : h ≠ r) : h = s.tables.lastGrant.following ∧ r = h.following := by
  rw [arbiterNext, cycleAfter_eq] at hn
  by_cases hw : isWaiting s s.tables.lastGrant.following = true
  · rw [List.find?_cons_of_pos hw] at hn
    cases hn
    exact ⟨rfl, Requester.eq_following (Ne.symm hl) (Ne.symm hne)⟩
  · have hf : r = s.tables.lastGrant.following.following :=
      Requester.eq_following (Ne.symm hl) fun e => hw (e ▸ hr)
    rw [List.find?_cons_of_neg hw, List.find?_cons_of_pos (hf ▸ hr)] at hn
    exact absurd (Option.some.inj hn) (fun e => hne (e.symm.trans hf.symm))

/-- Settles O29: in the cycle of three, a requester that goes on waiting has one other before it, then none. -/
theorem arbiterServesEachInTurn : Obligations.ArbiterServesEachInTurn := by
  unfold Obligations.ArbiterServesEachInTurn
  refine ⟨fun s r => waiting_of_arbiterNext, fun s r => arbiterNext_ne_none, ?_, ?_⟩
  · intro s t v r g h _ _ hg ht hr hn hne
    subst ht
    obtain ⟨hh, hfol⟩ := passed_over hr hg hn hne
    refine ⟨hh ▸ Requester.following_ne _, fun hv hw => ?_⟩
    subst hv
    rw [hfol] at hw ⊢
    exact arbiterNext_following hw
  · intro s r hr honly
    cases hn : arbiterNext s with
    | none => exact absurd hn (arbiterNext_ne_none hr)
    | some h => rw [honly h (waiting_of_arbiterNext hn)]

/-! ## The record of a sheet submitted -/

theorem outside_iff (lo hi x : Nat) (h : lo ≤ hi) : outside lo hi x = true ↔ x < lo ∨ hi < x := by
  simp only [outside, clamp, bne_iff_ne]
  omega

theorem length_defectsAt (body : List Byte) (off n : Nat) : (defectsAt body off n).length = n := by
  induction n generalizing off with
  | zero => rfl
  | succ n ih => rw [defectsAt, List.length_cons, ih]

theorem getElem?_defectsAt (body : List Byte) (off : Nat) {n i : Nat} (h : i < n) :
    (defectsAt body off n)[i]? = some (defectAt body (off + 3 * i)) := by
  induction n generalizing off i with
  | zero => exact absurd h (Nat.not_lt_zero i)
  | succ n ih =>
    cases i with
    | zero => rfl
    | succ i => rw [defectsAt, List.getElem?_cons_succ, ih _ (Nat.lt_of_succ_lt_succ h), Nat.mul_succ,
        Nat.add_comm (3 * i), Nat.add_assoc]

/-- A test holds of some defect sent exactly if it holds of the one at some offset (R186). -/
theorem any_defectsAt (body : List Byte) (off n : Nat) (f : Defect → Bool) :
    (defectsAt body off n).any f = true ↔ ∃ i, i < n ∧ f (defectAt body (off + 3 * i)) = true := by
  rw [List.any_eq_true]
  constructor
  · rintro ⟨d, hd, hf⟩
    obtain ⟨i, hi⟩ := List.mem_iff_getElem?.mp hd
    have hlt : i < n := by
      have := (List.getElem?_eq_some_iff.mp hi).1
      rwa [length_defectsAt] at this
    rw [getElem?_defectsAt body off hlt] at hi
    exact ⟨i, hlt, Option.some.inj hi ▸ hf⟩
  · rintro ⟨i, hi, hf⟩
    exact ⟨_, List.mem_of_getElem? (getElem?_defectsAt body off hi), hf⟩

theorem optField_map_clamp (w hi : Nat) :
    (optField w).map (clamp 0 hi) = if w = 0xFFFF then none else some (min hi w) := by
  rw [optField]
  split
  · rfl
  · simp [clamp]

theorem optField_any_outside (w hi : Nat) : (optField w).any (outside 0 hi) = true ↔ w ≠ 0xFFFF ∧ hi < w := by
  rw [optField]
  split
  next h => simp [h]
  next h => simp [h, outside_iff]

/-- Settles O22: each field of the record, the defects by their offsets. -/
theorem submittedRecordIsClamped : Obligations.SubmittedRecordIsClamped := by
  unfold Obligations.SubmittedRecordIsClamped
  intro body lane number round slot r word count kind edge size
  have hclamped : r.flags.clamped = true ↔
      word 8 < 200 ∨ 1600 < word 8 ∨ word 10 < 400 ∨ 3200 < word 10 ∨ (word 4 ≠ 0xFFFF ∧ 9999 < word 4) ∨
        (word 6 ≠ 0xFFFF ∧ 400 < word 6) ∨ ∃ i, i < count ∧ 2000 < size i := by
    have hsize (i : Nat) : outside 0 2000 (defectAt body (12 + 3 * i)).size = true ↔ 2000 < size i :=
      (outside_iff 0 2000 _ (by omega)).trans (or_iff_right (Nat.not_lt_zero _))
    change (outside 200 1600 (word 8) || outside 400 3200 (word 10) || (optField (word 4)).any (outside 0 9999)
      || (optField (word 6)).any (outside 0 400)
      || (defectsAt body 12 count).any (fun d => outside 0 2000 d.size)) = true ↔ _
    simp only [Bool.or_eq_true, outside_iff _ _ _ (show (200 : Nat) ≤ 1600 by omega),
      outside_iff _ _ _ (show (400 : Nat) ≤ 3200 by omega), optField_any_outside, any_defectsAt, hsize, or_assoc]
  have hbad : r.flags.badDefect = true ↔ ∃ i, i < count ∧ (kind i = 6 ∨ kind i = 7) := by
    refine (any_defectsAt body 12 count _).trans (exists_congr fun i => and_congr_right fun _ => ?_)
    have h8 : kind i < 8 := Nat.mod_lt _ (by omega)
    change decide (6 ≤ kind i) = true ↔ _
    rw [decide_eq_true_iff]
    omega
  refine ⟨rfl, rfl, rfl, rfl, rfl, optField_map_clamp _ _, optField_map_clamp _ _, rfl, rfl, ?_, fun i hi => ?_,
    hclamped, hbad, rfl, rfl, rfl, rfl, rfl, rfl, rfl, rfl, rfl, rfl, rfl⟩
  · exact (List.length_map _).trans (length_defectsAt body 12 count)
  · refine (List.getElem?_map).trans ((congrArg _ (getElem?_defectsAt body 12 hi)).trans ?_)
    exact congrArg (fun n => some (Defect.mk (kind i) (if edge i then .edge else .field) n)) (Nat.zero_max _)

/-! ## The class tests and the result -/

theorem Cell16.word_eq (x : Cell16) (k : Nat) (h : k + 1 < 16) :
    x.word k = (x[k]'(by omega)).toNat * 256 + (x[k + 1]'h).toNat := by
  simp [Cell16.word, wordAt, byteAt, Nat.lt_of_succ_lt h, h]

theorem classesExist_iff (y : Cell16) : classesExist y = true ↔ 1 ≤ y.classCount ∧ y.classCount ≤ 8 ∧ y.classStep ≠ 0 := by
  simp [classesExist, and_assoc]

theorem thicknessClass_format {y : Cell16} (h : classesExist y = false) (x : Nat) :
    thicknessClass (some x) y = .error .format := by simp [thicknessClass, h]

theorem thicknessClass_below {y : Cell16} (h : classesExist y = true) {x : Nat} (hx : x < y.classBase) :
    thicknessClass (some x) y = .error .thicknessRange := by simp [thicknessClass, h, hx]

theorem thicknessClass_at {y : Cell16} (h : classesExist y = true) {x k : Nat} (hx : y.classBase ≤ x)
    (hlo : k * y.classStep ≤ x - y.classBase) (hhi : x - y.classBase < (k + 1) * y.classStep) :
    thicknessClass (some x) y = if k < y.classCount then .ok k else .error .thicknessRange := by
  have hk : (x - y.classBase) / y.classStep = k := Nat.div_eq_of_lt_le hlo hhi
  rw [thicknessClass, if_neg (not_not.mpr h), if_neg (Nat.not_lt.mpr hx), hk, ite_not]

theorem gradeClass_eq {g : Nat} (h1 : 1 ≤ g) (h6 : g ≤ 6) :
    gradeClass g = [SheetClass.g1, .g2, .g3, .g4, .g5, .g6].getD (g - 1) .g6 := by
  interval_cases g <;> rfl

theorem computedGrade_pos (r : SheetRecord) (p : PathCopy) : 1 ≤ computedGrade r p := by
  rw [computedGrade, firstGrade_eq_add_findIdx]
  omega

theorem computedGrade_le (r : SheetRecord) (p : PathCopy) : computedGrade r p ≤ 6 := by
  rw [computedGrade, firstGrade_eq_add_findIdx]
  have hlen : (gradeLimits p.lim1 p.lim2).length = 5 := rfl
  have := List.findIdx_le_length (xs := gradeLimits p.lim1 p.lim2)
    (p := (·.admits (defectDensity (defectScore p.lim1 r.defects) (r.width.getD 0 * r.length.getD 0))
      (openCount r.defects) (openSize r.defects)))
  omega

theorem adjustedGrade_bounds {g : Nat} (h1 : 1 ≤ g) (h6 : g ≤ 6) (dry omitted noMoisture : Bool) :
    1 ≤ adjustedGrade g dry omitted noMoisture ∧ adjustedGrade g dry omitted noMoisture ≤ 6 := by
  cases dry <;> cases omitted <;> cases noMoisture <;> simp only [adjustedGrade, if_true, if_false, Bool.false_eq_true] <;>
    omega

/-- A record in good order and not above the redry limit is graded by its figures (R34, R35). -/
theorem computeResult_dry {r : SheetRecord} {k : Nat} {p : PathCopy} (hb : r.flags.badDefect = false)
    (hwet : ∀ m, r.moisture = some m → m ≤ p.thick.redry) :
    let dry := r.moisture.any fun m => decide (m < p.thick.overdry)
    computeResult r k p = { cls := gradeClass (adjustedGrade (computedGrade r p) dry r.flags.defectsOmitted r.moisture.isNone),
                            status := .graded, fault := none, overdry := dry, noMoisture := r.moisture.isNone,
                            thickClass := some k } := by
  cases hm : r.moisture with
  | none => simp [computeResult, hb, hm]
  | some m => simp [computeResult, hb, hm, Nat.not_lt.mpr (hwet m hm)]

/-- Settles O26: the class tests one by one, and the result by the order of its branches. -/
theorem classTestsAndPathResult : Obligations.ClassTestsAndPathResult := by
  unfold Obligations.ClassTestsAndPathResult
  refine ⟨?_, ?_⟩
  · intro t y count base width
    refine ⟨fun h => h ▸ rfl, fun x hx => ?_⟩
    subst hx
    have hbase : y.classBase = base := y.word_eq 5 (by omega)
    have hwidth : y.classStep = width := y.word_eq 7 (by omega)
    have hex : classesExist y = true ↔ 1 ≤ count ∧ count ≤ 8 ∧ width ≠ 0 := hwidth ▸ classesExist_iff y
    rw [← hbase]
    refine ⟨fun h => thicknessClass_format (Bool.eq_false_iff.mpr fun e => ?_) x, fun h1 h8 hw => ?_⟩
    · obtain ⟨h1, h8, hw⟩ := hex.mp e
      rcases h with h | h | h <;> omega
    · have he := hex.mpr ⟨h1, h8, hw⟩
      refine ⟨fun h => thicknessClass_below he h, fun k hb hlo hhi => ?_⟩
      rw [← hwidth] at hlo hhi
      refine ⟨fun hk => ?_, fun hk => ?_⟩
      · exact (thicknessClass_at he hb hlo hhi).trans (if_pos hk)
      · exact (thicknessClass_at he hb hlo hhi).trans (if_neg (Nat.not_lt.mpr hk))
  · intro r k p redry overLimit result dry g1 g2 g3
    have hredry : p.thick.redry = redry := p.thick.word_eq 4 (by omega)
    have hover : p.thick.overdry = overLimit := p.thick.word_eq 6 (by omega)
    refine ⟨fun hb => if_pos hb, fun m hb hm hwet => ?_, fun hb hwet => ?_⟩
    · have hw : p.thick.redry < m := hredry ▸ hwet
      simp [result, computeResult, hb, hm, hw]
    · have hcases : result = _ := computeResult_dry (k := k) hb (hredry ▸ hwet)
      rw [hover] at hcases
      have hg : g3 = adjustedGrade (computedGrade r p) dry r.flags.defectsOmitted r.moisture.isNone := by
        cases hm : r.moisture with
        | none => simp [g3, g2, g1, adjustedGrade, hm, Nat.min_comm]
        | some m => simp [g3, g2, g1, adjustedGrade, hm, Nat.min_comm]
      obtain ⟨hlo, hhi⟩ := adjustedGrade_bounds (computedGrade_pos r p) (computedGrade_le r p) dry r.flags.defectsOmitted
        r.moisture.isNone
      rw [← hg] at hlo hhi
      refine ⟨hlo, hhi, ?_⟩
      have hnone : decide (r.moisture = none) = r.moisture.isNone := by cases r.moisture <;> rfl
      rw [hcases, ← hg, gradeClass_eq hlo hhi, hnone]

end Sys2Proof.Machine
end

section
/-!
PROOFS. Receivers apart: what a block does to the mill it does the same with a port hunting, one lemma per operation, so an
accepted request's answer is formed on the state its rule names.
-/

namespace Sys2Proof.Machine

variable {s : State} {p : Port} {code tag : Byte} {body : List Byte}

/-! ## An accepted request -/

/-- A request accepted: the frame taken, the answer formed, and `t` else. -/
theorem serve_done {block : State → Reply} {t : State} {out : List Byte} (h : Ready s p)
    (hb : block (s.hunt p) = okReply (t.hunt p) out) :
    serve code p tag block s = .next (t.answered p code tag .ok out) := serve_ok h hb

/-! ## Updates -/

section Updates
variable (s : State) (p : Port)

@[simp] theorem State.setLane_hunt (l : Lane) (x : IntakeLane) : (s.hunt p).setLane l x = (s.setLane l x).hunt p := rfl
@[simp] theorem State.setIntake_hunt (x : Intake) : (s.hunt p).setIntake x = (s.setIntake x).hunt p := rfl
@[simp] theorem State.setJob_hunt (u : Lane) (x : Option GradingJob) : (s.hunt p).setJob u x = (s.setJob u x).hunt p := rfl
@[simp] theorem State.setTables_hunt (x : Tables) : (s.hunt p).setTables x = (s.setTables x).hunt p := rfl
@[simp] theorem State.setCache_hunt (u : Lane) (x : RuleCache) : (s.hunt p).setCache u x = (s.setCache u x).hunt p := rfl
@[simp] theorem State.setTracking_hunt (x : Tracking) : (s.hunt p).setTracking x = (s.setTracking x).hunt p := rfl
@[simp] theorem State.setQueue_hunt (q : List TrackEntry) : (s.hunt p).setQueue q = (s.setQueue q).hunt p := rfl
@[simp] theorem State.setStack_hunt (k : StackId) (x : Stack) : (s.hunt p).setStack k x = (s.setStack k x).hunt p := rfl
@[simp] theorem State.setSk_hunt (x : Stacks) : (s.hunt p).setSk x = (s.setSk x).hunt p := rfl
@[simp] theorem State.setLine_hunt (l : Line) (x : LineState) : (s.hunt p).setLine l x = (s.setLine l x).hunt p := rfl
@[simp] theorem State.setLines_hunt (x : Lines) : (s.hunt p).setLines x = (s.setLines x).hunt p := rfl
@[simp] theorem State.raise_hunt (n : Notice) : (s.hunt p).raise n = (s.raise n).hunt p := by cases p <;> rfl
@[simp] theorem State.raiseIf_hunt (c : Bool) (n : Notice) : (s.hunt p).raiseIf c n = (s.raiseIf c n).hunt p := by
  cases c
  · rfl
  · exact State.raise_hunt s p n
@[simp] theorem State.countRunOut_hunt : (s.hunt p).countRunOut = s.countRunOut.hunt p := rfl
@[simp] theorem State.countSheet_hunt : (s.hunt p).countSheet = s.countSheet.hunt p := rfl
@[simp] theorem State.onCaches_hunt (scope : Scope) (f : RuleCache → RuleCache) :
    (s.hunt p).onCaches scope f = (s.onCaches scope f).hunt p := rfl

/-! ## Gradings -/

@[simp] theorem State.abandon_hunt (r : SheetRecord) (d : Bool) : (s.hunt p).abandon r d = (s.abandon r d).hunt p := by
  simp only [State.abandon, State.job_hunt]
  split
  · rfl
  · split <;> rfl

@[simp] theorem State.abandonAll_hunt (rs : List SheetRecord) : (s.hunt p).abandonAll rs = (s.abandonAll rs).hunt p := by
  induction rs generalizing s with
  | nil => rfl
  | cons r rs ih =>
    change ((s.hunt p).abandon r true).abandonAll rs = ((s.abandon r true).abandonAll rs).hunt p
    rw [State.abandon_hunt, ih]

theorem takeOldest_hunt (u : Lane) : takeOldest u (s.hunt p) = (takeOldest u s).map fun x => (x.1, x.2.hunt p) := by
  simp only [takeOldest, State.hunt_tracking, State.lane_hunt]
  split
  · rfl
  · split <;> rfl

theorem deliver_hunt (u : Lane) (n : Nat) (g : GradeResult) : deliver u n g (s.hunt p) = (deliver u n g s).hunt p := by
  simp only [deliver, State.hunt_tracking, State.lane_hunt, State.setLane_hunt, State.setQueue_hunt, State.raiseIf_hunt]
  split
  · rfl
  · split <;> rfl

theorem gradeOn_hunt (u : Lane) (fuel : Nat) : gradeOn u fuel (s.hunt p) = (gradeOn u fuel s).hunt p := by
  induction fuel generalizing s with
  | zero => rfl
  | succ fuel ih =>
    simp only [gradeOn, State.job_hunt, takeOldest_hunt]
    cases s.job u with
    | some j => rfl
    | none =>
      cases takeOldest u s with
      | none => rfl
      | some x =>
        obtain ⟨r, t⟩ := x
        have hb : beginStages u r (t.hunt p) = beginStages u r t := rfl
        simp only [Option.map_some, hb]
        split
        · rfl
        · rw [deliver_hunt, ih]

@[simp] theorem gradeNext_hunt (u : Lane) : gradeNext u (s.hunt p) = (gradeNext u s).hunt p := gradeOn_hunt s p u _

end Updates

end Sys2Proof.Machine
end

section
/-!
PROOFS. Sheet records that leave: what discarding them does to the gradings, LANE RESYNC, expiry and the handover of a merge
event; the statements ResyncAndExpiryRemoveRecords and MergeHandsOneSheetOver.
-/

namespace Sys2Proof.Machine

variable {s : State} {p : Port} {code tag : Byte} {body : List Byte}

/-! ## Gradings given up (R37, R39) -/

/-- Record `r` is the one that job `j` of unit `u` is begun for or abandoned with, and its grading goes on for it. -/
def GivenUp (u : Lane) (j : GradingJob) (r : SheetRecord) : Prop :=
  r.lane = u ∧ r.number = j.number ∧ r.round = j.round ∧ r.status = .grading ∧ (r.cls = none ∨ j.abandoned = true)

theorem abandon_idle {r : SheetRecord} (h : s.job r.lane = none) (d : Bool) : s.abandon r d = s := by
  simp [State.abandon, h]

theorem abandon_hit {r : SheetRecord} {j : GradingJob} (hj : s.job r.lane = some j) (h : GivenUp r.lane j r) (d : Bool) :
    s.abandon r d = s.setJob r.lane (some { j with abandoned := true, slotHeld := if d then none else j.slotHeld }) := by
  obtain ⟨-, hn, hr, hg, hc⟩ := h
  simp [State.abandon, hj, GradingJob.isFor, hn, hr, hg, hc]

theorem abandon_miss {r : SheetRecord} {j : GradingJob} (hj : s.job r.lane = some j) (h : ¬ GivenUp r.lane j r) (d : Bool) :
    s.abandon r d = s := by
  simp only [State.abandon, hj]
  refine if_neg fun ⟨hf, hg, hc⟩ => h ?_
  obtain ⟨hn, hr⟩ := (j.isFor_iff r).mp hf
  exact ⟨rfl, hn.symm, hr.symm, hg, hc⟩

theorem job_abandon_none {u : Lane} {r : SheetRecord} (h : s.job u = none) : (s.abandon r true).job u = none := by
  rcases s.abandon_cases r true with e | ⟨j, hj, -, -, -, e⟩
  · rw [e, h]
  · by_cases hu : u = r.lane
    · rw [hu, hj] at h
      cases h
    · rw [e, State.job_setJob_other _ _ hu, h]

theorem job_abandon_hit {u : Lane} {j : GradingJob} {r : SheetRecord} (hj : s.job u = some j) (h : GivenUp u j r) :
    (s.abandon r true).job u = some { j with abandoned := true, slotHeld := none } := by
  have hu := h.1
  subst hu
  rw [abandon_hit hj h, State.job_setJob_same]
  rfl

theorem job_abandon_miss {u : Lane} {j : GradingJob} {r : SheetRecord} (hj : s.job u = some j) (h : ¬ GivenUp u j r) :
    (s.abandon r true).job u = some j := by
  by_cases hu : r.lane = u
  · subst hu
    rw [abandon_miss hj h, hj]
  · rcases s.abandon_cases r true with e | ⟨j', -, -, -, -, e⟩
    · rw [e, hj]
    · rw [e, State.job_setJob_other _ _ (Ne.symm hu), hj]

theorem job_abandonAll_none {u : Lane} {rs : List SheetRecord} (h : s.job u = none) : (s.abandonAll rs).job u = none := by
  induction rs generalizing s with
  | nil => exact h
  | cons r rs ih => exact ih (job_abandon_none h)

theorem job_abandonAll_kept {u : Lane} {rs : List SheetRecord} {j : GradingJob} (hj : s.job u = some j)
    (h : ∀ r ∈ rs, ¬ GivenUp u j r) : (s.abandonAll rs).job u = some j := by
  induction rs generalizing s with
  | nil => exact hj
  | cons r rs ih =>
    exact ih (job_abandon_miss hj (h r List.mem_cons_self)) fun x hx => h x (List.mem_cons_of_mem r hx)

/-- A job given up is given up already, whatever record follows. -/
theorem job_abandonAll_gone {u : Lane} {rs : List SheetRecord} {j : GradingJob} (hj : s.job u = some j)
    (ha : j.abandoned = true) (hs : j.slotHeld = none) : (s.abandonAll rs).job u = some j := by
  have hsame : { j with abandoned := true, slotHeld := none } = j := by
    cases j
    cases ha
    cases hs
    rfl
  induction rs generalizing s with
  | nil => exact hj
  | cons r rs ih =>
    refine ih ?_
    by_cases h : GivenUp u j r
    · rw [job_abandon_hit hj h, hsame]
    · exact job_abandon_miss hj h

theorem job_abandonAll_hit {u : Lane} {rs : List SheetRecord} {j : GradingJob} (hj : s.job u = some j)
    (h : ∃ r ∈ rs, GivenUp u j r) :
    (s.abandonAll rs).job u = some { j with abandoned := true, slotHeld := none } := by
  induction rs generalizing s with
  | nil =>
    obtain ⟨r, hr, -⟩ := h
    cases hr
  | cons r rs ih =>
    by_cases hr : GivenUp u j r
    · exact job_abandonAll_gone (s := s.abandon r true) (rs := rs) (job_abandon_hit hj hr) rfl rfl
    · refine ih (job_abandon_miss hj hr) ?_
      obtain ⟨x, hx, hg⟩ := h
      rcases List.mem_cons.mp hx with rfl | hx
      · exact absurd hg hr
      · exact ⟨x, hx, hg⟩

theorem givesUp_abandonAll (s : State) (rs : List SheetRecord) : GivesUp rs s (s.abandonAll rs) := by
  intro u gone
  exact ⟨job_abandonAll_none, fun j hj => ⟨fun h => job_abandonAll_hit hj h,
    fun h => job_abandonAll_kept hj fun r hr hg => h ⟨r, hr, hg⟩⟩⟩

theorem State.eq_setJob {s t : State} {u : Lane} {x : Option GradingJob} (ht : ∃ g, t = { s with grading := g })
    (hu : t.job u = x) (ho : ∀ v, v ≠ u → t.job v = s.job v) : t = s.setJob u x := by
  obtain ⟨g, rfl⟩ := ht
  subst hu
  cases u with
  | lane1 => exact congrArg (fun y => ({ s with grading := ⟨g.lane1, y⟩ } : State)) (ho .lane2 nofun)
  | lane2 => exact congrArg (fun y => ({ s with grading := ⟨y, g.lane2⟩ } : State)) (ho .lane1 nofun)

theorem abandonAll_unchanged {rs : List SheetRecord} (h : ∀ r ∈ rs, ∀ j, s.job r.lane = some j → ¬ GivenUp r.lane j r) :
    s.abandonAll rs = s := by
  induction rs with
  | nil => rfl
  | cons r rs ih =>
    have hr : s.abandon r true = s := by
      cases hj : s.job r.lane with
      | none => exact abandon_idle hj true
      | some j => exact abandon_miss hj (h r List.mem_cons_self j hj) true
    change (s.abandon r true).abandonAll rs = s
    rw [hr]
    exact ih fun x hx => h x (List.mem_cons_of_mem r hx)

/-- The records of one lane given up, that of its grading among them. -/
theorem abandonAll_ofLane {rs : List SheetRecord} {l : Lane} {j : GradingJob} (hl : ∀ r ∈ rs, r.lane = l)
    (hj : s.job l = some j) (h : ∃ r ∈ rs, GivenUp l j r) :
    s.abandonAll rs = s.setJob l (some { j with abandoned := true, slotHeld := none }) := by
  refine State.eq_setJob (s.abandonAll_only_grading rs) (job_abandonAll_hit hj h) fun v hv => ?_
  cases hjv : s.job v with
  | none => exact job_abandonAll_none hjv
  | some i => exact job_abandonAll_kept hjv fun r hr hg => hv (hg.1.symm.trans (hl r hr))

/-! ## LANE RESYNC and expiry -/

theorem exec_laneResync (h : Ready s p) {b : Byte} {l : Lane} (hl : laneOf b.toNat = some l) :
    exec (.laneResync p tag [b]) s = .next ((resyncLane l s).answered p Code.laneResync tag .ok
      [b8 (s.lane l).queue.length]) := by
  refine (receiveRequest_whole _ h.whole).trans (serve_done h ?_)
  simp [laneResync, hl, resyncLane]

theorem expireDue_eq {l : Lane} {e : IntakeEntry} {rest : List IntakeEntry} (hq : (s.lane l).queue = e :: rest)
    (hd : s.intake.ageLimit ≤ e.age) :
    expireDue l s = ((s.abandon e.sheet true).setLane l
      { queue := rest, gaps := min 15 ((s.lane l).gaps + e.sheet.gapsAfter) }).raise .recordExpired := by
  simp [expireDue, expiryDue, expireHead, hq, hd]

theorem expireDue_young {l : Lane} (hd : ∀ e rest, (s.lane l).queue = e :: rest → e.age < s.intake.ageLimit) :
    expireDue l s = s := by
  cases hq : (s.lane l).queue with
  | nil => simp [expireDue, expiryDue, hq]
  | cons e rest => simp [expireDue, expiryDue, hq, Nat.not_le.mpr (hd e rest hq)]

/-- Settles O24: by what giving records up does to the jobs, one record after the other. -/
theorem resyncAndExpiryRemoveRecords : Obligations.ResyncAndExpiryRemoveRecords := by
  unfold Obligations.ResyncAndExpiryRemoveRecords
  refine ⟨⟨fun s p tag b h hb => ?_, fun s p tag b l h hb hl => ⟨fun hfree => ?_, fun j e hj he hn hr hg hc => ?_⟩,
    fun s l h => ⟨fun e rest hq hd => ?_, fun hd => ?_⟩⟩, fun s r => ⟨fun j hj hn hr hg hc => ?_, fun d hd => ?_⟩,
    fun s rs => ⟨givesUp_abandonAll s rs, s.abandonAll_only_grading rs⟩⟩
  · exact (receiveRequest_whole _ h.whole).trans (serve_refuse h (by simp [laneResync, hb]))
  · have hkeep : s.abandonAll ((s.lane l).queue.map (·.sheet)) = s := abandonAll_unchanged fun r hr j hj hg => by
      obtain ⟨e, he, rfl⟩ := List.mem_map.mp hr
      rw [hl e he] at hj
      obtain ⟨-, hn, hr, hst, -⟩ := hg
      exact hfree j e hj he hn hr hst
    rw [exec_laneResync h hb, resyncLane, hkeep]
  · have hgone : s.abandonAll ((s.lane l).queue.map (·.sheet)) =
        s.setJob l (some { j with abandoned := true, slotHeld := none }) := by
      refine abandonAll_ofLane (fun r hr => ?_) hj ⟨e.sheet, List.mem_map_of_mem he, hl e he, hn, hr, hg, .inl hc⟩
      obtain ⟨e, he, rfl⟩ := List.mem_map.mp hr
      exact hl e he
    rw [exec_laneResync h hb, resyncLane, hgone]
  · rw [(EventOf.recordExpired l).taken h, expireDue_eq hq hd]
  · rw [(EventOf.recordExpired l).taken h, expireDue_young hd]
  · have hgiven : GivenUp r.lane j r := ⟨rfl, hn.symm, hr.symm, hg, hc⟩
    exact ⟨abandon_hit hj hgiven true, abandon_hit hj hgiven false⟩
  · cases hj : s.job r.lane with
    | none => exact abandon_idle hj d
    | some j =>
      refine abandon_miss hj (fun ⟨_, hn, hr, hg, hc⟩ => ?_) d
      rcases hd with hd | hd | hd
      · exact absurd (hj.symm.trans hd) (Option.some_ne_none j)
      · exact hd hg
      · rcases hd j hj with hd | hd | ⟨hd, ha⟩
        · exact hd hn.symm
        · exact hd hr.symm
        · rcases hc with hc | hc
          · exact hd hc
          · rw [ha] at hc
            cases hc

/-! ## The handover of a merge event -/

theorem handOver_eq (r : SheetRecord) (t : State) :
    handOver r t =
      if t.tracking.state = .faulted then (t.abandon r true).countRunOut
      else if t.tracking.queue.length < 32 then t.setQueue (t.tracking.queue ++ [joiningEntry r])
      else ((t.abandon r true).countRunOut).raise .trackOverflow := by
  unfold handOver
  cases t.tracking.state <;> rfl

theorem countRunOut_abandon (r : SheetRecord) (t : State) :
    (t.abandon r true).countRunOut = (t.abandon r true).setRouting { t.routing with runOut := min 65535 (t.routing.runOut + 1) } := by
  obtain ⟨g, hg⟩ := t.abandon_only_grading r true
  rw [hg]
  rfl

/-- Settles O25: by the three rows of R12. -/
theorem mergeHandsOneSheetOver : Obligations.MergeHandsOneSheetOver := by
  unfold Obligations.MergeHandsOneSheetOver
  intro s l h x n counted unmeasured handed
  have hhanded (r : SheetRecord) (t : State) : handOver r t = handed r t := by
    rw [handOver_eq, countRunOut_abandon]
    rfl
  rw [(EventOf.mergeEvent l).taken h]
  refine ⟨fun hgap => ?_, fun e rest hgap hq => ?_, fun hgap hq => ?_⟩
  · exact congrArg Host.Outcome.next ((if_pos hgap).trans (hhanded _ _))
  · refine congrArg Host.Outcome.next ((if_neg (Nat.not_lt.mpr hgap.le)).trans ?_)
    rw [show (s.lane l).queue = e :: rest from hq]
    exact hhanded _ _
  · refine congrArg Host.Outcome.next ((if_neg (Nat.not_lt.mpr hgap.le)).trans ?_)
    rw [show (s.lane l).queue = [] from hq]
    exact hhanded _ _

end Sys2Proof.Machine
end

section
/-!
PROOFS. How a unit begins a record and goes on (R23 to R28, R36): the first element of a queue by its place in it, where a
result is delivered, and one round of a grading; the statements SubmitSheetAcceptsOrOverruns and WalkReadAdvancesGrading.
-/

namespace Sys2Proof.Machine

variable {s t : State} {p : Port} {u : Lane} {code tag : Byte} {body : List Byte}

/-! ## The first element by its place -/

section FirstByPlace

variable {α : Type} {f : α → Bool} {older newer : List α} {e : α}

theorem find?_place (h : ∀ y ∈ older, f y = false) (he : f e = true) : (older ++ e :: newer).find? f = some e := by
  induction older with
  | nil => exact List.find?_cons_of_pos he
  | cons x xs ih =>
    rw [List.cons_append, List.find?_cons_of_neg (by simp [h x List.mem_cons_self])]
    exact ih fun y hy => h y (List.mem_cons_of_mem x hy)

theorem updateFirst_place (g : α → α) (h : ∀ y ∈ older, f y = false) (he : f e = true) :
    updateFirst f g (older ++ e :: newer) = older ++ g e :: newer := by
  induction older with
  | nil => exact if_pos he
  | cons x xs ih =>
    rw [List.cons_append, updateFirst, if_neg (by simp [h x List.mem_cons_self]),
      ih fun y hy => h y (List.mem_cons_of_mem x hy), List.cons_append]

theorem any_place (he : f e = true) : (older ++ e :: newer).any f = true :=
  List.any_eq_true.mpr ⟨e, by simp, he⟩

theorem find?_none_of {xs : List α} (h : ∀ y ∈ xs, f y = false) : xs.find? f = none :=
  List.find?_eq_none.mpr fun y hy => by simp [h y hy]

theorem any_false_of {xs : List α} (h : ∀ y ∈ xs, f y = false) : xs.any f = false :=
  List.any_eq_false.mpr fun y hy => by simp [h y hy]

theorem countP_updateFirst_of {g : α → α} {q : α → Bool} (h : ∀ x, f x = true → q x = false)
    (h' : ∀ x, f x = true → q (g x) = false) (xs : List α) : (updateFirst f g xs).countP q = xs.countP q := by
  induction xs with
  | nil => rfl
  | cons x xs ih =>
    rw [updateFirst]
    split
    next hx => rw [List.countP_cons_of_neg (by simp [h' x hx]), List.countP_cons_of_neg (by simp [h x hx])]
    next => rw [List.countP_cons, List.countP_cons, ih]

end FirstByPlace

/-! ## The tests of a queue's entries -/

theorem TrackEntry.onWorklist_iff (e : TrackEntry) :
    e.onWorklist u = true ↔ e.sheet.lane = u ∧ e.sheet.status = .waiting ∧ e.sheet.cls = none := by
  simp [TrackEntry.onWorklist, and_assoc]

theorem IntakeEntry.onWorklist_iff (e : IntakeEntry) : e.onWorklist = true ↔ e.sheet.status = .waiting := by
  simp [IntakeEntry.onWorklist]

theorem IntakeEntry.inGrading_iff (n : Nat) (e : IntakeEntry) :
    e.inGrading n = true ↔ e.sheet.number = n ∧ e.sheet.status = .grading := by simp [IntakeEntry.inGrading]

theorem TrackEntry.inGrading_iff (n : Nat) (e : TrackEntry) :
    e.inGrading u n = true ↔ e.sheet.lane = u ∧ (e.sheet.number = n ∧ e.sheet.status = .grading) ∧ e.sheet.cls = none := by
  simp [TrackEntry.inGrading, and_assoc]

theorem not_onWorklist_of_inGrading {n : Nat} {e : IntakeEntry} (h : e.inGrading n = true) : e.onWorklist = false := by
  have hg := ((e.inGrading_iff n).mp h).2
  simp [IntakeEntry.onWorklist, hg]

theorem not_onWorklist_of_track {n : Nat} {e : TrackEntry} (h : e.inGrading u n = true) : e.onWorklist u = false := by
  obtain ⟨-, ⟨-, hg⟩, -⟩ := (e.inGrading_iff n).mp h
  simp [TrackEntry.onWorklist, hg]

/-! ## Where a result is delivered -/

theorem deliver_intake {n : Nat} {older newer : List IntakeEntry} {e : IntakeEntry} (g : GradeResult)
    (hq : (s.lane u).queue = older ++ e :: newer) (h : ∀ y ∈ older, y.inGrading n = false) (he : e.inGrading n = true) :
    deliver u n g s = (s.setLane u { s.lane u with
      queue := older ++ { e with sheet := e.sheet.withResult g } :: newer }).raiseIf (decide (g.status = .faulted)) .ruleFault := by
  rw [deliver, hq, if_pos (any_place he), updateFirst_place _ h he]

theorem deliver_tracking {n : Nat} {older newer : List TrackEntry} {e : TrackEntry} (g : GradeResult)
    (hl : ∀ y ∈ (s.lane u).queue, y.inGrading n = false) (hq : s.tracking.queue = older ++ e :: newer)
    (h : ∀ y ∈ older, y.inGrading u n = false) (he : e.inGrading u n = true) :
    deliver u n g s = (s.setQueue
      (older ++ { e with sheet := e.sheet.withResult g } :: newer)).raiseIf (decide (g.status = .faulted)) .ruleFault := by
  rw [deliver, any_false_of hl, hq, if_neg Bool.false_ne_true, if_pos (any_place he), updateFirst_place _ h he]

@[simp] theorem worklistLength_raiseIf (c : Bool) (n : Notice) : worklistLength u (s.raiseIf c n) = worklistLength u s := by
  cases c <;> rfl

/-- A result delivered takes nothing from the worklist and adds nothing to it. -/
theorem worklistLength_deliver {n : Nat} {g : GradeResult} (hg : g.status ≠ .waiting) :
    worklistLength u (deliver u n g s) = worklistLength u s := by
  unfold deliver
  split
  · rw [worklistLength_raiseIf, worklistLength, State.lane_setLane_same,
      countP_updateFirst_of (fun _ => not_onWorklist_of_inGrading) fun _ _ => decide_eq_false hg]
    rfl
  · split
    · rw [worklistLength_raiseIf, worklistLength]
      exact congrArg (· + _) (countP_updateFirst_of (fun _ => not_onWorklist_of_track) (fun _ _ => by
        simp [TrackEntry.onWorklist, SheetRecord.withResult]) _)
    · rfl

/-! ## The oldest record on the worklist -/

theorem takeOldest_none (h : ∀ y ∈ s.tracking.queue, y.onWorklist u = false)
    (h' : ∀ y ∈ (s.lane u).queue, y.onWorklist = false) : takeOldest u s = none := by
  rw [takeOldest, find?_none_of h, find?_none_of h']

theorem State.setLane_setLane (s : State) (l : Lane) (x y : IntakeLane) : (s.setLane l x).setLane l y = s.setLane l y := by
  cases l <;> rfl

/-- Record `r` is the oldest on the worklist of unit `u`, `place` is the state with another record in its place, and a
result of its number finds it there if no other is in the way. -/
structure Oldest (u : Lane) (s : State) (r : SheetRecord) (place : SheetRecord → State) (alone : Prop) : Prop where
  taken   : takeOldest u s = some (r, place { r with status := .grading })
  worked  : ∀ x : SheetRecord, x.status ≠ .waiting → worklistLength u (place x) + 1 = worklistLength u s
  stored  : alone → ∀ g : GradeResult, deliver u r.number g (place { r with status := .grading }) =
    (place (r.withResult g)).raiseIf (decide (g.status = .faulted)) .ruleFault
  tables  : ∀ x, (place x).tables = s.tables
  cache   : ∀ x, (place x).cache u = s.cache u

theorem oldest_tracking {older newer : List TrackEntry} {e : TrackEntry} (hq : s.tracking.queue = older ++ e :: newer)
    (h : ∀ y ∈ older, y.onWorklist u = false) (he : e.onWorklist u = true) :
    Oldest u s e.sheet (fun r => s.setTracking { s.tracking with queue := older ++ { e with sheet := r } :: newer })
      ((∀ y ∈ (s.lane u).queue, y.inGrading e.sheet.number = false) ∧
        ∀ y ∈ s.tracking.queue, y.inGrading u e.sheet.number = false) where
  taken := by
    rw [takeOldest, hq, find?_place h he, updateFirst_place _ h he]
    rfl
  worked x hx := by
    have hn : TrackEntry.onWorklist u { e with sheet := x } = false := by simp [TrackEntry.onWorklist, hx]
    simp only [worklistLength, State.setTracking_tracking, State.lane_setTracking, hq, List.countP_append,
      List.countP_cons_of_neg (Bool.eq_false_iff.mp hn), List.countP_cons_of_pos he]
    omega
  stored halone g := by
    obtain ⟨hlane, htrack⟩ := halone
    obtain ⟨hl, -, hc⟩ := (e.onWorklist_iff).mp he
    refine deliver_tracking (e := { e with sheet := { e.sheet with status := .grading } }) g hlane rfl (fun y hy => htrack y (hq ▸ List.mem_append_left _ hy)) ?_
    exact (TrackEntry.inGrading_iff _ _).mpr ⟨hl, ⟨rfl, rfl⟩, hc⟩
  tables _ := rfl
  cache _ := rfl

theorem oldest_intake {older newer : List IntakeEntry} {e : IntakeEntry}
    (ht : ∀ y ∈ s.tracking.queue, y.onWorklist u = false) (hq : (s.lane u).queue = older ++ e :: newer)
    (h : ∀ y ∈ older, y.onWorklist = false) (he : e.onWorklist = true) :
    Oldest u s e.sheet (fun r => s.setLane u { s.lane u with queue := older ++ { e with sheet := r } :: newer })
      (∀ y ∈ older, y.inGrading e.sheet.number = false) where
  taken := by
    rw [takeOldest, find?_none_of ht, hq, find?_place h he, updateFirst_place _ h he]
  worked x hx := by
    have hn : IntakeEntry.onWorklist { e with sheet := x } = false := by simp [IntakeEntry.onWorklist, hx]
    simp only [worklistLength, State.setLane_tracking, State.lane_setLane_same, hq, List.countP_append,
      List.countP_cons_of_neg (Bool.eq_false_iff.mp hn), List.countP_cons_of_pos he]
    omega
  stored halone g := by
    have hsame := State.lane_setLane_same s u { s.lane u with
      queue := older ++ { e with sheet := { e.sheet with status := .grading } } :: newer }
    refine (deliver_intake (e := { e with sheet := { e.sheet with status := .grading } }) g (congrArg (·.queue) hsame) halone
      ((IntakeEntry.inGrading_iff _ _).mpr ⟨rfl, rfl⟩)).trans ?_
    rw [hsame, State.setLane_setLane]
    rfl
  tables _ := rfl
  cache _ := rfl

/-! ## One round of a grading -/

theorem gradeNext_busy (h : s.job u ≠ none) : gradeNext u s = s := by
  unfold gradeNext
  cases worklistLength u s with
  | zero => rfl
  | succ n =>
    cases hj : s.job u with
    | none => exact absurd hj h
    | some j => simp [gradeOn, hj]

theorem gradeNext_idle (h : worklistLength u s = 0) : gradeNext u s = s := by rw [gradeNext, h, gradeOn]

theorem gradeNext_none (h : takeOldest u s = none) : gradeNext u s = s := by
  unfold gradeNext
  cases worklistLength u s with
  | zero => rfl
  | succ n => cases hj : s.job u <;> simp [gradeOn, hj, h]

theorem faultResult_status (f : RuleFault) (k : Option Nat) : (faultResult f k).status ≠ .waiting :=
  GradingStatus.noConfusion

theorem computeResult_status (r : SheetRecord) (k : Nat) (c : PathCopy) : (computeResult r k c).status ≠ .waiting := by
  cases hb : r.flags.badDefect with
  | true => simp [computeResult, hb]
  | false =>
    cases hm : r.moisture with
    | none => simp [computeResult, hb, hm]
    | some m => by_cases hw : c.thick.redry < m <;> simp [computeResult, hb, hm, hw]

namespace Oldest

variable {r : SheetRecord} {place : SheetRecord → State} {alone : Prop} (h : Oldest u s r place alone)
include h

/-- The stages end the grading of the oldest record at once: its result is stored, and the unit goes on. -/
theorem ends (hj : s.job u = none) (ha : alone) {g : GradeResult} (hg : g.status ≠ .waiting) {d : Descriptor}
    (hb : beginStages u r (place { r with status := .grading }) = (d, .done g)) :
    gradeNext u s = gradeNext u ((place (r.withResult g)).raiseIf (decide (g.status = .faulted)) .ruleFault) := by
  have hw : worklistLength u ((place (r.withResult g)).raiseIf (decide (g.status = .faulted)) .ruleFault) + 1 =
      worklistLength u s := by
    rw [worklistLength_raiseIf]
    exact h.worked _ hg
  rw [gradeNext, ← hw, gradeOn, hj, h.taken]
  simp only [hb, h.stored ha g]
  rfl

/-- The stages come to a walk: the unit waits for its first read. -/
theorem waits (hj : s.job u = none) {d : Descriptor} {c : Option SpeciesCopy} {k : Option Nat} {w : Walk}
    (hb : beginStages u r (place { r with status := .grading }) = (d, .wait c k w)) :
    gradeNext u s = (place { r with status := .grading }).setJob u (some
      { number := r.number, round := r.round, code := r.species.getD 0, slotHeld := some r.slot, descriptor := d,
        species := c, thickClass := k, walk := w, abandoned := false }) := by
  rw [gradeNext, ← h.worked { r with status := .grading } nofun, gradeOn, hj, h.taken]
  simp only [hb]

end Oldest

/-! ## The stages -/

theorem beginStages_noRoot {r : SheetRecord} (h : s.tables.roots.get r.slot = none) :
    beginStages u r s = (⟨0, 0, false⟩, .done (faultResult .noRoot none)) := by rw [beginStages, h]

theorem beginStages_root {r : SheetRecord} {d : Descriptor} (h : s.tables.roots.get r.slot = some d) :
    beginStages u r s = (d, stage1 (s.cache u) d r) := by rw [beginStages, h]

section Stages

variable {x : RuleCache} {d : Descriptor} {r : SheetRecord} {c : SpeciesCopy} {k : Nat}

theorem stage1_range (h : x.lookupSpecies d (r.species.getD 0) = none) (hc : d.count ≤ r.species.getD 0) :
    stage1 x d r = .done (faultResult .speciesRange none) := by
  rw [stage1, h, beginSpecies, if_pos (Nat.not_lt.mpr hc)]

theorem stage1_address (h : x.lookupSpecies d (r.species.getD 0) = none) (hc : r.species.getD 0 < d.count)
    (ha : 2047 < d.origin + r.species.getD 0) : stage1 x d r = .done (faultResult .address none) := by
  rw [stage1, h, beginSpecies, if_neg (not_not.mpr hc), if_pos (Nat.not_le.mpr ha)]

theorem stage1_walk (h : x.lookupSpecies d (r.species.getD 0) = none) (hc : r.species.getD 0 < d.count)
    (ha : d.origin + r.species.getD 0 ≤ 2047) :
    stage1 x d r = .wait none none (.species (d.origin + r.species.getD 0)) := by
  rw [stage1, h, beginSpecies, if_neg (not_not.mpr hc), if_neg (not_not.mpr ha)]

theorem stage1_hit (h : x.lookupSpecies d (r.species.getD 0) = some c) : stage1 x d r = stage2 x d r c := by
  rw [stage1, h]

theorem stage2_error {f : RuleFault} (h : thicknessClass r.thickness c.content = .error f) :
    stage2 x d r c = .done (faultResult f none) := by rw [stage2, h]

theorem stage2_class (h : thicknessClass r.thickness c.content = .ok k) : stage2 x d r c = stage3 x d r c k := by
  rw [stage2, h]

theorem stage3_hit {path : PathCopy} (h : x.lookupPath d (r.species.getD 0) c.content k = some path) :
    stage3 x d r c k = .done (computeResult r k path) := by rw [stage3, h]

theorem thickOrigin_eq (y : Cell16) : y.thickOrigin = y[2].toNat * 256 + y[3].toNat := y.word_eq 2 (by omega)

theorem stage3_address (h : x.lookupPath d (r.species.getD 0) c.content k = none)
    (ha : 2047 < c.content[2].toNat * 256 + c.content[3].toNat + k) :
    stage3 x d r c k = .done (faultResult .address (some k)) := by
  rw [← thickOrigin_eq] at ha
  rw [stage3, h, beginPath, if_pos (Nat.not_le.mpr ha)]

theorem stage3_walk (h : x.lookupPath d (r.species.getD 0) c.content k = none)
    (ha : c.content[2].toNat * 256 + c.content[3].toNat + k ≤ 2047) :
    stage3 x d r c k = .wait (some c) (some k) (.thickness (c.content[2].toNat * 256 + c.content[3].toNat + k)) := by
  rw [← thickOrigin_eq] at ha ⊢
  rw [stage3, h, beginPath, if_neg (not_not.mpr ha)]

end Stages

end Sys2Proof.Machine
end

section
/-!
PROOFS. SUBMIT SHEET and how a unit begins the oldest record of its worklist (R3 to R7, R23 to R28); the statement
SubmitSheetAcceptsOrOverruns.
-/

namespace Sys2Proof.Machine

variable {s : State} {p : Port} {u : Lane} {tag : Byte} {body : List Byte}

/-! ## SUBMIT SHEET -/

theorem exec_submitSheet_refused (h : Ready s p) (hlen : body.length = 12 + 3 * byteAt body 3)
    (hbad : laneOf (byteAt body 0) = none ∨ 15 < byteAt body 1 ∨ 24 < byteAt body 3) :
    exec (.submitSheet p tag body) s = .next (s.answered p Code.submitSheet tag .badValue []) := by
  refine (receiveRequest_whole _ h.whole).trans (serve_refuse h ?_)
  rw [submitSheet, if_neg (by omega)]
  cases hl : laneOf (byteAt body 0) with
  | none => rfl
  | some l =>
    refine if_pos ?_
    rcases hbad with hbad | hbad | hbad
    · exact absurd (hl.symm.trans hbad) (Option.some_ne_none l)
    · exact .inl (Nat.not_le.mpr hbad)
    · exact .inr (Nat.not_le.mpr hbad)

theorem submitSheet_passed {l : Lane} (hlen : body.length = 12 + 3 * byteAt body 3)
    (hl : laneOf (byteAt body 0) = some l) (h1 : byteAt body 1 ≤ 15) (h3 : byteAt body 3 ≤ 24) (t : State) :
    submitSheet body t = if (t.lane l).queue.length < Config.intakeCapacity then
        okReply (acceptSheet l (submittedRecord body l t.intake.counter t.intake.round t.intake.current) t)
          (b16 t.intake.counter)
      else { st := overrun l t, status := .overrun, body := [] } := by
  rw [submitSheet, if_neg (by omega), hl]
  exact if_neg (by omega)

/-- The state in which a record has taken its number and joined its lane's queue (R4). -/
def joined (l : Lane) (r : SheetRecord) (s : State) : State :=
  s.countSheet.setLane l { s.lane l with queue := (s.lane l).queue ++ [{ sheet := r, age := 0 }] }

theorem acceptSheet_eq (l : Lane) (r : SheetRecord) (s : State) : acceptSheet l r s = gradeNext l (joined l r s) := rfl

theorem exec_submitSheet_accepted {l : Lane} (h : Ready s p)
    (hlen : body.length = 12 + 3 * byteAt body 3) (hl : laneOf (byteAt body 0) = some l) (h1 : byteAt body 1 ≤ 15)
    (h3 : byteAt body 3 ≤ 24) (hroom : (s.lane l).queue.length < 8) :
    exec (.submitSheet p tag body) s = .next ((gradeNext l (joined l
      (submittedRecord body l s.intake.counter s.intake.round s.intake.current) s)).answered p Code.submitSheet tag .ok
        (b16 s.intake.counter)) := by
  refine (receiveRequest_whole _ h.whole).trans (serve_done h ?_)
  rw [submitSheet_passed hlen hl h1 h3, State.lane_hunt, if_pos hroom, acceptSheet_eq, ← gradeNext_hunt]
  rfl

theorem updateLast_append {α : Type} (f : α → α) (x : α) : ∀ xs : List α, updateLast f (xs ++ [x]) = xs ++ [f x]
  | [] => rfl
  | [_] => rfl
  | y :: z :: xs => congrArg (y :: ·) (updateLast_append f x (z :: xs))

theorem overrun_eq {l : Lane} {older : List IntakeEntry} {e : IntakeEntry} (hq : (s.lane l).queue = older ++ [e]) :
    overrun l s =
      let t := (s.setLane l { s.lane l with
        queue := older ++ [{ e with sheet := { e.sheet with gapsAfter := min 15 (e.sheet.gapsAfter + 1) } }] }).raise .intakeOverrun
      if 15 ≤ e.sheet.gapsAfter then t.raise .laneDesync else t := by
  rw [overrun, hq, updateLast_append, List.getLast?_concat]
  simp [State.raiseIf]

theorem overrun_hunt (l : Lane) (s : State) (p : Port) : overrun l (s.hunt p) = (overrun l s).hunt p := by
  simp [overrun]

/-! ## The records of a worklist -/

theorem onWorklist_eq_false {y : TrackEntry} (h : ¬ (y.sheet.lane = u ∧ y.sheet.status = .waiting ∧ y.sheet.cls = none)) :
    y.onWorklist u = false := Bool.eq_false_iff.mpr fun e => h (y.onWorklist_iff.mp e)

theorem onWorklist_eq_false' {y : IntakeEntry} (h : y.sheet.status ≠ .waiting) : y.onWorklist = false := decide_eq_false h

theorem inGrading_eq_false {n : Nat} {y : IntakeEntry} (h : y.sheet.number = n → y.sheet.status ≠ .grading) :
    y.inGrading n = false := Bool.eq_false_iff.mpr fun e => by
  obtain ⟨hn, hg⟩ := (y.inGrading_iff n).mp e
  exact h hn hg

theorem worklist_empty (h : worklistLength u s = 0) :
    (∀ y ∈ s.tracking.queue, y.onWorklist u = false) ∧ ∀ y ∈ (s.lane u).queue, y.onWorklist = false := by
  obtain ⟨ht, hi⟩ := Nat.add_eq_zero_iff.mp h
  exact ⟨fun y hy => Bool.eq_false_iff.mpr (List.countP_eq_zero.mp ht y hy),
    fun y hy => Bool.eq_false_iff.mpr (List.countP_eq_zero.mp hi y hy)⟩

/-- A record that joins an empty worklist is its oldest. -/
theorem oldest_joined {l : Lane} {r : SheetRecord} (hr : r.status = .waiting) (h : worklistLength l s = 0) :
    Oldest l (joined l r s) r (fun x => joined l x s) (∀ y ∈ (s.lane l).queue, y.inGrading r.number = false) := by
  obtain ⟨ht, hi⟩ := worklist_empty h
  have hq : ((joined l r s).lane l).queue = (s.lane l).queue ++ { sheet := r, age := 0 } :: [] := by
    rw [joined, State.lane_setLane_same]
  have := oldest_intake (s := joined l r s) ht hq hi (by simp [IntakeEntry.onWorklist, hr])
  simpa only [joined, State.lane_setLane_same, State.setLane_setLane] using this

theorem worklistLength_joined {l : Lane} {x : SheetRecord} (hx : x.status ≠ .waiting) :
    worklistLength l (joined l x s) = worklistLength l s := by
  simp only [worklistLength, joined, State.lane_setLane_same, List.countP_append, List.countP_singleton]
  simp [IntakeEntry.onWorklist, hx, State.countSheet]

theorem withResult_fault (r : SheetRecord) (f : RuleFault) (k : Option Nat) :
    r.withResult (faultResult f k) = { r with cls := some .regrade, status := .faulted, fault := some f, thickClass := k } := by
  simp [SheetRecord.withResult, faultResult, SheetFlags.adding]

/-- Settles O23: SUBMIT SHEET by its checks and the room in its lane; the unit's begin by where the oldest record of the
worklist stands and where its stages come to. -/
theorem submitSheetAcceptsOrOverruns : Obligations.SubmitSheetAcceptsOrOverruns := by
  unfold Obligations.SubmitSheetAcceptsOrOverruns
  refine ⟨fun s p tag body h _ hlen => ?_, ?_⟩
  · intro run
    refine ⟨exec_submitSheet_refused h hlen, ?_⟩
    intro l hl h1 h3 q n r u join
    have haccept (hroom : q.length < 8) :
        run = .next ((gradeNext l (join r)).answered p Code.submitSheet tag .ok (b16 n)) :=
      exec_submitSheet_accepted h hlen hl h1 h3 hroom
    refine ⟨haccept, fun hroom hj => ?_, fun hroom hj hw hroot halone => ?_, fun d hroom hj hw hroot hmiss hc ha => ?_,
      fun older e hfull hq => ?_⟩
    · rw [haccept hroom, gradeNext_busy (s := join r) hj]
    · have hold : Oldest l (join r) r join _ := oldest_joined rfl hw
      have hb := hold.ends hj (fun y hy => inGrading_eq_false (halone y hy)) (faultResult_status .noRoot none)
        (beginStages_noRoot hroot)
      rw [haccept hroom, hb, withResult_fault]
      refine congrArg (fun t : State => Host.Outcome.next (t.answered p Code.submitSheet tag .ok (b16 n))) ?_
      exact gradeNext_idle ((worklistLength_joined GradingStatus.noConfusion).trans hw)
    · have hold : Oldest l (join r) r join _ := oldest_joined rfl hw
      have hb : beginStages l r (join { r with status := .grading }) = (d, stage1 (s.cache l) d r) := beginStages_root hroot
      rw [stage1_walk (r := r) hmiss hc ha] at hb
      rw [haccept hroom, hold.waits hj hb]
      rfl
    · refine (receiveRequest_whole _ h.whole).trans ((serve_ready _ h).trans ?_)
      rw [submitSheet_passed hlen hl h1 h3, State.lane_hunt, if_neg (Nat.not_lt.mpr hfull), overrun_hunt]
      exact congrArg (fun t : State => Host.Outcome.next (t.answered p Code.submitSheet tag .overrun [])) (overrun_eq hq)
  · intro s u stored alone begins here
    have hbegins {r : SheetRecord} {place : SheetRecord → State} {alone' : Prop} (h : Oldest u s r place alone')
        (hj : s.job u = none) (ha : alone r.number → alone') : begins r place := by
      have hends {g : GradeResult} {d : Descriptor} (hg : g.status ≠ .waiting)
          (hb : beginStages u r (place { r with status := .grading }) = (d, .done g)) :
          alone r.number → gradeNext u s =
            gradeNext u ((place (stored r g)).raiseIf (decide (g.status = .faulted)) .ruleFault) := fun hal =>
        h.ends hj (ha hal) hg hb
      have hroots : (place { r with status := .grading }).tables.roots.get r.slot = s.tables.roots.get r.slot := by
        rw [h.tables]
      refine ⟨fun hr => hends (faultResult_status _ _) (beginStages_noRoot (hroots.trans hr)), fun d hr => ?_⟩
      have hb := beginStages_root (u := u) (hroots.trans hr)
      rw [h.cache] at hb
      refine ⟨fun hm hc => ?_, fun hm hc hadr => ?_, fun hm hc hadr => ?_, fun c hc => ⟨fun f hf => ?_, fun k hk =>
        ⟨fun x hx => ?_, fun hm hadr => ?_, fun hm hadr => ?_⟩⟩⟩
      · rw [stage1_range hm hc] at hb
        exact hends (faultResult_status _ _) hb
      · rw [stage1_address hm hc hadr] at hb
        exact hends (faultResult_status _ _) hb
      · rw [stage1_walk hm hc hadr] at hb
        exact h.waits hj hb
      · rw [stage1_hit hc, stage2_error hf] at hb
        exact hends (faultResult_status _ _) hb
      · rw [stage1_hit hc, stage2_class hk, stage3_hit hx] at hb
        exact hends (computeResult_status _ _ _) hb
      · rw [stage1_hit hc, stage2_class hk, stage3_address hm hadr] at hb
        exact hends (faultResult_status _ _) hb
      · rw [stage1_hit hc, stage2_class hk, stage3_walk hm hadr] at hb
        exact h.waits hj hb
    refine ⟨gradeNext_busy, fun ht hi => gradeNext_none (takeOldest_none (fun y hy => onWorklist_eq_false (ht y hy))
      fun y hy => onWorklist_eq_false' (hi y hy)), fun older e newer hj hq hold he => ?_,
      fun older e newer hj ht hq hold he => ?_⟩
    · refine hbegins (oldest_tracking hq (fun y hy => onWorklist_eq_false (hold y hy)) (e.onWorklist_iff.mpr he)) hj
        fun ⟨hlane, htrack⟩ => ⟨fun y hy => inGrading_eq_false (hlane y hy), fun y hy => Bool.eq_false_iff.mpr fun hg => ?_⟩
      obtain ⟨hl, ⟨hn, hst⟩, hc⟩ := (y.inGrading_iff _).mp hg
      exact htrack y hy hl hn hst hc
    · refine hbegins (oldest_intake (fun y hy => onWorklist_eq_false (ht y hy)) hq (fun y hy => onWorklist_eq_false' (hold y hy))
        (e.onWorklist_iff.mpr he)) hj fun ⟨hlane, _⟩ y hy => inGrading_eq_false (hlane y (hq ▸ List.mem_append_left _ hy))

end Sys2Proof.Machine
end

section
/-!
PROOFS. The reads of a unit's walk (R25, R36, R37, R52 to R54, R67, R74); the statement WalkReadAdvancesGrading.
-/

namespace Sys2Proof.Machine

variable {s t : State} {u : Lane} {j : GradingJob} {x : Cell16}

/-! ## What a read makes of a walk -/

theorem isSpecies_iff (x : Cell16) : x.isSpecies = true ↔ x[0] = 1 := by
  simp [Cell16.isSpecies, Cell16.tag, ← BitVec.toNat_inj]
theorem isThickness_iff (x : Cell16) : x.isThickness = true ↔ x[0] = 2 := by
  simp [Cell16.isThickness, Cell16.tag, ← BitVec.toNat_inj]
theorem isLimits1_iff (x : Cell16) : x.isLimits1 = true ↔ x[0] = 3 := by
  simp [Cell16.isLimits1, Cell16.tag, ← BitVec.toNat_inj]
theorem isLimits2_iff (x : Cell16) : x.isLimits2 = true ↔ x[0] = 4 := by
  simp [Cell16.isLimits2, Cell16.tag, ← BitVec.toNat_inj]

theorem limitOrigin_eq (y : Cell16) : y.limitOrigin = y[2].toNat * 256 + y[3].toNat := y.word_eq 2 (by omega)

theorem feed_species {n : Nat} (h0 : x[0] = 1) (h1 : x[1].getLsbD 0 = true) :
    (Walk.species n).feed x = .species { cell := n, content := x } := by
  rw [Walk.feed, if_neg (not_not.mpr ((isSpecies_iff x).mpr h0)), if_neg (not_not.mpr (show x.valid = true from h1))]

theorem feed_thickness {n : Nat} (h0 : x[0] = 2) (h1 : x[1].getLsbD 0 = true)
    (hl : x[2].toNat * 256 + x[3].toNat + 1 ≤ 2047) :
    (Walk.thickness n).feed x = .more (.limits1 n x (x[2].toNat * 256 + x[3].toNat)) := by
  rw [← limitOrigin_eq] at hl ⊢
  rw [Walk.feed, if_neg (not_not.mpr ((isThickness_iff x).mpr h0)), if_neg (not_not.mpr (show x.valid = true from h1)), if_neg (not_not.mpr hl)]

theorem feed_limits1 {n n' : Nat} {c : Cell16} (h0 : x[0] = 3) :
    (Walk.limits1 n c n').feed x = .more (.limits2 n c n' x (n' + 1)) := by
  rw [Walk.feed, if_neg (not_not.mpr ((isLimits1_iff x).mpr h0))]

theorem feed_limits2 {n n' n'' : Nat} {c c' : Cell16} (h0 : x[0] = 4) :
    (Walk.limits2 n c n' c' n'').feed x =
      .path { thickCell := n, lim1Cell := n', lim2Cell := n'', thick := c, lim1 := c', lim2 := x } := by
  rw [Walk.feed, if_neg (not_not.mpr ((isLimits2_iff x).mpr h0))]

/-! ## What the read does -/

theorem unitRead_more {w : Walk} (h : j.walk.feed x = .more w) :
    unitRead u j x s = s.setJob u (some { j with walk := w }) := by rw [unitRead, h]

theorem unitRead_fault {f : RuleFault} (h : j.walk.feed x = .fault f) :
    unitRead u j x s = if j.abandoned then finishGrading u s
      else finishGrading u (deliver u j.number (faultResult f j.thickClass) s) := by rw [unitRead, h]; rfl

theorem unitRead_species {c : SpeciesCopy} (h : j.walk.feed x = .species c) (ha : j.abandoned = false) {r : SheetRecord}
    (hr : recordInGrading u j.number s = some r) :
    unitRead u j x s =
      let t := s.setCache u ((s.cache u).form (speciesBody j.descriptor j.code c))
      advance u j (stage2 (t.cache u) j.descriptor r c) t := by
  have hr' : recordInGrading u j.number (s.setCache u ((s.cache u).form (speciesBody j.descriptor j.code c))) = some r := hr
  rw [unitRead, h]
  dsimp only
  rw [if_neg (by simp [ha]), hr']

theorem unitRead_path {c : PathCopy} (h : j.walk.feed x = .path c) (ha : j.abandoned = false) {r : SheetRecord}
    (hr : recordInGrading u j.number s = some r) :
    unitRead u j x s = finishGrading u (deliver u j.number (computeResult r (j.thickClass.getD 0) c)
      (s.setCache u (formPath j c (s.cache u)))) := by
  have hr' : recordInGrading u j.number (s.setCache u (formPath j c (s.cache u))) = some r := hr
  rw [unitRead, h]
  dsimp only
  rw [if_neg (by simp [ha]), hr']
  rfl

/-- The walk of an abandoned grading forms its copies all the same, for nobody (R37). -/
theorem unitRead_species_abandoned {c : SpeciesCopy} (h : j.walk.feed x = .species c) (ha : j.abandoned = true) :
    unitRead u j x s = finishGrading u (s.setCache u ((s.cache u).form (speciesBody j.descriptor j.code c))) := by
  rw [unitRead, h]
  exact if_pos ha

theorem unitRead_path_abandoned {c : PathCopy} (h : j.walk.feed x = .path c) (ha : j.abandoned = true) :
    unitRead u j x s = finishGrading u (s.setCache u (formPath j c (s.cache u))) := by
  rw [unitRead, h]
  exact if_pos ha

theorem formPath_eq {c : PathCopy} {copy : SpeciesCopy} {k : Nat} (hs : j.species = some copy) (hk : j.thickClass = some k)
    (y : RuleCache) :
    formPath j c y = if y.mode = .off then
        { y with buffer := (if y.buffer.length < 2 then y.buffer else y.buffer.drop 1) ++
          [{ origin := j.descriptor.origin, code := j.code, index := k, species := copy, path := c }] }
      else y.form (.path (copy.content[2].toNat * 256 + copy.content[3].toNat) k c) := by
  rw [← thickOrigin_eq]
  unfold formPath
  rw [hs, hk]
  obtain ⟨mode, entries, buffer⟩ := y
  cases mode <;> rfl

theorem recordInGrading_intake {n : Nat} {older newer : List IntakeEntry} {e : IntakeEntry}
    (hq : (s.lane u).queue = older ++ e :: newer) (h : ∀ y ∈ older, y.inGrading n = false) (he : e.inGrading n = true) :
    recordInGrading u n s = some e.sheet := by rw [recordInGrading, hq, find?_place h he]

theorem recordInGrading_tracking {n : Nat} {older newer : List TrackEntry} {e : TrackEntry}
    (hl : ∀ y ∈ (s.lane u).queue, y.inGrading n = false) (hq : s.tracking.queue = older ++ e :: newer)
    (h : ∀ y ∈ older, y.inGrading u n = false) (he : e.inGrading u n = true) :
    recordInGrading u n s = some e.sheet := by
  rw [recordInGrading, find?_none_of hl, hq, find?_place h he]
  rfl

/-! ## The grant -/

theorem exec_guWalkRead (h : s.pins.resetHeld = false) (ha : arbiterNext s = some (unitRequester u)) (hj : s.job u = some j)
    (hn : j.walk.next < 2048) :
    exec (.guWalkRead u) s = .next (unitRead u j (s.tables.mem.cell j.walk.next) (s.granted (unitRequester u))) := by
  change execGuWalkRead u s = _
  rw [execGuWalkRead, if_neg (by simp [h, ha]), hj]
  simp [accessCell, hn]

/-- Settles O28: by what the read makes of the walk, and for a walk that ends by where the record stands. -/
theorem walkReadAdvancesGrading : Obligations.WalkReadAdvancesGrading := by
  unfold Obligations.WalkReadAdvancesGrading
  refine fun s u h => ⟨fun hn => if_pos (.inr hn), fun j ha hj => ?_⟩
  intro t x run inside limit here there faulted leaves ends stored delivers
  have hrun (hin : inside) : run = .next (unitRead u j x t) := exec_guWalkRead h ha hj hin
  clear_value x run
  have hleaves {v : State} (hr : run = .next (finishGrading u v)) (hw : worklistLength u v = worklistLength u s) :
      leaves v := ⟨hr, fun h0 => hr.trans (congrArg _ (gradeNext_idle (s := v.setJob u none) (hw.trans h0)))⟩
  have hdelivers {v : State} {cond : SheetRecord → Prop} {g : SheetRecord → GradeResult}
      (hl : v.lane u = s.lane u) (ht : v.tracking = s.tracking) (hg : ∀ r, (g r).status ≠ .waiting)
      (hr : inside → j.abandoned = false → ∀ r, recordInGrading u j.number s = some r → cond r →
        run = .next (finishGrading u (deliver u j.number (g r) v))) : delivers v cond g := by
    intro hin hab
    have hw (r : SheetRecord) : worklistLength u (deliver u j.number (g r) v) = worklistLength u s := by
      rw [worklistLength_deliver (hg r), worklistLength, hl, ht, worklistLength]
    refine ⟨fun older e newer hq hold he hc => ?_, fun older e newer hlane hq hold he hc => ?_⟩
    · have hold' : ∀ y ∈ older, y.inGrading j.number = false := fun y hy =>
        Bool.eq_false_iff.mpr fun hy' => hold y hy ((y.inGrading_iff _).mp hy')
      have he' : e.inGrading j.number = true := (e.inGrading_iff _).mpr he
      have hd := deliver_intake (s := v) (g e.sheet) ((congrArg (·.queue) hl).trans hq) hold' he'
      rw [hl] at hd
      have hdone := hleaves (hr hin hab _ (recordInGrading_intake hq hold' he') hc) (hw e.sheet)
      rw [hd] at hdone
      exact hdone
    · have hlane' : ∀ y ∈ (s.lane u).queue, y.inGrading j.number = false := fun y hy =>
        Bool.eq_false_iff.mpr fun hy' => hlane y hy ((y.inGrading_iff _).mp hy')
      have hold' : ∀ y ∈ older, y.inGrading u j.number = false := fun y hy =>
        Bool.eq_false_iff.mpr fun hy' => hold y hy ((y.inGrading_iff _).mp hy')
      have he' : e.inGrading u j.number = true := (e.inGrading_iff _).mpr he
      have hd := deliver_tracking (s := v) (g e.sheet) (hl ▸ hlane') ((congrArg (·.queue) ht).trans hq) hold' he'
      rw [State.setQueue, ht] at hd
      have hdone := hleaves (hr hin hab _ (recordInGrading_tracking hlane' hq hold' he') hc) (hw e.sheet)
      rw [hd] at hdone
      exact hdone
  refine ⟨fun n hwalk hn h0 h1 hlim => ?_, fun n c n' hwalk hn h0 => ?_, fun f hf => ⟨fun hin hab => ?_, ?_⟩,
    fun n hwalk hn h0 h1 => ?_, fun n c n' c' n'' copy k hwalk h0 hs hk => ?_⟩
  · have hin : inside := by rw [show inside = (j.walk.next < 2048) from rfl, hwalk]; exact hn
    rw [hrun hin, unitRead_more (hwalk ▸ feed_thickness h0 h1 hlim)]
  · have hin : inside := by rw [show inside = (j.walk.next < 2048) from rfl, hwalk]; exact hn
    rw [hrun hin, unitRead_more (hwalk ▸ feed_limits1 h0)]
  · refine hleaves ?_ rfl
    rw [hrun hin, unitRead_fault hf, if_pos hab]
  · refine hdelivers (v := t) (cond := fun _ => True) (g := fun _ => faulted f j.thickClass) rfl rfl (fun _ => faultResult_status _ _) fun hin hab r _ _ => ?_
    rw [hrun hin, unitRead_fault hf, if_neg (by simp [hab])]
    rfl
  · have hin : inside := by rw [show inside = (j.walk.next < 2048) from rfl, hwalk]; exact hn
    have hfeed : j.walk.feed x = .species { cell := n, content := x } := hwalk ▸ feed_species h0 h1
    intro shared formed v hit
    have hadvance (r : SheetRecord) (hab : j.abandoned = false) (hr : recordInGrading u j.number s = some r) :
        run = .next (advance u j (stage2 (v.cache u) j.descriptor r { cell := n, content := x }) v) := by
      rw [hrun hin, unitRead_species (s := t) hfeed hab hr]
      rfl
    have hcache : v.cache u = formed := State.cache_setCache_same _ _ _
    rw [hcache] at hadvance
    have habandoned (hab : j.abandoned = true) : run = .next (finishGrading u v) := by
      rw [hrun hin, unitRead_species_abandoned hfeed hab]
      rfl
    have hlane : v.lane u = s.lane u := rfl
    have htrack : v.tracking = s.tracking := rfl
    have hw : worklistLength u v = worklistLength u s := rfl
    clear_value v
    clear_value formed
    refine ⟨fun _ hab => hleaves (habandoned hab) hw, fun r k hab hr hc hlim hmiss => ?_, fun f => ?_, fun k path => ?_,
      fun k hlim => ?_⟩
    · rw [hadvance r hab hr, stage2_class (c := { cell := n, content := x }) hc,
        stage3_walk (c := { cell := n, content := x }) hmiss hlim]
      rfl
    · refine hdelivers (v := v) (cond := fun r => thicknessClass r.thickness x = .error f) (g := fun _ => faulted f none)
        hlane htrack (fun _ => faultResult_status _ _) fun _ hab r hr hc => ?_
      rw [hadvance r hab hr, stage2_error (c := { cell := n, content := x }) hc]
      rfl
    · refine hdelivers (v := v) (cond := fun r => thicknessClass r.thickness x = .ok k ∧ hit r k = some path)
        (g := fun r => computeResult r k path) hlane htrack (fun _ => computeResult_status _ _ _) fun _ hab r hr hch => ?_
      obtain ⟨hc, hh⟩ := hch
      rw [hadvance r hab hr, stage2_class (c := { cell := n, content := x }) hc,
        stage3_hit (c := { cell := n, content := x }) hh]
      rfl
    · refine hdelivers (v := v) (cond := fun r => thicknessClass r.thickness x = .ok k ∧ hit r k = none)
        (g := fun _ => faulted .address (some k)) hlane htrack (fun _ => faultResult_status _ _) fun _ hab r hr hch => ?_
      obtain ⟨hc, hh⟩ := hch
      rw [hadvance r hab hr, stage2_class (c := { cell := n, content := x }) hc,
        stage3_address (c := { cell := n, content := x }) hh hlim]
      rfl
  · have hfeed : j.walk.feed x = .path { thickCell := n, lim1Cell := n', lim2Cell := n'', thick := c, lim1 := c', lim2 := x } :=
      hwalk ▸ feed_limits2 h0
    intro path cache kept formed
    have hformed : formed = t.setCache u (formPath j path (t.cache u)) := by
      rw [formPath_eq hs hk]
      rfl
    refine ⟨fun hin hab => ?_, ?_⟩
    · refine hleaves ?_ rfl
      rw [hrun hin, unitRead_path_abandoned hfeed hab, hformed]
    · refine hdelivers (v := formed) (cond := fun _ => True) (g := fun r => computeResult r k path) rfl rfl (fun _ => computeResult_status _ _ _) fun hin hab r hr _ => ?_
      rw [hrun hin, unitRead_path (s := t) hfeed hab hr, hk, hformed]
      rfl

end Sys2Proof.Machine
end

section
/-!
PROOFS. The rule caches (R63 to R69, R73, R74, R76, R80): purges, locks, formation and lookups; the statements
EditPurgesAndLocksByRows and CacheFormsAndFindsByTag.
-/

namespace Sys2Proof.Machine

variable {x : RuleCache} {b : CacheBody} {t : EntryTag}

/-! ## Purges and locks -/

theorem RuleCache.has_iff_exists : x.has t = true ↔ ∃ e, e ∈ x.entries ∧ e.body.tag = t := by simp [RuleCache.has]

theorem RuleCache.hasLocked_iff : x.hasLocked t = true ↔ ∃ e, e ∈ x.entries ∧ e.locked = true ∧ e.body.tag = t := by
  simp [RuleCache.hasLocked]

theorem lockEntry_unsplit (h : x.mode ≠ .split) : x.lockEntry b = x := by
  unfold RuleCache.lockEntry
  cases hm : x.mode with
  | split => exact absurd hm h
  | normal => rfl
  | off => rfl

theorem lockEntry_kept (h : x.hasLocked b.tag = true) : x.lockEntry b = x := by
  unfold RuleCache.lockEntry
  cases x.mode with
  | split => exact if_pos h
  | normal => rfl
  | off => rfl

theorem lockEntry_split (hm : x.mode = .split) (h : x.hasLocked b.tag = false) :
    x.lockEntry b =
      let kept := x.entries.filter fun e => decide (e.body.tag ≠ b.tag)
      if x.lockedCount < 8 then { x with entries := kept ++ [{ body := b, locked := true }] }
      else { x with entries := kept } := by
  unfold RuleCache.lockEntry
  rw [hm, h]
  rfl

/-- Settles O34: the purge is a filter by sources; LOCK PATHS by whether a locked entry of the tag stands and by the count. -/
theorem editPurgesAndLocksByRows : Obligations.EditPurgesAndLocksByRows := by
  unfold Obligations.EditPurgesAndLocksByRows
  refine ⟨⟨fun x n => ⟨rfl, fun e => ?_, fun e => ?_, List.filter_sublist, List.filter_sublist⟩, fun s scope n u => ?_⟩,
    fun x b => ⟨lockEntry_unsplit, fun hm => ⟨fun h => lockEntry_kept (RuleCache.hasLocked_iff.mpr h), fun h => ?_⟩⟩⟩
  · simp [RuleCache.purgedOf]
  · simp [RuleCache.purgedOf]
  · cases scope <;> cases u <;> rfl
  · have hno : x.hasLocked b.tag = false := Bool.eq_false_iff.mpr fun hl => by
      obtain ⟨e, he, hlk, ht⟩ := RuleCache.hasLocked_iff.mp hl
      exact h e he hlk ht
    exact ⟨fun hlt => (lockEntry_split hm hno).trans (if_pos hlt), fun hge =>
      (lockEntry_split hm hno).trans (if_neg (Nat.not_lt.mpr hge))⟩

/-! ## Formation -/

theorem dropFirst_place {α : Type} {f : α → Bool} {older newer : List α} {e : α} (h : ∀ y ∈ older, f y = false)
    (he : f e = true) : dropFirst f (older ++ e :: newer) = older ++ newer := by
  induction older with
  | nil => exact if_pos he
  | cons y ys ih =>
    rw [List.cons_append, dropFirst, if_neg (by simp [h y List.mem_cons_self]),
      ih fun z hz => h z (List.mem_cons_of_mem y hz), List.cons_append]

theorem form_off (h : x.mode = .off) : x.form b = x := by rw [RuleCache.form, h]

theorem form_on (h : x.mode ≠ .off) :
    x.form b = if x.has b.tag then x
      else { x with entries := (if x.unlockedCount < x.room then x.entries else dropFirst (!·.locked) x.entries) ++
        [{ body := b, locked := false }] } := by
  unfold RuleCache.form
  cases hm : x.mode with
  | off => exact absurd hm h
  | normal => rfl
  | split => rfl

theorem room_eq (x : RuleCache) : x.room = if x.mode = .split then 8 else 16 := by
  unfold RuleCache.room
  cases x.mode <;> rfl

/-! ## Lookups -/

theorem findSome?_place {α β : Type} {f : α → Option β} {older newer : List α} {e : α} {c : β}
    (h : ∀ y ∈ older, f y = none) (he : f e = some c) : (older ++ e :: newer).findSome? f = some c := by
  rw [List.findSome?_append, List.findSome?_eq_none_iff.mpr h, Option.none_or, List.findSome?_cons, he]

/-- The tag of a species entry: of a root's own, or shared (R63). -/
def speciesTag (owner : Option Nat) (code : Nat) : EntryTag :=
  match owner with
  | none => .shared code
  | some o => .species o code

theorem tag_species (owner : Option Nat) (code : Nat) (c : SpeciesCopy) :
    (CacheBody.species owner code c).tag = speciesTag owner code := by cases owner <;> rfl

theorem speciesTag_inj {o o' : Option Nat} {c c' : Nat} : speciesTag o c = speciesTag o' c' ↔ o = o' ∧ c = c' := by
  cases o <;> cases o' <;> simp [speciesTag]

theorem findSpecies_none {es : List CacheEntry} {owner : Option Nat} {code : Nat}
    (h : ∀ e ∈ es, e.body.tag ≠ speciesTag owner code) : findSpecies es owner code = none := by
  refine List.findSome?_eq_none_iff.mpr fun e he => ?_
  have hne := h e he
  cases hb : e.body with
  | species o c copy =>
    rw [hb, tag_species, ne_eq, speciesTag_inj] at hne
    exact if_neg hne
  | path o k copy => rfl

theorem findSpecies_place {older newer : List CacheEntry} {e : CacheEntry} {owner : Option Nat} {code : Nat} {c : SpeciesCopy}
    (h : ∀ y ∈ older, y.body.tag ≠ speciesTag owner code) (he : e.body = .species owner code c) :
    findSpecies (older ++ e :: newer) owner code = some c := by
  refine findSome?_place (List.findSome?_eq_none_iff.mp (findSpecies_none h)) ?_
  rw [he]
  exact if_pos ⟨rfl, rfl⟩

theorem findPath_none {es : List CacheEntry} {o k : Nat} (h : ∀ e ∈ es, e.body.tag ≠ .path o k) : findPath es o k = none := by
  refine List.findSome?_eq_none_iff.mpr fun e he => ?_
  have hne := h e he
  cases hb : e.body with
  | species o c copy => rfl
  | path o' k' copy =>
    rw [hb, CacheBody.tag, ne_eq, EntryTag.path.injEq] at hne
    exact if_neg hne

theorem findPath_place {older newer : List CacheEntry} {e : CacheEntry} {o k : Nat} {c : PathCopy}
    (h : ∀ y ∈ older, y.body.tag ≠ .path o k) (he : e.body = .path o k c) :
    findPath (older ++ e :: newer) o k = some c := by
  refine findSome?_place (List.findSome?_eq_none_iff.mp (findPath_none h)) ?_
  rw [he]
  exact if_pos ⟨rfl, rfl⟩

theorem lookupSpecies_range {d : Descriptor} {code : Nat} (h : d.count ≤ code) : x.lookupSpecies d code = none :=
  if_pos (Nat.not_lt.mpr h)

theorem lookupSpecies_on {d : Descriptor} {code : Nat} (hm : x.mode ≠ .off) (hc : code < d.count) :
    x.lookupSpecies d code = match findSpecies x.entries (some d.origin) code with
      | some c => some c
      | none => if d.isolated then none else findSpecies x.entries none code := by
  rw [RuleCache.lookupSpecies, if_neg (not_not.mpr hc)]
  cases h : x.mode with
  | off => exact absurd h hm
  | normal => rfl
  | split => rfl

theorem lookupSpecies_off {d : Descriptor} {code : Nat} (hm : x.mode = .off) (hc : code < d.count) :
    x.lookupSpecies d code =
      (x.buffer.reverse.find? fun e => e.origin == d.origin && e.code == code).map (·.species) := by
  rw [RuleCache.lookupSpecies, if_neg (not_not.mpr hc), hm]

theorem lookupPath_on {d : Descriptor} {code k : Nat} {content : Cell16} (hm : x.mode ≠ .off) :
    x.lookupPath d code content k = findPath x.entries (content[2].toNat * 256 + content[3].toNat) k := by
  rw [← thickOrigin_eq, RuleCache.lookupPath]
  cases h : x.mode with
  | off => exact absurd h hm
  | normal => rfl
  | split => rfl

theorem lookupPath_off {d : Descriptor} {code k : Nat} {content : Cell16} (hm : x.mode = .off) :
    x.lookupPath d code content k =
      (x.buffer.find? fun e => e.origin == d.origin && e.code == code && e.index == k).map (·.path) := by
  rw [RuleCache.lookupPath, hm]

/-- Settles O35: formation by mode, tag and room; lookups by the first entry of the tag, in OFF by the buffer's keys. -/
theorem cacheFormsAndFindsByTag : Obligations.CacheFormsAndFindsByTag := by
  unfold Obligations.CacheFormsAndFindsByTag
  refine ⟨fun x b => ⟨form_off, fun hm h => ?_, fun hm h => ?_⟩, fun x d code hm => ?_, fun x d code content k hm => ?_,
    fun x d code content k hm => ?_, fun x e => ⟨fun h => ?_, fun older newer h => ?_⟩⟩
  · rw [form_on hm, if_pos (RuleCache.has_iff_exists.mpr h)]
  · intro room
    have hno : ¬ x.has b.tag = true := fun hh => by
      obtain ⟨e, he, ht⟩ := RuleCache.has_iff_exists.mp hh
      exact h e he ht
    have hroom : x.room = room := room_eq x
    rw [form_on hm, if_neg hno, hroom]
    refine ⟨fun hlt => ?_, fun older e newer hge hq hold he => ?_⟩
    · rw [if_pos (show x.unlockedCount < room from hlt)]
    · rw [if_neg (Nat.not_lt.mpr (show room ≤ x.unlockedCount from hge)), hq,
        dropFirst_place (fun y hy => by simp [hold y hy]) (by simp [he])]
  · intro own shared
    refine ⟨lookupSpecies_range, fun hc hown hsh => ?_, fun older e newer c hc hq hold he => ?_,
      fun older e newer c hc hiso hown hq hold he => ?_⟩
    · rw [lookupSpecies_on hm hc, findSpecies_none (owner := some d.origin) hown]
      rcases hsh with hiso | hsh
      · exact if_pos hiso
      · rw [findSpecies_none (owner := none) hsh, ite_self]
    · rw [lookupSpecies_on hm hc, hq, findSpecies_place (owner := some d.origin) hold he]
    · rw [lookupSpecies_on hm hc, findSpecies_none (owner := some d.origin) hown, hiso, hq,
        findSpecies_place (owner := none) hold he]
      rfl
  · intro origin
    refine ⟨fun h => ?_, fun older e newer p hq hold he => ?_⟩
    · rw [lookupPath_on hm, findPath_none h]
    · rw [lookupPath_on hm, hq, findPath_place hold he]
  · intro level whole
    have hlevel (e : BufferEntry) : (e.origin == d.origin && e.code == code) = true ↔ level e := by simp [level]
    have hwhole (e : BufferEntry) : (e.origin == d.origin && e.code == code && e.index == k) = true ↔ whole e := by
      simp [whole, level]
    refine ⟨lookupSpecies_range, fun hc h => ?_, fun older e newer hc hq he hnew => ?_, fun h => ?_,
      fun older e newer hq he hoth => ?_⟩
    · rw [lookupSpecies_off hm hc, find?_none_of fun y hy =>
        Bool.eq_false_iff.mpr fun hl => h y (List.mem_reverse.mp hy) ((hlevel y).mp hl)]
      rfl
    · rw [lookupSpecies_off hm hc, hq, List.reverse_append, List.reverse_cons, List.append_assoc,
        List.singleton_append,        find?_place (fun y hy => Bool.eq_false_iff.mpr fun hl => hnew y (List.mem_reverse.mp hy) ((hlevel y).mp hl))
          ((hlevel e).mpr he)]
      rfl
    · rw [lookupPath_off hm, find?_none_of fun y hy => Bool.eq_false_iff.mpr fun hl => h y hy ((hwhole y).mp hl)]
      rfl
    · rw [lookupPath_off hm, hq, find?_place (fun y hy =>
        Bool.eq_false_iff.mpr fun hl => hoth y (List.mem_append_left _ hy) ((hwhole y).mp hl)) ((hwhole e).mpr he)]
      rfl
  · rw [RuleCache.formBuffer, if_pos h]
  · simp [RuleCache.formBuffer, h]

end Sys2Proof.Machine
end

section
/-!
PROOFS. WRITE ROOT, CHANGEOVER, SET CACHE MODE and PURGE CACHE (R39, R47, R48, R70, R71, R79); the statements
RootRequestsKeepUsedSlots and CacheRequestsActOnNamedCaches.
-/

namespace Sys2Proof.Machine

variable {s : State} {p : Port} {tag : Byte} {body : List Byte}

/-! ## Root slots -/

theorem slotOf_eq_none : ∀ {n : Nat}, 1 < n → slotOf n = none
  | _ + 2, _ => rfl

theorem holdsUngraded_iff (k : Slot) (r : SheetRecord) :
    r.holdsUngraded k = true ↔ r.slot = k ∧ r.status = .waiting ∧ r.cls = none := by
  simp [SheetRecord.holdsUngraded, and_assoc]

theorem exists_lane {P : Lane → Prop} : (∃ l, P l) ↔ P .lane1 ∨ P .lane2 :=
  ⟨fun ⟨l, h⟩ => by
    cases l
    · exact .inl h
    · exact .inr h, fun h => h.elim (fun h => ⟨.lane1, h⟩) fun h => ⟨.lane2, h⟩⟩

/-- What holds a root slot: an ungraded record in intake or tracking, or a grading (R39). -/
theorem slotInUse_iff (k : Slot) (s : State) :
    slotInUse k s = true ↔
      (∃ l e, e ∈ (s.lane l).queue ∧ e.sheet.slot = k ∧ e.sheet.status = .waiting ∧ e.sheet.cls = none) ∨
      (∃ e, e ∈ s.tracking.queue ∧ e.sheet.slot = k ∧ e.sheet.status = .waiting ∧ e.sheet.cls = none) ∨
      (∃ u j, s.job u = some j ∧ j.slotHeld = some k) := by
  simp only [slotInUse, Bool.or_eq_true, List.any_eq_true, holdsUngraded_iff, decide_eq_true_eq, Option.bind_eq_some_iff,
    exists_lane, or_assoc]
  rfl

theorem badCount_descriptorAt (slot flags hi lo count : Byte) :
    badCount (descriptorAt [slot, flags, hi, lo, count]) = true ↔
      flags.getLsbD 0 = true ∧ (count.toNat < 1 ∨ 16 < count.toNat) := by
  change badCount (if flags.getLsbD 0 then _ else none) = true ↔ _
  cases flags.getLsbD 0 <;> simp [badCount]

/-- Settles O36: by the checks of the two requests in their order. -/
theorem rootRequestsKeepUsedSlots : Obligations.RootRequestsKeepUsedSlots := by
  unfold Obligations.RootRequestsKeepUsedSlots
  refine ⟨fun s p tag slot flags hi lo count h => ?_, fun s p tag h => ?_⟩
  · intro run present d refused
    have hrefused {st : Status} (hb : writeRoot [slot, flags, hi, lo, count] (s.hunt p) = refuse (s.hunt p) st) :
        refused st := (receiveRequest_whole _ h.whole).trans (serve_refuse h hb)
    refine ⟨fun hs => hrefused ?_, fun k hk => ?_⟩
    · simp [writeRoot, slotOf_eq_none hs]
    · intro held bad
      have hbad : badCount (descriptorAt [slot, flags, hi, lo, count]) = true ↔ bad := badCount_descriptorAt ..
      have hheld : slotInUse k (s.hunt p) = true ↔ held := slotInUse_iff k s
      refine ⟨fun hb => hrefused ?_, fun hb hu => hrefused ?_, fun hb hc hu => ?_⟩
      · simp [writeRoot, hk, hbad.mpr hb]
      · have hused : (s.hunt p).intake.current = k ∨ slotInUse k (s.hunt p) = true := hu.imp_right hheld.mpr
        simp only [writeRoot, List.length_cons, List.length_nil, ne_eq, not_true_eq_false, if_false, byteAt_cons_zero, hk,
          hbad, hb, hused, if_true]
      · have hfree : ¬ ((s.hunt p).intake.current = k ∨ slotInUse k (s.hunt p) = true) := fun hor =>
          hor.elim hc fun hh => hu (hheld.mp hh)
        refine (receiveRequest_whole _ h.whole).trans (serve_done h ?_)
        simp only [writeRoot, List.length_cons, List.length_nil, ne_eq, not_true_eq_false, if_false, byteAt_cons_zero, hk,
          hbad, hb, hfree]
        rfl
  · intro k
    refine ⟨fun hk => ?_, fun d hk => ?_⟩
    · refine (receiveRequest_whole _ h.whole).trans (serve_refuse h ?_)
      exact if_pos (by simp [show s.tables.roots.get (otherSlot s.intake.current) = none from hk])
    · refine (receiveRequest_whole _ h.whole).trans (serve_done h ?_)
      exact if_neg (by simp [show s.tables.roots.get (otherSlot s.intake.current) = some d from hk])

/-! ## Cache requests -/

theorem scopeOf_eq_none : ∀ {n : Nat}, 2 < n → scopeOf n = none
  | _ + 3, _ => rfl

theorem cacheModeOf_eq_none : ∀ {n : Nat}, n ≠ 0 → n ≠ 2 → cacheModeOf n = none
  | 0, h, _ => absurd rfl h
  | 1, _, _ => rfl
  | 2, _, h => absurd rfl h
  | _ + 3, _, _ => rfl

theorem setMode_normal_or_off {m : CacheMode} (h : m ≠ .split) (x : RuleCache) :
    x.setMode m = if x.mode = m then x
      else if x.mode = .split ∧ m = .normal then
        { x with mode := .normal, entries := x.entries.map fun e => { e with locked := false } }
      else { mode := m, entries := [], buffer := [] } := by
  obtain ⟨mode, entries, buffer⟩ := x
  cases m with
  | split => exact absurd rfl h
  | normal => cases mode <;> rfl
  | off => cases mode <;> rfl

theorem length_sub_purged (x : RuleCache) (keep : Bool) :
    x.entries.length - (x.purged keep).entries.length = x.entries.countP fun e => !(keep && e.locked) := by
  have := x.entries.length_eq_countP_add_countP (fun e => keep && e.locked)
  rw [RuleCache.purged, ← List.countP_eq_length_filter]
  simp only [Bool.not_eq_true, Bool.decide_eq_false] at this
  omega

/-- Settles O37: by the scope's names and the mode asked for. -/
theorem cacheRequestsActOnNamedCaches : Obligations.CacheRequestsActOnNamedCaches := by
  unfold Obligations.CacheRequestsActOnNamedCaches
  intro s p tag a b h named on byte
  have hon (scope : Scope) (f : RuleCache → RuleCache) : s.onCaches scope f = on scope f := by cases scope <;> rfl
  have hbyte (scope : Scope) (u : Lane) (f : RuleCache → Nat) :
      scopedByte (s.hunt p) scope u f = byte scope u (f (s.cache u)) := by cases scope <;> cases u <;> rfl
  refine ⟨fun hbad => ?_, fun scope m hs hm => ?_, fun hbad => ?_, fun scope keep hs hk => ?_⟩
  · refine (receiveRequest_whole _ h.whole).trans (serve_refuse h ?_)
    rcases hbad with ha | ⟨h0, h2⟩
    · simp [setCacheMode, scopeOf_eq_none ha]
    · simp [setCacheMode, cacheModeOf_eq_none h0 h2]
  · intro f
    have hmode : cacheModeOf b.toNat = some m := by rcases hm with ⟨rfl, rfl⟩ | ⟨rfl, rfl⟩ <;> rfl
    have hns : m ≠ .split := by rcases hm with ⟨rfl, _⟩ | ⟨rfl, _⟩ <;> decide
    refine (receiveRequest_whole _ h.whole).trans (serve_done h ?_)
    simp only [setCacheMode, List.length_cons, List.length_nil, ne_eq, not_true_eq_false, if_false, byteAt_cons_zero,
      byteAt_cons_succ, hs, hmode, hbyte, setMode_normal_or_off hns, State.onCaches_hunt, hon]
    rfl
  · refine (receiveRequest_whole _ h.whole).trans (serve_refuse h ?_)
    rcases hbad with ha | hb
    · simp [purgeCache, scopeOf_eq_none ha]
    · simp [purgeCache, yesNo_eq_none hb]
  · intro left gone
    refine (receiveRequest_whole _ h.whole).trans (serve_done h ?_)
    simp only [purgeCache, List.length_cons, List.length_nil, ne_eq, not_true_eq_false, if_false, byteAt_cons_zero,
      byteAt_cons_succ, hs, hk, hbyte, length_sub_purged, State.onCaches_hunt, hon]
    rfl

end Sys2Proof.Machine
end

section
/-!
PROOFS. The layouts of records and answer bodies (R138, R185, R187 to R192): the fields of a byte, the two-byte fields, and
each record offset by offset; the statement AnswersAreLaidOut.
-/

namespace Sys2Proof.Machine

/-! ## Bytes and two-byte fields -/

theorem toNat_b8_mod (n : Nat) : (b8 n).toNat = n % 256 := BitVec.toNat_ofNat ..

theorem word_of_b16 (n : Nat) : (b8 (n / 256)).toNat * 256 + (b8 n).toNat = n % 65536 := by
  rw [toNat_b8_mod, toNat_b8_mod]
  omega

theorem toNat_optByte (n : Option Nat) : (optByte n).toNat = n.getD 255 % 256 := by
  cases n with
  | none => rfl
  | some n => exact toNat_b8_mod n

theorem optWord_eq (n : Option Nat) : optWord n = b16 (n.getD 0xFFFF) := by
  cases n with
  | none => rfl
  | some n => rfl

theorem toNat_lineByte (l : Option Line) : (lineByte l).toNat = (l.map Line.code).getD 255 := by
  rcases l with _ | _ | _ <;> rfl

theorem faultCode_lt (f : Option RuleFault) : faultCode f < 16 := by
  rcases f with _ | f
  · decide
  · cases f <;> decide

theorem stackNibble_eq (k : Option StackId) : stackNibble k = (k.map (·.val)).getD 15 := by cases k <;> rfl

/-- The lowest flag of a byte written as a sum. -/
theorem testBit_flag_zero (b : Bool) (n : Nat) : (b.toNat + 2 * n).testBit 0 = b := by
  cases b <;> simp [Nat.testBit_zero]

theorem testBit_flag_succ (b : Bool) (n i : Nat) : (b.toNat + 2 * n).testBit (i + 1) = n.testBit i := by
  rw [Nat.testBit_succ]
  congr 1
  cases b with
  | false => simp
  | true => simp; omega

theorem testBit_flag_last (b : Bool) : b.toNat.testBit 0 = b := by cases b <;> rfl

theorem toNat_flag_le (b : Bool) : b.toNat ≤ 1 := by cases b <;> decide

theorem toNat_accessByte (m : PerLine Bool) : (accessByte m).toNat = m.a.toNat + 2 * m.b.toNat := by
  have ha := toNat_flag_le m.a
  have hb := toNat_flag_le m.b
  rw [accessByte, toNat_b8_mod]
  omega

/-! ## Lists of records of one length -/

theorem length_flatMap_const {α : Type} {f : α → List Byte} {n : Nat} (h : ∀ x, (f x).length = n) (xs : List α) :
    (xs.flatMap f).length = n * xs.length := by
  induction xs with
  | nil => rfl
  | cons x xs ih => rw [List.flatMap_cons, List.length_append, h, ih, List.length_cons, Nat.mul_succ, Nat.add_comm]

theorem record_at {α : Type} {f : α → List Byte} {n : Nat} (h : ∀ x, (f x).length = n) (older newer : List α) (x : α) :
    (((older ++ x :: newer).flatMap f).drop (n * older.length)).take n = f x := by
  rw [List.flatMap_append, List.drop_append_of_le_length (by rw [length_flatMap_const h]), ← length_flatMap_const h older,
    List.drop_length, List.nil_append, List.flatMap_cons, ← h x, List.take_left]

/-! ## Sheets -/

theorem toNat_flags (f : SheetFlags) :
    f.byte.toNat = f.clamped.toNat + 2 * (f.overdry.toNat + 2 * (f.noMoisture.toNat + 2 * (f.defectsOmitted.toNat
      + 2 * (f.badDefect.toNat + 2 * (f.unmeasured.toNat + 2 * (f.late.toNat + 2 * f.unconfirmed.toNat)))))) := by
  have h0 := toNat_flag_le f.clamped
  have h1 := toNat_flag_le f.overdry
  have h2 := toNat_flag_le f.noMoisture
  have h3 := toNat_flag_le f.defectsOmitted
  have h4 := toNat_flag_le f.badDefect
  have h5 := toNat_flag_le f.unmeasured
  have h6 := toNat_flag_le f.late
  have h7 := toNat_flag_le f.unconfirmed
  rw [SheetFlags.byte, toNat_b8_mod]
  omega

theorem toNat_class (c : Option SheetClass) :
    (match c with
      | none => 8
      | some c => b8 c.code.val : Byte).toNat = (c.map fun c => c.code.val).getD 8 := by
  rcases c with _ | c
  · rfl
  · cases c <;> rfl

theorem GradingStatus.code_lt (s : GradingStatus) : s.code < 4 := by cases s <;> decide

theorem length_sheetBytes (r : SheetRecord) : (sheetBytes r).length = 7 := rfl

theorem byteAt_sheet_species (r : SheetRecord) :
    byteAt (sheetBytes r) 2 = (match r.species with
      | none => 31
      | some c => c % 16) + 64 * Lane.code r.lane := by
  have hl : Lane.code r.lane ≤ 2 := by cases r.lane <;> decide
  change (speciesLaneByte r).toNat = _
  rw [speciesLaneByte, toNat_b8_mod]
  cases r.species with
  | none => exact Nat.mod_eq_of_lt (by dsimp only; omega)
  | some c => exact Nat.mod_eq_of_lt (by dsimp only; omega)

theorem testBit_sheet_species (r : SheetRecord) :
    byteAt (sheetBytes r) 2 % 16 = (r.species.getD 15) % 16 ∧ (byteAt (sheetBytes r) 2).testBit 4 = r.species.isNone ∧
    (byteAt (sheetBytes r) 2).testBit 5 = false ∧ byteAt (sheetBytes r) 2 / 64 = Lane.code r.lane := by
  rw [byteAt_sheet_species]
  cases r.species with
  | none => cases r.lane <;> decide
  | some c =>
    have hc : c % 16 < 16 := Nat.mod_lt _ (by omega)
    refine ⟨?_, ?_, ?_, ?_⟩
    · dsimp only [Option.getD_some]; omega
    · rw [Nat.testBit_eq_decide_div_mod_eq, decide_eq_false (by dsimp only; omega)]; rfl
    · rw [Nat.testBit_eq_decide_div_mod_eq, decide_eq_false (by dsimp only; omega)]
    · dsimp only; omega

theorem sheet_laidOut (r : SheetRecord) :
    let b := sheetBytes r
    let at_ := byteAt b
    b.length = 7 ∧ wordAt b 0 = r.number % 65536 ∧ at_ 2 % 16 = (r.species.getD 15) % 16 ∧
    (at_ 2).testBit 4 = r.species.isNone ∧ (at_ 2).testBit 5 = false ∧ at_ 2 / 64 = Lane.code r.lane ∧
    at_ 3 = (r.thickClass.getD 255) % 256 ∧ at_ 4 = ((r.cls.map fun c => c.code.val).getD 8) ∧
    at_ 5 % 16 = faultCode r.fault ∧ at_ 5 / 16 = r.status.code ∧
    (at_ 6).testBit 0 = r.flags.clamped ∧ (at_ 6).testBit 1 = r.flags.overdry ∧
    (at_ 6).testBit 2 = r.flags.noMoisture ∧ (at_ 6).testBit 3 = r.flags.defectsOmitted ∧
    (at_ 6).testBit 4 = r.flags.badDefect ∧ (at_ 6).testBit 5 = r.flags.unmeasured ∧
    (at_ 6).testBit 6 = r.flags.late ∧ (at_ 6).testBit 7 = r.flags.unconfirmed := by
  intro b at_
  obtain ⟨hspecies, habsent, hfive, hlane⟩ := testBit_sheet_species r
  have hfault := faultCode_lt r.fault
  have hstatus := r.status.code_lt
  have h5 : at_ 5 = faultCode r.fault + 16 * r.status.code :=
    (toNat_b8_mod _).trans (Nat.mod_eq_of_lt (by omega))
  have h6 : at_ 6 = _ := toNat_flags r.flags
  refine ⟨rfl, ?_, hspecies, habsent, hfive, hlane, toNat_optByte _, toNat_class _, by omega, by omega, ?_, ?_, ?_, ?_, ?_, ?_,
    ?_, ?_⟩
  · exact word_of_b16 _
  all_goals rw [h6]; simp only [testBit_flag_zero, testBit_flag_succ, testBit_flag_last]

/-! ## Tracking entries, plies and panels -/

theorem length_plyBytes (y : Ply) : (plyBytes y).length = 8 := rfl

/-- Bytes of a record by offset: the layout written out and read byte by byte. -/
theorem track_laidOut (e : TrackEntry) :
    let b := trackBytes e
    b.length = 12 ∧ b.take 7 = sheetBytes e.sheet ∧ wordAt b 7 = (e.sheet.moisture.getD 0xFFFF) % 65536 ∧
    wordAt b 9 = e.distance % 65536 ∧ byteAt b 11 % 16 = ((e.stack.map (·.val)).getD 15) ∧
    byteAt b 11 / 16 = e.drop.code := by
  intro b
  have hb : b = sheetBytes e.sheet ++ (b16 (e.sheet.moisture.getD 0xFFFF) ++ b16 e.distance ++
      [b8 (stackNibble e.stack + 16 * e.drop.code)]) := by simp [b, trackBytes, optWord_eq]
  have hk := stackNibble_lt e.stack
  have hd : e.drop.code < 4 := by cases e.drop <;> decide
  have h11 : byteAt b 11 = stackNibble e.stack + 16 * e.drop.code := by
    rw [hb]
    exact (toNat_b8_mod _).trans (Nat.mod_eq_of_lt (by omega))
  refine ⟨by rw [hb]; rfl, by rw [hb]; rfl, ?_, ?_, ?_, by omega⟩
  · rw [hb]
    exact word_of_b16 _
  · rw [hb]
    exact word_of_b16 _
  · rw [h11, ← stackNibble_eq]
    omega

theorem ply_laidOut (y : Ply) :
    let b := plyBytes y
    b.length = 8 ∧ b.take 7 = sheetBytes y.sheet ∧ byteAt b 7 % 16 = y.stack.val ∧ byteAt b 7 / 16 = y.role.code := by
  intro b
  have hk := y.stack.isLt
  have hr : y.role.code < 4 := by cases y.role <;> decide
  have h7 : byteAt b 7 = y.stack.val + 16 * y.role.code := (toNat_b8_mod _).trans (Nat.mod_eq_of_lt (by omega))
  exact ⟨rfl, rfl, by omega, by omega⟩

theorem panel_laidOut (p : PanelRecord) :
    let c := panelBytes p
    c.length = 5 + 8 * p.plies.length ∧ wordAt c 0 = p.number % 65536 ∧ byteAt c 2 = Line.code p.line ∧
    byteAt c 3 = p.status.code ∧ byteAt c 4 = p.plies.length % 256 ∧
    ∀ (older newer : List Ply) (z : Ply), p.plies = older ++ z :: newer →
      (c.drop (5 + 8 * older.length)).take 8 = plyBytes z := by
  intro c
  refine ⟨?_, ?_, ?_, ?_, toNat_b8_mod _, fun older newer z hp => ?_⟩
  · rw [← length_flatMap_const length_plyBytes p.plies, Nat.add_comm]
    rfl
  · exact word_of_b16 _
  · change (b8 (Line.code p.line)).toNat = _
    cases p.line <;> rfl
  · change (b8 p.status.code).toNat = _
    cases p.status <;> rfl
  · rw [← List.drop_drop]
    change ((p.plies.flatMap plyBytes).drop _).take 8 = _
    rw [hp]
    exact record_at length_plyBytes older newer z

/-! ## Intake records and stacks -/

theorem intake_laidOut (e : IntakeEntry) :
    let b := intakeBytes e
    b.length = 9 ∧ wordAt b 0 = e.sheet.number % 65536 ∧ (byteAt b 2).testBit 0 = decide (e.sheet.slot = .slot1) ∧
    byteAt b 2 / 16 = e.sheet.status.code ∧ byteAt b 3 = ((e.sheet.cls.map fun c => c.code.val).getD 255) ∧
    b[4]? = some e.sheet.flags.byte ∧ byteAt b 5 = faultCode e.sheet.fault ∧ byteAt b 6 = e.sheet.gapsAfter % 256 ∧
    wordAt b 7 = e.age % 65536 := by
  intro b
  have h2 : byteAt b 2 = Slot.code e.sheet.slot + 16 * e.sheet.status.code := by
    change (b8 (Slot.code e.sheet.slot + 16 * e.sheet.status.code)).toNat = _
    cases e.sheet.slot <;> cases e.sheet.status <;> rfl
  have hc : byteAt b 3 = ((e.sheet.cls.map fun c => c.code.val).getD 255) := by
    change (optByte (e.sheet.cls.map fun c => c.code.val)).toNat = _
    rcases e.sheet.cls with _ | c
    · rfl
    · cases c <;> rfl
  have hf : byteAt b 5 = faultCode e.sheet.fault :=
    (toNat_b8_mod _).trans (Nat.mod_eq_of_lt (by have := faultCode_lt e.sheet.fault; omega))
  refine ⟨rfl, word_of_b16 _, ?_, ?_, hc, rfl, hf, toNat_b8_mod _, word_of_b16 _⟩
  · rw [h2]
    cases e.sheet.slot <;> cases e.sheet.status <;> decide
  · rw [h2]
    cases e.sheet.slot <;> cases e.sheet.status <;> rfl

theorem fallingBytes_eq (f : Option Falling) :
    fallingBytes f = b16 ((f.map fun f => f.sheet.number).getD 0) ++ b16 ((f.map fun f => f.timer).getD 0) := by
  cases f <;> rfl

/-- The fixed part of a READ STACK body (R192). -/
def stackHead (x : Stack) (listed : Nat) : List Byte :=
  let number := fun f : Option Falling => (f.map fun f => f.sheet.number).getD 0
  let timer := fun f : Option Falling => (f.map fun f => f.timer).getD 0
  [b8 x.state.code] ++ b16 x.capacity ++ [accessByte x.access] ++ b16 x.inventory.length
    ++ [b8 x.allocated, b8 x.reservations, b8 x.falling.length]
    ++ (b16 (number x.falling[0]?) ++ b16 (timer x.falling[0]?)) ++ (b16 (number x.falling[1]?) ++ b16 (timer x.falling[1]?))
    ++ [lineByte x.holder, accessByte ⟨x.waiters.a.isSome, x.waiters.b.isSome⟩, lineByte x.lastGrant, b8 listed]

theorem stackBytes_eq (x : Stack) (offset count : Nat) :
    stackBytes x offset count = stackHead x ((x.inventory.drop offset).take count).length
      ++ ((x.inventory.drop offset).take count).flatMap sheetBytes := by
  rw [stackBytes, stackHead, fallingBytes_eq, fallingBytes_eq]

theorem stack_laidOut (x : Stack) (offset count : Nat) :
    let b := stackBytes x offset count
    let listed := (x.inventory.drop offset).take count
    let line := fun l : Option Line => ((l.map Line.code).getD 255)
    let place := fun (k i : Nat) =>
      (x.falling[i]? = none → wordAt b k = 0 ∧ wordAt b (k + 2) = 0) ∧
      (∀ f, x.falling[i]? = some f → wordAt b k = f.sheet.number % 65536 ∧ wordAt b (k + 2) = f.timer % 65536)
    b.length = 21 + 7 * listed.length ∧ byteAt b 0 = x.state.code ∧ wordAt b 1 = x.capacity % 65536 ∧
    byteAt b 3 = x.access.a.toNat + 2 * x.access.b.toNat ∧ wordAt b 4 = x.inventory.length % 65536 ∧
    byteAt b 6 = x.allocated % 256 ∧ byteAt b 7 = x.reservations % 256 ∧ byteAt b 8 = x.falling.length % 256 ∧
    place 9 0 ∧ place 13 1 ∧ byteAt b 17 = line x.holder ∧
    byteAt b 18 = x.waiters.a.isSome.toNat + 2 * x.waiters.b.isSome.toNat ∧ byteAt b 19 = line x.lastGrant ∧
    byteAt b 20 = listed.length % 256 ∧
    ∀ (above below : List SheetRecord) (r : SheetRecord), listed = above ++ r :: below →
      (b.drop (21 + 7 * above.length)).take 7 = sheetBytes r := by
  intro b listed line place
  have hb : b = stackHead x listed.length ++ listed.flatMap sheetBytes := stackBytes_eq x offset count
  have hplace {k i : Nat} (hn : wordAt b k = ((x.falling[i]?.map fun f => f.sheet.number).getD 0) % 65536)
      (ht : wordAt b (k + 2) = ((x.falling[i]?.map fun f => f.timer).getD 0) % 65536) : place k i := by
    refine ⟨fun hi => ?_, fun f hi => ?_⟩
    · rw [hn, ht, hi]
      exact ⟨rfl, rfl⟩
    · rw [hn, ht, hi]
      exact ⟨rfl, rfl⟩
  have hstate : byteAt b 0 = x.state.code := by
    rw [hb]
    change (b8 x.state.code).toNat = _
    cases x.state <;> rfl
  rw [hb] at hplace ⊢
  clear_value listed
  refine ⟨?_, hb ▸ hstate, word_of_b16 _, toNat_accessByte _, word_of_b16 _, toNat_b8_mod _, toNat_b8_mod _, toNat_b8_mod _,
    hplace (word_of_b16 _) (word_of_b16 _), hplace (word_of_b16 _) (word_of_b16 _), toNat_lineByte _, toNat_accessByte _,
    toNat_lineByte _, toNat_b8_mod _, fun above below r hl => ?_⟩
  · rw [List.length_append, length_flatMap_const length_sheetBytes]
    rfl
  · rw [← List.drop_drop]
    change ((listed.flatMap sheetBytes).drop _).take 7 = _
    rw [hl]
    exact record_at length_sheetBytes above below r

/-! ## Cache entries and buffer entries -/

theorem take_vector (x : Cell16) (rest : List Byte) : (x.toList ++ rest).take 16 = x.toList :=
  List.take_left' x.length_toList

theorem drop_vector (x : Cell16) (rest : List Byte) : (x.toList ++ rest).drop 16 = rest :=
  List.drop_left' x.length_toList

theorem speciesEntry_laidOut (locked : Bool) (owner : Option Nat) (code : Nat) (c : SpeciesCopy) :
    let b := entryBytes { body := .species owner code c, locked := locked }
    b.length = 58 ∧ (byteAt b 0).testBit 1 = locked ∧ (byteAt b 0).testBit 0 = false ∧
    (byteAt b 0).testBit 2 = owner.isNone ∧ wordAt b 1 = (owner.getD 0) % 65536 ∧
    byteAt b 3 = code % 256 ∧ wordAt b 4 = c.cell % 65536 ∧ wordAt b 6 = 0xFFFF ∧ wordAt b 8 = 0xFFFF ∧
    (b.drop 10).take 16 = c.content.toList ∧ b.drop 26 = List.replicate 32 0 := by
  intro b
  have h10 : b.drop 10 = c.content.toList ++ zeros 32 := rfl
  have h0 : byteAt b 0 = (b8 (2 * locked.toNat + 4 * owner.isNone.toNat)).toNat := rfl
  have hnone : (0xFF : Byte).toNat * 256 + (0xFF : Byte).toNat = 0xFFFF := by decide
  have hbits : ∀ l n : Bool, (b8 (2 * l.toNat + 4 * n.toNat)).toNat.testBit 1 = l ∧
      (b8 (2 * l.toNat + 4 * n.toNat)).toNat.testBit 0 = false ∧ (b8 (2 * l.toNat + 4 * n.toNat)).toNat.testBit 2 = n := by
    decide
  obtain ⟨hlock, hlevel, hshared⟩ := hbits locked owner.isNone
  refine ⟨?_, h0 ▸ hlock, h0 ▸ hlevel, h0 ▸ hshared, word_of_b16 _, toNat_b8_mod _, word_of_b16 _, hnone, hnone, ?_, ?_⟩
  · simp [b, entryBytes, b16, zeros]
  · rw [h10, take_vector]
  · rw [show (26 : Nat) = 10 + 16 from rfl, ← List.drop_drop, h10, drop_vector]
    rfl

theorem pathEntry_laidOut (locked : Bool) (origin k : Nat) (p : PathCopy) :
    let b := entryBytes { body := .path origin k p, locked := locked }
    b.length = 58 ∧ (byteAt b 0).testBit 1 = locked ∧ (byteAt b 0).testBit 0 = true ∧ (byteAt b 0).testBit 2 = false ∧
    wordAt b 1 = origin % 65536 ∧ byteAt b 3 = k % 256 ∧ wordAt b 4 = p.thickCell % 65536 ∧
    wordAt b 6 = p.lim1Cell % 65536 ∧ wordAt b 8 = p.lim2Cell % 65536 ∧
    b.drop 10 = p.thick.toList ++ p.lim1.toList ++ p.lim2.toList := by
  intro b
  have hb : b = [b8 (1 + 2 * locked.toNat)] ++ b16 origin ++ [b8 k] ++ b16 p.thickCell ++ b16 p.lim1Cell ++ b16 p.lim2Cell
      ++ (p.thick.toList ++ p.lim1.toList ++ p.lim2.toList) := by simp [b, entryBytes]
  have h0 : byteAt b 0 = (b8 (1 + 2 * locked.toNat)).toNat := rfl
  have hbits : ∀ l : Bool, (b8 (1 + 2 * l.toNat)).toNat.testBit 1 = l ∧ (b8 (1 + 2 * l.toNat)).toNat.testBit 0 = true ∧
      (b8 (1 + 2 * l.toNat)).toNat.testBit 2 = false := by decide
  obtain ⟨hlock, hlevel, hshared⟩ := hbits locked
  refine ⟨?_, h0 ▸ hlock, h0 ▸ hlevel, h0 ▸ hshared, word_of_b16 _, toNat_b8_mod _, word_of_b16 _, word_of_b16 _,
    word_of_b16 _, by rw [hb]; rfl⟩
  simp [hb, b16]

theorem buffer_laidOut (e : BufferEntry) :
    let b := bufferBytes e
    b.length = 76 ∧ wordAt b 0 = e.origin % 65536 ∧ byteAt b 2 = e.code % 256 ∧ byteAt b 3 = e.index % 256 ∧
    wordAt b 4 = e.species.cell % 65536 ∧ wordAt b 6 = e.path.thickCell % 65536 ∧
    wordAt b 8 = e.path.lim1Cell % 65536 ∧ wordAt b 10 = e.path.lim2Cell % 65536 ∧
    b.drop 12 = e.species.content.toList ++ e.path.thick.toList ++ e.path.lim1.toList ++ e.path.lim2.toList := by
  intro b
  have hb : b = b16 e.origin ++ [b8 e.code, b8 e.index] ++ b16 e.species.cell ++ b16 e.path.thickCell
      ++ b16 e.path.lim1Cell ++ b16 e.path.lim2Cell
      ++ (e.species.content.toList ++ e.path.thick.toList ++ e.path.lim1.toList ++ e.path.lim2.toList) := by
    simp [b, bufferBytes]
  refine ⟨?_, word_of_b16 _, toNat_b8_mod _, toNat_b8_mod _, word_of_b16 _, word_of_b16 _, word_of_b16 _, word_of_b16 _,
    by rw [hb]; rfl⟩
  simp [hb, b16]

/-! ## Reports, roots, routes and steps -/

theorem toNat_fault (f : Option RuleFault) : (b8 (faultCode f)).toNat = faultCode f :=
  (toNat_b8_mod _).trans (Nat.mod_eq_of_lt (by have := faultCode_lt f; omega))

theorem toNat_source (x : Source) : (b8 x.code).toNat = x.code := by cases x <;> rfl

theorem toNat_lockResult (x : LockResult) : (b8 x.code).toNat = x.code := by
  cases x with
  | fault k => cases k <;> rfl
  | locked => rfl
  | notLocked => rfl

theorem probe_laidOut (r : ProbeReport) :
    let b := probeBytes r
    b.length = 11 ∧ byteAt b 0 = faultCode r.fault ∧ byteAt b 1 = r.speciesSource.code ∧
    wordAt b 2 = (r.speciesCell.getD 0xFFFF) % 65536 ∧ byteAt b 4 = (r.index.getD 255) % 256 ∧
    byteAt b 5 = r.pathSource.code ∧ wordAt b 6 = (r.thickCell.getD 0xFFFF) % 65536 ∧
    wordAt b 8 = (r.limitOrigin.getD 0xFFFF) % 65536 ∧ byteAt b 10 = r.accesses % 256 := by
  intro b
  have hb : b = [b8 (faultCode r.fault), b8 r.speciesSource.code] ++ b16 (r.speciesCell.getD 0xFFFF)
      ++ [optByte r.index, b8 r.pathSource.code] ++ b16 (r.thickCell.getD 0xFFFF) ++ b16 (r.limitOrigin.getD 0xFFFF)
      ++ [b8 r.accesses] := by simp [b, probeBytes, optWord_eq]
  rw [hb]
  exact ⟨rfl, toNat_fault _, toNat_source _, word_of_b16 _, toNat_optByte _, toNat_source _, word_of_b16 _, word_of_b16 _,
    toNat_b8_mod _⟩

theorem lock_laidOut (rs : List LockResult) :
    byteAt (lockBytes rs) 0 = rs.length % 256 ∧ (lockBytes rs).length = 1 + rs.length ∧
    ∀ i (h : i < rs.length), byteAt (lockBytes rs) (1 + i) = rs[i].code := by
  refine ⟨toNat_b8_mod _, ?_, fun i h => ?_⟩
  · rw [lockBytes, List.length_cons, List.length_map, Nat.add_comm]
  · rw [Nat.add_comm, lockBytes, byteAt_cons_succ, byteAt, List.getElem?_map, List.getElem?_eq_getElem h]
    exact toNat_lockResult _

theorem root_laidOut (k : Slot) (d : Descriptor) (used : Bool) :
    let b := rootBytes k (some d) used
    b.length = 4 ∧ (byteAt b 0).testBit 0 = true ∧ (byteAt b 0).testBit 1 = d.isolated ∧
    (byteAt b 0).testBit 2 = used ∧ byteAt b 0 < 8 ∧ wordAt b 1 = d.origin % 65536 ∧ byteAt b 3 = d.count % 256 := by
  intro b
  have hbits : ∀ i u : Bool, (b8 (1 + 2 * i.toNat + 4 * u.toNat)).toNat.testBit 0 = true ∧
      (b8 (1 + 2 * i.toNat + 4 * u.toNat)).toNat.testBit 1 = i ∧ (b8 (1 + 2 * i.toNat + 4 * u.toNat)).toNat.testBit 2 = u ∧
      (b8 (1 + 2 * i.toNat + 4 * u.toNat)).toNat < 8 := by decide
  obtain ⟨hpresent, hisolated, hused, hlt⟩ := hbits d.isolated used
  exact ⟨rfl, hpresent, hisolated, hused, hlt, word_of_b16 _, toNat_b8_mod _⟩

theorem absentRoot_laidOut (k : Slot) (used : Bool) :
    (rootBytes k none used).length = 4 ∧ (byteAt (rootBytes k none used) 0).testBit 0 = false ∧
    (byteAt (rootBytes k none used) 0).testBit 2 = used := by
  have h0 : byteAt (rootBytes k none used) 0 = ((Config.absentRootByte k.code 0 &&& 2) ||| b8 (4 * used.toNat)).toNat := rfl
  generalize Config.absentRootByte k.code 0 = free at h0
  have hbit (i : Nat) : (byteAt (rootBytes k none used) 0).testBit i =
      ((free.getLsbD i && (2 : Byte).getLsbD i) || (b8 (4 * used.toNat)).getLsbD i) := by
    rw [h0, BitVec.testBit_toNat, BitVec.getLsbD_or, BitVec.getLsbD_and]
  refine ⟨rfl, ?_, ?_⟩
  · rw [hbit]
    cases used <;> simp [b8]
  · rw [hbit]
    cases used <;> simp [b8]

theorem route_laidOut (r : Route) :
    r.bytes.length = 2 ∧ byteAt r.bytes 0 % 16 = ((r.primary.map (·.val)).getD 15) ∧
    byteAt r.bytes 0 / 16 = ((r.alternate.map (·.val)).getD 15) ∧ byteAt r.bytes 1 = r.group.val := by
  obtain ⟨hp, ha⟩ := toNat_b8_stackNibbles r.primary r.alternate
  rw [← stackNibble_eq, ← stackNibble_eq]
  exact ⟨rfl, hp, ha, toNat_b8 (by have := r.group.isLt; omega)⟩

theorem swapByte_getLsbD (v : Vector Bool 4) (g : Fin 4) : (swapByte v).getLsbD g.val = v[g] := by
  have hbits : ∀ a b c d : Bool, ∀ g : Fin 4,
      (b8 (a.toNat + 2 * b.toNat + 4 * c.toNat + 8 * d.toNat)).getLsbD g.val = #v[a, b, c, d][g] := by decide
  have hv : v = #v[v[0], v[1], v[2], v[3]] := by
    ext i hi
    interval_cases i <;> rfl
  rw [swapByte, hbits, ← hv]

theorem step_laidOut (y : PatternStep) (c : Option Nat) :
    (stepBytes (y, c)).length = 5 ∧ (stepBytes (y, c)).take 4 = y.bytes ∧ byteAt (stepBytes (y, c)) 4 = (c.getD 255) % 256 := by
  have hy : ∃ a b d e, y.bytes = [a, b, d, e] := by
    cases y with
    | unnamed seven kept => cases seven <;> exact ⟨_, _, _, _, rfl⟩
    | _ => exact ⟨_, _, _, _, rfl⟩
  obtain ⟨a, b, d, e, hy⟩ := hy
  rw [stepBytes, hy]
  exact ⟨rfl, rfl, toNat_optByte c⟩

/-! ## Codes -/

theorem forall₂_getElem? {α β : Type} {P : α → β → Prop} {as : List α} {bs : List β} (h : List.Forall₂ P as bs) :
    ∀ {n : Nat} {a : α} {b : β}, as[n]? = some a → bs[n]? = some b → P a b := by
  induction h with
  | nil => exact nofun
  | cons hp _ ih =>
    intro n a b ha hb
    cases n with
    | zero =>
      cases ha
      cases hb
      exact hp
    | succ n => exact ih ha hb

/-- The command of a request carries its frame with that code (R185). -/
def CarriesCode (make : Port → Byte → List Byte → Instr) (c : Byte) : Prop :=
  ∀ p tag body, (make p tag body).frame = some { port := p, code := c, tag := tag, body := body }

theorem paramOf_gate (k : StackId) : paramOf (0x12 + k.val) = some (.gate k) := by
  fin_cases k <;> rfl

/-- The id of a parameter (R190). -/
def Param.id : Param → Nat
  | .ageLimit => 0x01
  | .decision => 0x10
  | .window => 0x11
  | .gate k => 0x12 + k.val
  | .runOut => 0x1C
  | .stallLimit => 0x1D
  | .landingLimit => 0x20
  | .priority => 0x21
  | .pickLimit => 0x30
  | .starveLimit => 0x31

theorem paramOf_id (q : Param) : paramOf q.id = some q := by
  cases q with
  | gate k => exact paramOf_gate k
  | _ => rfl

theorem id_of_paramOf {id : Nat} {q : Param} (h : paramOf id = some q) : id = q.id := by
  unfold paramOf at h
  split_ifs at h
  iterate 9
    · cases h
      assumption
  · obtain ⟨k, hk, rfl⟩ := Option.map_eq_some_iff.mp h
    unfold stackOf at hk
    split at hk
    · cases hk
      change id = 0x12 + (id - 0x12)
      omega
    · cases hk

/-- Settles O60: record by record, and the codes row by row. -/
theorem answersAreLaidOut : Obligations.AnswersAreLaidOut := by
  unfold Obligations.AnswersAreLaidOut
  refine ⟨sheet_laidOut, track_laidOut, fun y p => ?_, intake_laidOut, stack_laidOut, fun locked body => ?_, buffer_laidOut,
    fun r rs => ?_, fun k d used => ?_, fun r v g => ?_, fun y c => ?_, ?_, ?_, ?_, ?_, ?_⟩
  · obtain ⟨h0, h1, h2, h3⟩ := ply_laidOut y
    exact ⟨h0, h1, h2, h3, panel_laidOut p⟩
  · cases body with
    | species owner code c =>
      obtain ⟨hlen, hlock, hrest⟩ := speciesEntry_laidOut locked owner code c
      refine ⟨hlen, hlock, fun _ _ _ e => ?_, fun _ _ _ e => by cases e⟩
      cases e
      exact hrest
    | path origin k p =>
      obtain ⟨hlen, hlock, hrest⟩ := pathEntry_laidOut locked origin k p
      refine ⟨hlen, hlock, (fun _ _ _ e => by cases e), fun _ _ _ e => ?_⟩
      cases e
      exact hrest
  · obtain ⟨h0, h1, h2, h3, h4, h5, h6, h7, h8⟩ := probe_laidOut r
    exact ⟨h0, h1, h2, h3, h4, h5, h6, h7, h8, lock_laidOut rs⟩
  · obtain ⟨h0, h1, h2, h3, h4, h5, h6⟩ := root_laidOut k d used
    exact ⟨h0, h1, h2, h3, h4, h5, h6, absentRoot_laidOut k used⟩
  · obtain ⟨h0, h1, h2, h3⟩ := route_laidOut r
    exact ⟨h0, h1, h2, h3, swapByte_getLsbD v g⟩
  · obtain ⟨h0, h1, h2⟩ := step_laidOut y c
    refine ⟨h0, h1, h2, fun _ e => e ▸ rfl, fun _ _ _ e => e ▸ rfl, fun _ _ e => e ▸ rfl, fun _ _ e => e ▸ rfl,
      fun _ e => e ▸ rfl, fun _ e => e ▸ rfl, fun seven kept e => ?_⟩
    subst e
    cases seven <;> rfl
  · decide
  · refine ⟨rfl, rfl, fun n make c hm hc => ?_, fun _ _ _ _ => rfl, fun c => List.contains_iff_mem⟩
    refine forall₂_getElem? (P := CarriesCode) ?_ hm hc
    repeat' first
      | exact .nil
      | refine .cons (fun _ _ _ => rfl) ?_
  · decide
  · exact ⟨by decide, fun l => by cases l <;> decide⟩
  · intro id q
    have hid : id = q.id ↔ id = match q with
      | .ageLimit => 0x01
      | .decision => 0x10
      | .window => 0x11
      | .gate k => 0x12 + k.val
      | .runOut => 0x1C
      | .stallLimit => 0x1D
      | .landingLimit => 0x20
      | .priority => 0x21
      | .pickLimit => 0x30
      | .starveLimit => 0x31 := by cases q <;> exact Iff.rfl
    exact ⟨fun h => hid.mp (id_of_paramOf h), fun h => hid.mpr h ▸ paramOf_id q⟩

end Sys2Proof.Machine
end

section
/-!
PROOFS. The requests that read (R19, R49, R82, R99, R107, R114, R124, R140, R153, R171, R180, R182); the statement
ReadRequestsChangeNothing.
-/

namespace Sys2Proof.Machine

variable {s : State} {p : Port} {code tag : Byte} {body : List Byte}

/-! ## Blocks that change nothing -/

/-- The block leaves the state as it is, whatever it answers. -/
def ReadsOnly (block : State → Reply) : Prop := ∀ t, (block t).st = t

theorem readNotices_reads (p : Port) (body : List Byte) : ReadsOnly (readNotices p body) := fun t => by
  unfold readNotices; split <;> rfl

theorem getParameter_reads (body : List Byte) : ReadsOnly (getParameter body) := fun t => by
  unfold getParameter
  split
  · rfl
  · split <;> rfl

theorem readIntake_reads (body : List Byte) : ReadsOnly (readIntake body) := fun t => by
  unfold readIntake
  split
  · rfl
  · split <;> rfl

theorem readRoots_reads (body : List Byte) : ReadsOnly (readRoots body) := fun t => by unfold readRoots; split <;> rfl

theorem readCache_reads (body : List Byte) : ReadsOnly (readCache body) := fun t => by
  unfold readCache
  split
  · rfl
  · split
    · rfl
    · split <;> rfl

theorem readTracking_reads (body : List Byte) : ReadsOnly (readTracking body) := fun t => by
  unfold readTracking
  split
  · rfl
  · split <;> rfl

theorem readRoutes_reads (body : List Byte) : ReadsOnly (readRoutes body) := fun t => by unfold readRoutes; split <;> rfl

theorem readRunout_reads (body : List Byte) : ReadsOnly (readRunout body) := fun t => by unfold readRunout; split <;> rfl

theorem readStack_reads (body : List Byte) : ReadsOnly (readStack body) := fun t => by
  unfold readStack
  split
  · rfl
  · split
    · rfl
    · split <;> rfl

theorem readSteps_reads (body : List Byte) : ReadsOnly (readSteps body) := fun t => by
  unfold readSteps
  split
  · rfl
  · split
    · rfl
    · dsimp only
      split <;> rfl

theorem readLineStatus_reads (body : List Byte) : ReadsOnly (readLineStatus body) := fun t => by
  unfold readLineStatus onLine
  split
  · rfl
  · split <;> rfl

theorem peekPanel_reads (body : List Byte) : ReadsOnly (peekPanel body) := fun t => by
  unfold peekPanel
  split
  · rfl
  · split
    · rfl
    · split
      · rfl
      · split <;> rfl

theorem serve_reads {block : State → Reply} (hb : ReadsOnly block) (h : Ready s p) :
    ∃ st out, serve code p tag block s = .next (s.answered p code tag st out) :=
  ⟨_, _, (serve_ready block h).trans (by rw [hb, State.answered])⟩

theorem frameReceived_reads (h : Ready s p) (hc : isReadRequest code = true) :
    ∃ st out, frameReceived p code tag body s = .next (s.answered p code tag st out) := by
  have hall : ∀ c ∈ [Code.readNotices, Code.getParameter, Code.readIntake, Code.readRoots, Code.readCache, Code.readTracking,
      Code.readRoutes, Code.readRunout, Code.readStack, Code.readSteps, Code.readLineStatus, Code.peekPanel],
      ∃ st out, frameReceived p c tag body s = .next (s.answered p c tag st out) :=
    forall_mem_cons_of (serve_reads (readNotices_reads p body) h) <|
    forall_mem_cons_of (serve_reads (getParameter_reads body) h) <|
    forall_mem_cons_of (serve_reads (readIntake_reads body) h) <|
    forall_mem_cons_of (serve_reads (readRoots_reads body) h) <|
    forall_mem_cons_of (serve_reads (readCache_reads body) h) <|
    forall_mem_cons_of (serve_reads (readTracking_reads body) h) <|
    forall_mem_cons_of (serve_reads (readRoutes_reads body) h) <|
    forall_mem_cons_of (serve_reads (readRunout_reads body) h) <|
    forall_mem_cons_of (serve_reads (readStack_reads body) h) <|
    forall_mem_cons_of (serve_reads (readSteps_reads body) h) <|
    forall_mem_cons_of (serve_reads (readLineStatus_reads body) h) <|
    forall_mem_cons_of (serve_reads (peekPanel_reads body) h) <|
    fun _ hn => absurd hn List.not_mem_nil
  exact hall code (List.contains_iff_mem.mp hc)

/-! ## The answers -/

theorem lineOf_code (l : Line) : lineOf (b8 (Line.code l)).toNat = some l := by cases l <;> rfl

theorem laneOf_code (l : Lane) : laneOf (b8 (Lane.code l)).toNat = some l := by cases l <;> rfl

theorem listed_eq (c : RuleCache) (start : Nat) :
    c.listed start = if c.mode = .off then ((c.buffer.drop start).take 3).map bufferBytes
      else ((c.entries.drop start).take 3).map entryBytes := by
  unfold RuleCache.listed
  cases c.mode <;> rfl

theorem readCache_ok {u b : Byte} {v : Lane} (hv : unitOf u.toNat = some v) (hb : b.toNat ≤ 15) (t : State) :
    readCache [u, b] t = okReply t ([b8 (t.cache v).mode.code, b8 (t.cache v).entries.length, b8 (t.cache v).lockedCount,
      b8 (t.cache v).buffer.length, b8 ((t.cache v).listed b.toNat).length] ++ ((t.cache v).listed b.toNat).flatten) := by
  simp [readCache, hv, Nat.not_lt.mpr hb]

theorem readCache_badValue {u b : Byte} (h : unitOf u.toNat = none ∨ 15 < b.toNat) (t : State) :
    readCache [u, b] t = refuse t .badValue := by
  cases hu : unitOf u.toNat with
  | none => simp [readCache, hu]
  | some v =>
    have hb : 15 < b.toNat := h.resolve_left (by simp [hu])
    simp [readCache, hu, hb]

theorem readStack_ok {k hi lo n : Byte} {j : StackId} (hj : stackOf k.toNat = some j)
    (ho : hi.toNat * 256 + lo.toNat ≤ 399) (hn : n.toNat ≤ 16) (t : State) :
    readStack [k, hi, lo, n] t = okReply t (stackBytes (t.stack j) (hi.toNat * 256 + lo.toNat) n.toNat) := by
  have hw : wordAt [k, hi, lo, n] 1 = hi.toNat * 256 + lo.toNat := rfl
  have hc : byteAt [k, hi, lo, n] 3 = n.toNat := rfl
  rw [readStack, if_neg (by simp), byteAt_cons_zero, hj, hw, hc]
  exact if_neg (by omega)

theorem readStack_badValue {k hi lo n : Byte}
    (h : stackOf k.toNat = none ∨ 399 < hi.toNat * 256 + lo.toNat ∨ 16 < n.toNat) (t : State) :
    readStack [k, hi, lo, n] t = refuse t .badValue := by
  rw [readStack, if_neg (by simp), byteAt_cons_zero]
  cases hk : stackOf k.toNat with
  | none => rfl
  | some j => exact if_pos (h.resolve_left (by simp [hk]))

theorem readSteps_ok {l first n : Byte} {m : Line} (hm : lineOf l.toNat = some m) (h1 : 1 ≤ n.toNat)
    (h16 : first.toNat + n.toNat ≤ 16) (t : State) :
    readSteps [l, first, n] t = okReply t (n :: ((((t.line m).pattern.toList.zip
      (t.line m).counters.toList).drop first.toNat).take n.toNat).flatMap stepBytes) := by
  have hf : byteAt [l, first, n] 1 = first.toNat := rfl
  have hn : byteAt [l, first, n] 2 = n.toNat := rfl
  have hb : b8 n.toNat = n := by simp [b8]
  rw [readSteps, if_neg (by simp), byteAt_cons_zero, hm, hf, hn]
  dsimp only
  rw [hb]
  exact if_neg (by omega)

theorem readSteps_badValue {l first n : Byte} (h : lineOf l.toNat = none ∨ n.toNat < 1 ∨ 16 < first.toNat + n.toNat)
    (t : State) : readSteps [l, first, n] t = refuse t .badValue := by
  have hf : byteAt [l, first, n] 1 = first.toNat := rfl
  have hn : byteAt [l, first, n] 2 = n.toNat := rfl
  rw [readSteps, if_neg (by simp), byteAt_cons_zero, hf, hn]
  cases hl : lineOf l.toNat with
  | none => rfl
  | some m =>
    have := h.resolve_left (by simp [hl])
    exact if_pos (by omega)

theorem waitingStack_eq (x : LineState) :
    x.waitingStack = if x.activity = .waitingTop ∨ x.activity = .picking then x.draw.bind (·.stack) else none := by
  unfold LineState.waitingStack
  cases x.activity <;> rfl

theorem statusBytes_eq (x : LineState) :
    statusBytes x =
      let stack := if x.activity = .waitingTop ∨ x.activity = .picking then x.draw.bind (·.stack) else none
      [b8 x.mode.code, b8 x.exec.code, b8 x.pointer.val, b8 x.activity.code, b8 (lineFaultCode x.fault),
       bBool x.latch, b8 (stackNibble stack), b8 x.openPanel.length, b8 x.panelQueue.length,
       b8 (drawResultCode x.lastDraw)] := by
  rw [statusBytes, waitingStack_eq]

/-- Settles O59: the blocks change nothing, and each answers by the fields of its body. -/
theorem readRequestsChangeNothing : Obligations.ReadRequestsChangeNothing := by
  unfold Obligations.ReadRequestsChangeNothing
  refine ⟨fun s t i f hi hc h ht => ?_, fun s p tag h => ?_⟩
  · rw [exec_frame_whole hi h.whole] at ht
    obtain ⟨st, out, hr⟩ := frameReceived_reads (tag := f.tag) (body := f.body) h hc
    rw [hr] at ht
    cases ht
    exact ⟨st, out, rfl⟩
  · intro answers refuses
    have hok {i : Instr} {code : Byte} {body out : List Byte} {block : State → Reply}
        (hi : exec i s = receiveRequest code p tag body (serve code p tag block) s)
        (hb : block (s.hunt p) = okReply (s.hunt p) out) : answers i code out :=
      hi.trans ((receiveRequest_whole _ h.whole).trans (serve_done h hb))
    have hno {i : Instr} {code : Byte} {body : List Byte} {block : State → Reply}
        (hi : exec i s = receiveRequest code p tag body (serve code p tag block) s)
        (hb : block (s.hunt p) = refuse (s.hunt p) .badValue) : refuses i code :=
      hi.trans ((receiveRequest_whole _ h.whole).trans (serve_refuse h hb))
    refine ⟨hok rfl ?_, hok rfl rfl, hok rfl rfl, hok rfl rfl, fun id q hq => hok rfl ?_, fun id hq => hno rfl ?_,
      fun l => hok rfl ?_, fun b hb => hno rfl ?_, fun b => ⟨fun hb => hok rfl ?_, fun hb => hno rfl ?_⟩,
      fun u b => ⟨fun v hv hb => hok rfl ?_, fun hbad => hno rfl (readCache_badValue hbad _)⟩,
      fun k hi lo n => ⟨fun j hj ho hn => hok rfl (readStack_ok hj ho hn _), fun hbad => hno rfl (readStack_badValue hbad _)⟩,
      fun l first n => ⟨fun m hm h1 h16 => hok rfl (readSteps_ok hm h1 h16 _), fun hbad => hno rfl (readSteps_badValue hbad _)⟩,
      fun l => hok rfl ?_, fun b hb => hno rfl ?_, fun l n => ⟨fun r hn hr => hok rfl ?_, fun hn hr => ?_, fun hn => hno rfl ?_⟩⟩
    · rw [readNotices, if_neg (by simp), State.port_hunt_same]
      rfl
    · simp [getParameter, hq, Param.value]
    · simp [getParameter, hq]
    · simp [readIntake, laneOf_code]
    · simp [readIntake, hb]
    · simp [readTracking, Nat.not_lt.mpr hb]
    · simp [readTracking, hb]
    · rw [readCache_ok hv hb, listed_eq]
      rfl
    · simp [readLineStatus, onLine, lineOf_code, statusBytes_eq]
    · simp [readLineStatus, onLine, hb]
    · simp [peekPanel, lineOf_code, Nat.not_lt.mpr hn, hr]
    · refine (receiveRequest_whole _ h.whole).trans (serve_refuse h ?_)
      simp [peekPanel, lineOf_code, Nat.not_lt.mpr hn, hr]
    · simp [peekPanel, lineOf_code, hn]

end Sys2Proof.Machine
end

section
/-!
PROOFS. The requests of the port path (R51, R55 to R59, R75): their checks, and how they join the queue; the statement
TableRequestsJoinPortPath.
-/

namespace Sys2Proof.Machine

variable {s : State} {p : Port} {code tag : Byte} {body : List Byte}

/-! ## The head of the port path -/

theorem takeHead_nil (h : s.tables.portPath = []) (n : Nat) : takeHead n s = s := by
  cases n with
  | zero => rfl
  | succ n => rw [takeHead, h]

theorem takeHead_taken {q : PathRequest} {rest : List PathRequest} (h : s.tables.portPath = q :: rest)
    (hq : q.work.cell ≠ none) (n : Nat) : takeHead n s = s := by
  cases n with
  | zero => rfl
  | succ n =>
    rw [takeHead, h]
    dsimp only
    cases hw : q.work with
    | probe a run =>
      cases run with
      | none => exact absurd (by rw [hw]; rfl) hq
      | some run => rfl
    | lock a run =>
      cases run with
      | none => exact absurd (by rw [hw]; rfl) hq
      | some run => rfl
    | write n x => rfl
    | read n => rfl
    | replace n e x scope => rfl
    | invalidate n scope => rfl

theorem takeHead_headTaken (h : HeadTaken s.tables.portPath) (n : Nat) : takeHead n s = s := by
  cases hp : s.tables.portPath with
  | nil => exact takeHead_nil hp n
  | cons q rest => exact takeHead_taken hp (h q rest hp) n

theorem HeadTaken.append {path : List PathRequest} {q : PathRequest} (h : HeadTaken path)
    (hq : path ≠ [] ∨ q.work.cell ≠ none) : HeadTaken (path ++ [q]) := by
  cases path with
  | nil => exact headTaken_cons (hq.resolve_left (absurd rfl))
  | cons x xs => exact headTaken_cons (h x xs rfl)

/-- The queue and its port before the head is looked at. -/
theorem joinPath_hunt (q : PathRequest) (s : State) :
    joinPath q (s.hunt q.port) = takeHead (s.tables.portPath.length + 1) (s.queued q) := by
  obtain ⟨port, code, tag, work⟩ := q
  cases port <;> rfl

theorem queued_portPath (q : PathRequest) (s : State) : (s.queued q).tables.portPath = s.tables.portPath ++ [q] := rfl

theorem serveTable_joins {check : Except Status TableWork} {w : TableWork} (h : Ready s p) (hc : check = .ok w)
    (ht : HeadTaken s.tables.portPath) (hw : s.tables.portPath ≠ [] ∨ w.cell ≠ none) :
    serveTable code p tag check s = .next (s.queued { port := p, code := code, tag := tag, work := w }) := by
  rw [serveTable_ok h hc]
  refine congrArg Host.Outcome.next ((joinPath_hunt { port := p, code := code, tag := tag, work := w } s).trans ?_)
  exact takeHead_headTaken (ht.append hw) _

/-! ## The checks -/

theorem cellOk_of_le (h : wordAt body 0 ≤ 2047) : cellOk body = true := (cellOk_iff body).mpr (Nat.lt_succ_of_le h)

theorem cellOk_of_lt (h : 2047 < wordAt body 0) : cellOk body = false :=
  Bool.eq_false_iff.mpr fun e => absurd ((cellOk_iff body).mp e) (Nat.not_lt.mpr h)

theorem tagOk_iff (body : List Byte) (k : Nat) : tagOk body k = true ↔ byteAt body k ≤ 4 := by simp [tagOk]

theorem checkWriteCell_badValue (hl : body.length = 18) (h : 2047 < wordAt body 0 ∨ 4 < byteAt body 2) :
    checkWriteCell body = .error .badValue := by
  rw [checkWriteCell, if_neg (by simp [hl])]
  refine if_pos (h.imp (fun h => by simp [cellOk_of_lt h]) fun h => ?_)
  rw [tagOk_iff]
  omega

theorem checkWriteCell_ok (hl : body.length = 18) (h0 : wordAt body 0 ≤ 2047) (h2 : byteAt body 2 ≤ 4) :
    checkWriteCell body = .ok (.write (wordAt body 0) (cellAt body 2)) := by
  rw [checkWriteCell, if_neg (by simp [hl])]
  exact if_neg (by simp [cellOk_of_le h0, tagOk_iff, h2])

theorem checkReadCell_badValue (hl : body.length = 2) (h : 2047 < wordAt body 0) :
    checkReadCell body = .error .badValue := by simp [checkReadCell, hl, cellOk_of_lt h]

theorem checkReadCell_ok (hl : body.length = 2) (h : wordAt body 0 ≤ 2047) :
    checkReadCell body = .ok (.read (wordAt body 0)) := by simp [checkReadCell, hl, cellOk_of_le h]

theorem checkReplaceCell_badValue (hl : body.length = 35)
    (h : 2047 < wordAt body 0 ∨ 4 < byteAt body 2 ∨ 4 < byteAt body 18 ∨ 2 < byteAt body 34) :
    checkReplaceCell body = .error .badValue := by
  rw [checkReplaceCell, if_neg (by simp [hl])]
  by_cases hs : 2 < byteAt body 34
  · rw [scopeOf_eq_none hs]
    exact ite_self _
  · refine if_pos ?_
    rw [tagOk_iff, tagOk_iff, cellOk_iff, Config.cellCount]
    omega

theorem checkReplaceCell_ok {scope : Scope} (hl : body.length = 35) (h0 : wordAt body 0 ≤ 2047) (h2 : byteAt body 2 ≤ 4)
    (h18 : byteAt body 18 ≤ 4) (hs : scopeOf (byteAt body 34) = some scope) :
    checkReplaceCell body = .ok (.replace (wordAt body 0) (cellAt body 2) (cellAt body 18) scope) := by
  simp [checkReplaceCell, hl, cellOk_of_le h0, tagOk_iff, h2, h18, hs]

theorem checkInvalidateCell_badValue (hl : body.length = 3) (h : 2047 < wordAt body 0 ∨ 2 < byteAt body 2) :
    checkInvalidateCell body = .error .badValue := by
  rcases h with h | h
  · simp [checkInvalidateCell, hl, cellOk_of_lt h]
  · simp [checkInvalidateCell, hl, scopeOf_eq_none h]

theorem checkInvalidateCell_ok {scope : Scope} (hl : body.length = 3) (h0 : wordAt body 0 ≤ 2047)
    (hs : scopeOf (byteAt body 2) = some scope) : checkInvalidateCell body = .ok (.invalidate (wordAt body 0) scope) := by
  simp [checkInvalidateCell, hl, cellOk_of_le h0, hs]

theorem unitOf_eq_none : ∀ {n : Nat}, 1 < n → unitOf n = none
  | _ + 2, _ => rfl

theorem probeThickness_eq_none {n : Nat} (h : 9999 < n) (hne : n ≠ 0xFFFF) : probeThickness n = none := by
  rw [probeThickness, if_neg hne, if_neg (Nat.not_le.mpr h)]

theorem checkProbePath_badValue (hl : body.length = 6)
    (h : 1 < byteAt body 0 ∨ 15 < byteAt body 1 ∨ (9999 < wordAt body 2 ∧ wordAt body 2 ≠ 0xFFFF) ∨ 1 < byteAt body 4 ∨
      1 < byteAt body 5) : checkProbePath body = .error .badValue := by
  rw [checkProbePath, if_neg (by simp [hl])]
  rcases h with h | h | ⟨h, hne⟩ | h | h
  · rw [slotOf_eq_none h]
    exact ite_self _
  · exact if_pos (Nat.not_le.mpr h)
  · rw [probeThickness_eq_none h hne]
    split
    · rfl
    · split <;> simp_all
  · rw [unitOf_eq_none h]
    split
    · rfl
    · split <;> simp_all
  · rw [yesNo_eq_none h]
    split
    · rfl
    · split <;> simp_all

theorem checkProbePath_ok {a : ProbeArgs} (hl : body.length = 6) (hs : slotOf (byteAt body 0) = some a.slot)
    (hc : byteAt body 1 = a.code) (h15 : a.code ≤ 15) (ht : probeThickness (wordAt body 2) = some a.thickness)
    (hu : unitOf (byteAt body 4) = some a.unit) (hy : yesNo (byteAt body 5) = some a.useCache) :
    checkProbePath body = .ok (.probe a none) := by
  rw [checkProbePath, if_neg (by simp [hl]), if_neg (by omega), hs, ht, hu, hy, hc]

theorem length_pathsAt (body : List Byte) (off n : Nat) : (pathsAt body off n).length = n := by
  induction n generalizing off with
  | zero => rfl
  | succ n ih => rw [pathsAt, List.length_cons, ih]

theorem getElem?_pathsAt (body : List Byte) (off : Nat) {n i : Nat} (h : i < n) :
    (pathsAt body off n)[i]? = some (byteAt body (off + 2 * i), byteAt body (off + 1 + 2 * i)) := by
  induction n generalizing off i with
  | zero => exact absurd h (Nat.not_lt_zero i)
  | succ n ih =>
    cases i with
    | zero => rfl
    | succ i =>
      rw [pathsAt, List.getElem?_cons_succ, ih _ (Nat.lt_of_succ_lt_succ h), Nat.mul_succ]
      exact congrArg some (Prod.ext (congrArg (byteAt body) (by omega)) (congrArg (byteAt body) (by omega)))

theorem checkLockPaths_badValue (hl : body.length = 3 + 2 * byteAt body 2)
    (h : 1 < byteAt body 0 ∨ 1 < byteAt body 1 ∨ byteAt body 2 < 1 ∨ 8 < byteAt body 2 ∨
      ∃ i, i < byteAt body 2 ∧ (15 < byteAt body (3 + 2 * i) ∨ 7 < byteAt body (4 + 2 * i))) :
    checkLockPaths body = .error .badValue := by
  rw [checkLockPaths, if_neg (by omega)]
  dsimp only
  rcases h with h | h | h | h | ⟨i, hi, h⟩
  · rw [unitOf_eq_none h]
    exact ite_self _
  · rw [slotOf_eq_none h]
    split
    · rfl
    · split <;> simp_all
  · exact if_pos (.inl h)
  · exact if_pos (.inr (.inl h))
  · refine if_pos (.inr (.inr (List.any_eq_true.mpr ⟨_, List.mem_of_getElem? (getElem?_pathsAt body 3 hi), ?_⟩)))
    simpa using h

theorem checkLockPaths_ok {a : LockArgs} (hl : body.length = 3 + 2 * byteAt body 2)
    (hu : unitOf (byteAt body 0) = some a.unit) (hs : slotOf (byteAt body 1) = some a.slot)
    (hn : byteAt body 2 = a.paths.length) (h1 : 1 ≤ a.paths.length) (h8 : a.paths.length ≤ 8)
    (hp : ∀ i, i < a.paths.length → a.paths[i]? = some (byteAt body (3 + 2 * i), byteAt body (4 + 2 * i)) ∧
      byteAt body (3 + 2 * i) ≤ 15 ∧ byteAt body (4 + 2 * i) ≤ 7) :
    checkLockPaths body = .ok (.lock a none) := by
  have hpaths : pathsAt body 3 (byteAt body 2) = a.paths := by
    refine List.ext_getElem? fun i => ?_
    rw [hn]
    by_cases hi : i < a.paths.length
    · rw [getElem?_pathsAt body 3 hi, (hp i hi).1]
    · rw [List.getElem?_eq_none (by rw [length_pathsAt]; omega), List.getElem?_eq_none (by omega)]
  have hrange : a.paths.any (fun p => decide (15 < p.1) || decide (7 < p.2)) = false := by
    refine List.any_eq_false.mpr fun x hx => ?_
    obtain ⟨i, hi⟩ := List.mem_iff_getElem?.mp hx
    obtain ⟨heq, hc, hk⟩ := hp i (List.getElem?_eq_some_iff.mp hi).1
    rw [hi] at heq
    cases heq
    simp only [Bool.or_eq_true, decide_eq_true_eq]
    omega
  rw [checkLockPaths, if_neg (by omega)]
  dsimp only
  have hcount : ¬ (byteAt body 2 < 1 ∨ 8 < byteAt body 2 ∨ false = true) := by
    rintro (h | h | h)
    · omega
    · omega
    · cases h
  rw [hpaths, hrange, if_neg hcount, hu, hs]

/-- Settles O30: the checks field by field, and the queue with its head taken. -/
theorem tableRequestsJoinPortPath : Obligations.TableRequestsJoinPortPath := by
  unfold Obligations.TableRequestsJoinPortPath
  intro s p tag h refused joins
  have hno {i : Instr} {code : Byte} {body : List Byte} {check : Except Status TableWork}
      (hi : exec i s = receiveRequest code p tag body (serveTable code p tag check) s) (hc : check = .error .badValue) :
      refused i code := hi.trans ((receiveRequest_whole _ h.whole).trans (serveTable_error h hc))
  have hok {i : Instr} {code : Byte} {body : List Byte} {check : Except Status TableWork} {w : TableWork}
      (hi : exec i s = receiveRequest code p tag body (serveTable code p tag check) s) (hc : check = .ok w)
      (ht : HeadTaken s.tables.portPath) (hw : s.tables.portPath ≠ [] ∨ w.cell ≠ none) : joins i code w :=
    hi.trans ((receiveRequest_whole _ h.whole).trans (serveTable_joins h hc ht hw))
  refine ⟨fun body hl => ⟨fun hbad => hno rfl (checkWriteCell_badValue hl hbad), fun h0 h2 ht =>
      hok rfl (checkWriteCell_ok hl h0 h2) ht (.inr (Option.some_ne_none _))⟩,
    fun body hl => ⟨fun hbad => hno rfl (checkReadCell_badValue hl hbad), fun h0 ht =>
      hok rfl (checkReadCell_ok hl h0) ht (.inr (Option.some_ne_none _))⟩,
    fun body hl => ⟨fun hbad => hno rfl (checkReplaceCell_badValue hl hbad), fun scope h0 h2 h18 hs ht =>
      hok rfl (checkReplaceCell_ok hl h0 h2 h18 hs) ht (.inr (Option.some_ne_none _))⟩,
    fun body hl => ⟨fun hbad => hno rfl (checkInvalidateCell_badValue hl hbad), fun scope h0 hs ht =>
      hok rfl (checkInvalidateCell_ok hl h0 hs) ht (.inr (Option.some_ne_none _))⟩,
    fun body hl => ⟨fun hbad => hno rfl (checkProbePath_badValue hl hbad), fun a hs hc h15 ht hu hy hd hne =>
      hok rfl (checkProbePath_ok hl hs hc h15 ht hu hy) hd (.inl hne)⟩,
    fun body hl => ⟨fun hbad => hno rfl (checkLockPaths_badValue hl hbad), fun a hu hs hn h1 h8 hp hd hne =>
      hok rfl (checkLockPaths_ok hl hu hs hn h1 h8 hp) hd (.inl hne)⟩⟩

end Sys2Proof.Machine
end

section
/-!
PROOFS. PROBE PATH and LOCK PATHS as they reach the head of the port path (R51, R52, R59, R60, R75, R76); the statement
ProbeAndLockAreTakenAtHead.
-/

namespace Sys2Proof.Machine

variable {s t : State} {p : Port} {q : PathRequest} {rest : List PathRequest} {code tag : Byte} {body : List Byte}

/-! ## Walks begun -/

/-- A species walk faults before any access: the code is out of range, or its cell is (R52). -/
def EndsEarly (d : Descriptor) (code : Nat) : Prop := d.count ≤ code ∨ 2047 < d.origin + code

/-- The fault of a species walk that ends early (R52). -/
def earlyFault (d : Descriptor) (code : Nat) : RuleFault := if d.count ≤ code then .speciesRange else .address

theorem beginSpecies_early {d : Descriptor} {code : Nat} (h : EndsEarly d code) :
    beginSpecies (some d) code = .error (earlyFault d code) := by
  rw [beginSpecies, earlyFault]
  by_cases hc : d.count ≤ code
  · rw [if_pos (Nat.not_lt.mpr hc), if_pos hc]
  · rw [if_neg (not_not.mpr (Nat.not_le.mp hc)), if_neg hc, if_pos (Nat.not_le.mpr (h.resolve_left hc))]

theorem beginSpecies_ok {d : Descriptor} {code : Nat} (h : ¬ EndsEarly d code) :
    beginSpecies (some d) code = .ok (.species (d.origin + code)) := by
  obtain ⟨hc, ha⟩ := not_or.mp h
  rw [beginSpecies, if_neg (not_not.mpr (Nat.not_le.mp hc)), if_neg (not_not.mpr (Nat.not_lt.mp ha))]

theorem beginPath_address {content : Cell16} {k : Nat} (h : 2047 < content[2].toNat * 256 + content[3].toNat + k) :
    beginPath content k = .error .address := by
  rw [← thickOrigin_eq] at h
  rw [beginPath, if_pos (Nat.not_le.mpr h)]

theorem beginPath_ok {content : Cell16} {k : Nat} (h : content[2].toNat * 256 + content[3].toNat + k ≤ 2047) :
    beginPath content k = .ok (.thickness (content[2].toNat * 256 + content[3].toNat + k)) := by
  rw [← thickOrigin_eq] at h ⊢
  rw [beginPath, if_neg (not_not.mpr h)]

/-! ## Probes -/

section Probes

variable {x : RuleCache} {a : ProbeArgs} {d : Descriptor} {r : ProbeReport} {c : SpeciesCopy} {k : Nat}

theorem probeClass_error {f : RuleFault} (h : thicknessClass a.thickness c.content = .error f) :
    probeClass x a d r c = .done { r with fault := some f } := by rw [probeClass, h]

theorem probeClass_ok (h : thicknessClass a.thickness c.content = .ok k) :
    probeClass x a d r c = probePathLevel x a d { r with index := some k } c k := by rw [probeClass, h]

theorem probePathLevel_hit {path : PathCopy} (h : (if a.useCache then x.lookupPath d a.code c.content k else none) = some path) :
    probePathLevel x a d r c k =
      .done { r with pathSource := .cache, thickCell := some path.thickCell, limitOrigin := some path.lim1Cell } := by
  rw [probePathLevel, h]

theorem probePathLevel_address (h : (if a.useCache then x.lookupPath d a.code c.content k else none) = none)
    (ha : 2047 < c.content[2].toNat * 256 + c.content[3].toNat + k) :
    probePathLevel x a d r c k = .done { r with fault := some .address } := by
  rw [probePathLevel, h, beginPath_address ha]

theorem probePathLevel_walk (h : (if a.useCache then x.lookupPath d a.code c.content k else none) = none)
    (ha : c.content[2].toNat * 256 + c.content[3].toNat + k ≤ 2047) :
    probePathLevel x a d r c k = .wait
      { descriptor := d, report := r, walk := .thickness (c.content[2].toNat * 256 + c.content[3].toNat + k) } := by
  rw [probePathLevel, h, beginPath_ok ha]

theorem probeBegin_hit (h : (if a.useCache then x.lookupSpecies d a.code else none) = some c) :
    probeBegin x a (some d) = probeClass x a d { speciesSource := .cache, speciesCell := some c.cell } c := by
  rw [probeBegin, h]

theorem probeBegin_early (h : (if a.useCache then x.lookupSpecies d a.code else none) = none) (he : EndsEarly d a.code) :
    probeBegin x a (some d) = .done { fault := some (earlyFault d a.code) } := by
  rw [probeBegin, h, beginSpecies_early he]

theorem probeBegin_walk (h : (if a.useCache then x.lookupSpecies d a.code else none) = none) (he : ¬ EndsEarly d a.code) :
    probeBegin x a (some d) = .wait { descriptor := d, report := {}, walk := .species (d.origin + a.code) } := by
  rw [probeBegin, h, beginSpecies_ok he]

end Probes

/-! ## Locks -/

theorem lockOn_noRoot (rs : List LockResult) (paths : List (Nat × Nat)) :
    lockOn none rs paths = .done (rs ++ List.replicate paths.length (.fault .noRoot)) := by
  induction paths generalizing rs with
  | nil => simp [lockOn]
  | cons x xs ih =>
    obtain ⟨code, index⟩ := x
    rw [lockOn, beginSpecies]
    dsimp only
    rw [ih, List.append_assoc, List.length_cons, List.replicate_succ]
    rfl

/-- The result of a path whose species walk ends early. -/
def earlyResult (d : Descriptor) (x : Nat × Nat) : LockResult := .fault (earlyFault d x.1)

theorem lockOn_early {d : Descriptor} {before : List (Nat × Nat)} (h : ∀ x ∈ before, EndsEarly d x.1) (rs : List LockResult)
    (more : List (Nat × Nat)) :
    lockOn (some d) rs (before ++ more) = lockOn (some d) (rs ++ before.map (earlyResult d)) more := by
  induction before generalizing rs with
  | nil => simp
  | cons x xs ih =>
    obtain ⟨code, index⟩ := x
    have hx : EndsEarly d code := h _ List.mem_cons_self
    rw [List.cons_append, lockOn, beginSpecies_early hx]
    dsimp only
    rw [ih (fun y hy => h y (List.mem_cons_of_mem _ hy)), List.append_assoc]
    rfl

theorem lockOn_done {d : Descriptor} {paths : List (Nat × Nat)} (h : ∀ x ∈ paths, EndsEarly d x.1) (rs : List LockResult) :
    lockOn (some d) rs paths = .done (rs ++ paths.map (earlyResult d)) := by
  have := lockOn_early h rs []
  rwa [List.append_nil] at this

theorem lockOn_wait {d : Descriptor} {paths before more : List (Nat × Nat)} {code index : Nat}
    (hp : paths = before ++ (code, index) :: more) (h : ∀ x ∈ before, EndsEarly d x.1) (hc : ¬ EndsEarly d code) (rs : List LockResult) :
    lockOn (some d) rs paths = .wait
      { descriptor := d, results := rs ++ before.map (earlyResult d), code := code, index := index, rest := more,
        species := none, walk := .species (d.origin + code) } := by
  rw [hp, lockOn_early h, lockOn, beginSpecies_ok hc]
  rfl

/-! ## The head taken -/

theorem takeHead_probe_wait {a : ProbeArgs} {run : ProbeRun} (h : s.tables.portPath = q :: rest) (hw : q.work = .probe a none)
    (hb : probeBegin (s.cache a.unit) a (s.tables.roots.get a.slot) = .wait run) (n : Nat) :
    takeHead (n + 1) s = keepHead q rest (.probe a (some run)) s := by
  rw [takeHead, h]
  dsimp only
  rw [hw]
  dsimp only
  rw [hb]

theorem takeHead_probe_done {a : ProbeArgs} {r : ProbeReport} (h : s.tables.portPath = q :: rest) (hw : q.work = .probe a none)
    (hb : probeBegin (s.cache a.unit) a (s.tables.roots.get a.slot) = .done r) (n : Nat) :
    takeHead (n + 1) s = takeHead n (answerHead q rest .ok (probeBytes r) s) := by
  rw [takeHead, h]
  dsimp only
  rw [hw]
  dsimp only
  rw [hb]

theorem takeHead_lock_wait {a : LockArgs} {run : LockRun} (h : s.tables.portPath = q :: rest) (hw : q.work = .lock a none)
    (hb : lockOn (s.tables.roots.get a.slot) [] a.paths = .wait run) (n : Nat) :
    takeHead (n + 1) s = keepHead q rest (.lock a (some run)) (s.setCache a.unit ((s.cache a.unit).setMode .split)) := by
  rw [takeHead, h]
  dsimp only
  rw [hw]
  dsimp only
  rw [hb]

theorem takeHead_lock_done {a : LockArgs} {rs : List LockResult} (h : s.tables.portPath = q :: rest)
    (hw : q.work = .lock a none) (hb : lockOn (s.tables.roots.get a.slot) [] a.paths = .done rs) (n : Nat) :
    takeHead (n + 1) s =
      takeHead n (answerHead q rest .ok (lockBytes rs) (s.setCache a.unit ((s.cache a.unit).setMode .split))) := by
  rw [takeHead, h]
  dsimp only
  rw [hw]
  dsimp only
  rw [hb]

/-! ## On an empty queue -/

theorem State.setTables_portPath_self (h : s.tables.portPath = []) : s.setTables { s.tables with portPath := [] } = s := by
  rw [← h]
  rfl

/-- A request that joins an empty queue and is answered at once has changed nothing else. -/
theorem answerHead_queued (h : s.tables.portPath = []) (hp : (s.port q.port).pending = none) (st : Status) (body : List Byte) :
    answerHead q [] st body (s.queued q) = s.answered q.port q.code q.tag st body := by
  have hport : { s.port q.port with receiver := .hunting, pending := none } = { s.port q.port with receiver := .hunting } := by
    rw [← hp]
  have hstate : (s.setTables { s.tables with portPath := [] }).setPort q.port
      { s.port q.port with receiver := .hunting, pending := none } = s.hunt q.port := by
    rw [State.setTables_portPath_self h, hport]
    rfl
  rw [State.answered, ← hstate]
  obtain ⟨port, code, tag, work⟩ := q
  cases port <;> rfl

theorem keepHead_queued (h : s.tables.portPath = []) (w : TableWork) :
    keepHead q [] w (s.queued q) = s.queued { q with work := w } := by
  unfold State.queued
  rw [h]
  rfl

theorem queued_setCache (s : State) (q : PathRequest) (u : Lane) (x : RuleCache) :
    (s.queued q).setCache u x = (s.setCache u x).queued q := rfl

theorem exec_joins {i : Instr} {check : Except Status TableWork} {w : TableWork} (h : Ready s p)
    (he : s.tables.portPath = []) (hi : exec i s = receiveRequest code p tag body (serveTable code p tag check) s)
    (hc : check = .ok w) :
    exec i s = .next (takeHead 1 (s.queued { port := p, code := code, tag := tag, work := w })) := by
  rw [hi, receiveRequest_whole _ h.whole, serveTable_ok h hc]
  refine congrArg Host.Outcome.next ((joinPath_hunt { port := p, code := code, tag := tag, work := w } s).trans ?_)
  rw [he]
  rfl

theorem lockBytes_noRoot (n : Nat) : lockBytes (List.replicate n (.fault .noRoot)) = b8 n :: List.replicate n 0x01 := by
  rw [lockBytes, List.length_replicate, List.map_replicate]
  rfl

/-- Settles O31: by what the begin of a probe or a lock comes to, on a queue that was empty and on one that was not. -/
theorem probeAndLockAreTakenAtHead : Obligations.ProbeAndLockAreTakenAtHead := by
  unfold Obligations.ProbeAndLockAreTakenAtHead
  refine ⟨fun s p tag h he => ⟨fun body a hc => ?_, fun body a hc => ?_⟩, fun s h n => takeHead_nil h n,
    fun s q rest hq => ⟨fun hw n => takeHead_taken hq hw n, fun n => ?_⟩⟩
  · intro run root
    have hrun : run = _ := exec_joins h he rfl hc
    have hpath : (s.queued { port := p, code := Code.probePath, tag := tag, work := .probe a none }).tables.portPath =
        { port := p, code := Code.probePath, tag := tag, work := .probe a none } :: [] := by rw [queued_portPath, he]; rfl
    have hdone {r : ProbeReport} (hb : probeBegin (s.cache a.unit) a root = .done r) :
        run = .next (s.answered p Code.probePath tag .ok (probeBytes r)) := by
      rw [hrun, takeHead_probe_done hpath rfl hb]
      exact congrArg Host.Outcome.next (answerHead_queued he h.2 _ _)
    refine ⟨fun hr => hdone ?_, fun d hr hmiss => ?_, fun d c k path hr hu hs hk hp => hdone ?_⟩
    · rw [hr]
      rfl
    · have hlook : (if a.useCache then (s.cache a.unit).lookupSpecies d a.code else none) = none := by
        rcases hmiss with hu | hm
        · rw [hu]
          rfl
        · rw [hm, ite_self]
      refine ⟨fun hc => hdone ?_, fun hc ha => hdone ?_, fun hc ha => ?_⟩
      · rw [hr, probeBegin_early hlook (.inl hc), earlyFault, if_pos hc]
      · rw [hr, probeBegin_early hlook (.inr ha), earlyFault, if_neg (Nat.not_le.mpr hc)]
      · have hb : probeBegin (s.cache a.unit) a root = _ := hr ▸ probeBegin_walk hlook (by unfold EndsEarly; omega)
        rw [hrun, takeHead_probe_wait hpath rfl hb]
        exact congrArg Host.Outcome.next (keepHead_queued he _)
    · rw [hr, probeBegin_hit (by rw [hu]; exact hs), probeClass_ok hk, probePathLevel_hit (by rw [hu]; exact hp)]
  · intro run root t
    have hrun : run = _ := exec_joins h he rfl hc
    have hpath : (s.queued { port := p, code := Code.lockPaths, tag := tag, work := .lock a none }).tables.portPath =
        { port := p, code := Code.lockPaths, tag := tag, work := .lock a none } :: [] := by rw [queued_portPath, he]; rfl
    refine ⟨fun hr => ?_, fun d code index more hr hp hc ha => ?_⟩
    · have hb : lockOn root [] a.paths = _ := hr ▸ lockOn_noRoot [] a.paths
      rw [hrun, takeHead_lock_done hpath rfl hb, queued_setCache]
      refine congrArg Host.Outcome.next ((answerHead_queued (s := t)
        (q := { port := p, code := Code.lockPaths, tag := tag, work := .lock a none }) he h.2 _ _).trans ?_)
      rw [List.nil_append, lockBytes_noRoot]
    · have hb : lockOn root [] a.paths = _ :=
        hr ▸ lockOn_wait (before := []) hp (fun _ h => absurd h List.not_mem_nil) (by unfold EndsEarly; omega) []
      rw [hrun, takeHead_lock_wait hpath rfl hb, queued_setCache]
      exact congrArg Host.Outcome.next (keepHead_queued (s := t)
        (q := { port := p, code := Code.lockPaths, tag := tag, work := .lock a none }) he _)
  · intro run stays leaves
    refine ⟨fun a hw => ?_, fun a hw => ?_⟩
    · intro reports root
      have hdone {r : ProbeReport} (hb : probeBegin (s.cache a.unit) a root = .done r) : reports r :=
        takeHead_probe_done hq hw hb n
      refine ⟨fun hr => hdone (by rw [hr]; rfl), fun d hr => ?_⟩
      intro waits hit
      have hwait {r : ProbeReport} {w : Walk}
          (hb : probeBegin (s.cache a.unit) a root = .wait { descriptor := d, report := r, walk := w }) : waits r w :=
        takeHead_probe_wait hq hw hb n
      rw [hr] at hdone hwait
      refine ⟨fun hm hc => hdone ?_, fun hm hc ha => hdone ?_, fun hm hc ha => hwait ?_, fun c hc => ?_⟩
      · rw [probeBegin_early hm (.inl hc), earlyFault, if_pos hc]
      · rw [probeBegin_early hm (.inr ha), earlyFault, if_neg (Nat.not_le.mpr hc)]
      · exact probeBegin_walk hm (by unfold EndsEarly; omega)
      · intro found limit
        refine ⟨fun f hf => hdone ?_, fun k hk => ?_⟩
        · rw [probeBegin_hit hc, probeClass_error hf]
        · intro path
          have huse : a.useCache = true := by
            by_contra hu
            rw [show hit = none from if_neg hu] at hc
            cases hc
          have hpath : (if a.useCache then (s.cache a.unit).lookupPath d a.code c.content k else none) = path := if_pos huse
          refine ⟨fun x hx => hdone ?_, fun hm ha => hdone ?_, fun hm ha => hwait ?_⟩
          · rw [probeBegin_hit hc, probeClass_ok hk, probePathLevel_hit (hpath.trans hx)]
          · rw [probeBegin_hit hc, probeClass_ok hk, probePathLevel_address (hpath.trans hm) ha]
          · rw [probeBegin_hit hc, probeClass_ok hk, probePathLevel_walk (hpath.trans hm) ha]
    · intro t root
      refine ⟨fun hr => ?_, fun d hr => ?_⟩
      · have hb : lockOn root [] a.paths = _ := hr ▸ lockOn_noRoot [] a.paths
        refine (takeHead_lock_done hq hw hb n).trans ?_
        rw [List.nil_append, lockBytes_noRoot]
        rfl
      · intro fault early
        refine ⟨fun hall => ?_, fun before code index more hp hall hc => ?_⟩
        · have hb : lockOn root [] a.paths = _ := hr ▸ lockOn_done hall []
          refine (takeHead_lock_done hq hw hb n).trans ?_
          rw [List.nil_append, lockBytes, List.length_map, List.map_map]
          rfl
        · have hb : lockOn root [] a.paths = _ := hr ▸ lockOn_wait hp hall hc []
          exact takeHead_lock_wait hq hw hb n

end Sys2Proof.Machine
end

section
/-!
PROOFS. The accesses of the port path (R50 to R60, R75 to R80): the access of each kind of head request, and the reads of
PROBE PATH and LOCK PATHS; the statements PortAccessServesHead and ProbeAndLockWalksGoOn.
-/

namespace Sys2Proof.Machine

variable {s t : State} {q : PathRequest} {rest : List PathRequest} {x : Cell16}

/-! ## Walks that fault -/

theorem feed_species_format {n : Nat} (h : x[0] ≠ 1) : (Walk.species n).feed x = .fault .format := by
  rw [Walk.feed, if_pos (mt (isSpecies_iff x).mp h)]

theorem feed_species_invalid {n : Nat} (h0 : x[0] = 1) (h1 : x[1].getLsbD 0 = false) :
    (Walk.species n).feed x = .fault .speciesInvalid := by
  have hv : x.valid = false := h1
  rw [Walk.feed, if_neg (not_not.mpr ((isSpecies_iff x).mpr h0)), if_pos (by simp [hv])]

theorem feed_thickness_format {n : Nat} (h : x[0] ≠ 2) : (Walk.thickness n).feed x = .fault .format := by
  rw [Walk.feed, if_pos (mt (isThickness_iff x).mp h)]

theorem feed_thickness_invalid {n : Nat} (h0 : x[0] = 2) (h1 : x[1].getLsbD 0 = false) :
    (Walk.thickness n).feed x = .fault .thicknessInvalid := by
  have hv : x.valid = false := h1
  rw [Walk.feed, if_neg (not_not.mpr ((isThickness_iff x).mpr h0)), if_pos (by simp [hv])]

theorem feed_thickness_address {n : Nat} (h0 : x[0] = 2) (h1 : x[1].getLsbD 0 = true)
    (hl : 2047 < x[2].toNat * 256 + x[3].toNat + 1) : (Walk.thickness n).feed x = .fault .address := by
  rw [← limitOrigin_eq] at hl
  rw [Walk.feed, if_neg (not_not.mpr ((isThickness_iff x).mpr h0)), if_neg (not_not.mpr (show x.valid = true from h1)),
    if_pos (Nat.not_le.mpr hl)]

theorem feed_limits1_format {n n' : Nat} {c : Cell16} (h : x[0] ≠ 3) : (Walk.limits1 n c n').feed x = .fault .format := by
  rw [Walk.feed, if_pos (mt (isLimits1_iff x).mp h)]

theorem feed_limits2_format {n n' n'' : Nat} {c c' : Cell16} (h : x[0] ≠ 4) :
    (Walk.limits2 n c n' c' n'').feed x = .fault .format := by
  rw [Walk.feed, if_pos (mt (isLimits2_iff x).mp h)]

/-! ## The grant of the port path -/

theorem exec_portAccessGrant {n : Nat} (h : s.pins.resetHeld = false) (ha : arbiterNext s = some .port)
    (hq : s.tables.portPath = q :: rest) (hn : q.work.cell = some n) (hin : n < 2048) :
    exec .portAccessGrant s = .next (pathAccess q rest (s.tables.mem.cell n) (s.granted .port)) := by
  change execPortAccessGrant s = _
  rw [execPortAccessGrant, if_neg (by simp [h, ha]), hq]
  dsimp only
  rw [hn]
  simp [accessCell, hin]

theorem leaveHead_headTaken (h : HeadTaken rest) (st : Status) (body : List Byte) (s : State) :
    leaveHead q rest st body s = answerHead q rest st body s := takeHead_headTaken h _

section Access

theorem pathAccess_write {n : Nat} {y : Cell16} (h : q.work = .write n y) (s : State) :
    pathAccess q rest x s = leaveHead q rest .ok [] (s.writeCell n y) := by rw [pathAccess, h]

theorem pathAccess_read {n : Nat} (h : q.work = .read n) (s : State) :
    pathAccess q rest x s = leaveHead q rest .ok x.toList s := by rw [pathAccess, h]

theorem pathAccess_replace {n : Nat} {expected new : Cell16} {scope : Scope} (h : q.work = .replace n expected new scope)
    (s : State) : pathAccess q rest x s = if x = expected then leaveHead q rest .ok [] (s.editCell n new scope)
      else leaveHead q rest .mismatch x.toList s := by rw [pathAccess, h]

theorem pathAccess_invalidate {n : Nat} {scope : Scope} (h : q.work = .invalidate n scope) (s : State) :
    pathAccess q rest x s =
      if x.isSpecies || x.isThickness then leaveHead q rest .ok [bBool x.valid] (s.editCell n x.invalidated scope)
      else leaveHead q rest .wrongLevel [] s := by rw [pathAccess, h]

theorem pathAccess_probe_wait {a : ProbeArgs} {run run' : ProbeRun} (h : q.work = .probe a (some run)) {s : State}
    (hf : probeFeed (s.cache a.unit) a run x = .wait run') :
    pathAccess q rest x s = keepHead q rest (.probe a (some run')) s := by
  rw [pathAccess, h]
  dsimp only
  rw [hf]

theorem pathAccess_probe_done {a : ProbeArgs} {run : ProbeRun} {r : ProbeReport} (h : q.work = .probe a (some run)) {s : State}
    (hf : probeFeed (s.cache a.unit) a run x = .done r) :
    pathAccess q rest x s = leaveHead q rest .ok (probeBytes r) s := by
  rw [pathAccess, h]
  dsimp only
  rw [hf]

theorem pathAccess_lock_wait {a : LockArgs} {run run' : LockRun} {c : RuleCache} (h : q.work = .lock a (some run)) {s : State}
    (hf : lockFeed (s.cache a.unit) run x = (c, .wait run')) :
    pathAccess q rest x s = keepHead q rest (.lock a (some run')) (s.setCache a.unit c) := by
  rw [pathAccess, h]
  dsimp only
  rw [hf]

theorem pathAccess_lock_done {a : LockArgs} {run : LockRun} {c : RuleCache} {rs : List LockResult}
    (h : q.work = .lock a (some run)) {s : State} (hf : lockFeed (s.cache a.unit) run x = (c, .done rs)) :
    pathAccess q rest x s = leaveHead q rest .ok (lockBytes rs) (s.setCache a.unit c) := by
  rw [pathAccess, h]
  dsimp only
  rw [hf]

end Access

/-! ## The feeds -/

theorem probeFeed_fault {y : RuleCache} {a : ProbeArgs} {run : ProbeRun} {f : RuleFault} (h : run.walk.feed x = .fault f) :
    probeFeed y a run x = .done { run.report.reading run.walk with fault := some f } := by rw [probeFeed, h]

theorem probeFeed_more {y : RuleCache} {a : ProbeArgs} {run : ProbeRun} {w : Walk} (h : run.walk.feed x = .more w) :
    probeFeed y a run x = .wait { run with report := run.report.reading run.walk, walk := w } := by rw [probeFeed, h]

theorem probeFeed_species {y : RuleCache} {a : ProbeArgs} {run : ProbeRun} {c : SpeciesCopy} (h : run.walk.feed x = .species c) :
    probeFeed y a run x =
      probeClass y a run.descriptor { run.report.reading run.walk with speciesSource := .walk } c := by rw [probeFeed, h]

theorem probeFeed_path {y : RuleCache} {a : ProbeArgs} {run : ProbeRun} {c : PathCopy} (h : run.walk.feed x = .path c) :
    probeFeed y a run x = .done { run.report.reading run.walk with pathSource := .walk } := by rw [probeFeed, h]

theorem lockFeed_fault {y : RuleCache} {run : LockRun} {f : RuleFault} (h : run.walk.feed x = .fault f) :
    lockFeed y run x = (y, run.ends (.fault f)) := by rw [lockFeed, h]

theorem lockFeed_more {y : RuleCache} {run : LockRun} {w : Walk} (h : run.walk.feed x = .more w) :
    lockFeed y run x = (y, .wait { run with walk := w }) := by rw [lockFeed, h]

theorem lockFeed_species {y : RuleCache} {run : LockRun} {c : SpeciesCopy} (h : run.walk.feed x = .species c) :
    lockFeed y run x = (y.lockEntry (speciesBody run.descriptor run.code c), run.beginPathLevel c) := by rw [lockFeed, h]

theorem lockFeed_path {y : RuleCache} {run : LockRun} {p : PathCopy} {c : SpeciesCopy} (h : run.walk.feed x = .path p)
    (hc : run.species = some c) :
    lockFeed y run x = (y.lockEntry (pathBody c.content run.index p), run.ends (lockResult
      (y.lockEntry (pathBody c.content run.index p)) (speciesBody run.descriptor run.code c).tag
        (pathBody c.content run.index p).tag)) := by
  rw [lockFeed, h]
  dsimp only
  rw [hc]

theorem beginPathLevel_format {run : LockRun} {c : SpeciesCopy} (h : classesExist c.content = false) :
    run.beginPathLevel c = run.ends (.fault .format) := by simp [LockRun.beginPathLevel, h]

theorem beginPathLevel_range {run : LockRun} {c : SpeciesCopy} (h : classesExist c.content = true)
    (hk : c.content.classCount ≤ run.index) : run.beginPathLevel c = run.ends (.fault .thicknessRange) := by
  simp [LockRun.beginPathLevel, h, Nat.not_lt.mpr hk]

theorem beginPathLevel_address {run : LockRun} {c : SpeciesCopy} (h : classesExist c.content = true)
    (hk : run.index < c.content.classCount)
    (ha : 2047 < c.content[2].toNat * 256 + c.content[3].toNat + run.index) :
    run.beginPathLevel c = run.ends (.fault .address) := by
  rw [LockRun.beginPathLevel, if_neg (not_not.mpr h), if_neg (not_not.mpr hk), beginPath_address ha]

theorem beginPathLevel_walk {run : LockRun} {c : SpeciesCopy} (h : classesExist c.content = true)
    (hk : run.index < c.content.classCount)
    (ha : c.content[2].toNat * 256 + c.content[3].toNat + run.index ≤ 2047) :
    run.beginPathLevel c = .wait { run with
      species := some c, walk := .thickness (c.content[2].toNat * 256 + c.content[3].toNat + run.index) } := by
  rw [LockRun.beginPathLevel, if_neg (not_not.mpr h), if_neg (not_not.mpr hk), beginPath_ok ha]

theorem ends_done {run : LockRun} (h : ∀ y ∈ run.rest, EndsEarly run.descriptor y.1) (z : LockResult) :
    run.ends z = .done (run.results ++ z :: run.rest.map (earlyResult run.descriptor)) := by
  rw [LockRun.ends, lockOn_done h, List.append_assoc]
  rfl

theorem ends_wait {run : LockRun} {before more : List (Nat × Nat)} {code index : Nat}
    (hp : run.rest = before ++ (code, index) :: more) (h : ∀ y ∈ before, EndsEarly run.descriptor y.1)
    (hc : ¬ EndsEarly run.descriptor code) (z : LockResult) :
    run.ends z = .wait
      { descriptor := run.descriptor, results := run.results ++ z :: before.map (earlyResult run.descriptor), code := code,
        index := index, rest := more, species := none, walk := .species (run.descriptor.origin + code) } := by
  rw [LockRun.ends, lockOn_wait hp h hc, List.append_assoc]
  rfl

theorem classesExist_iff_bytes (y : Cell16) :
    classesExist y = true ↔ 1 ≤ y[4].toNat ∧ y[4].toNat ≤ 8 ∧ (y[7] ≠ 0 ∨ y[8] ≠ 0) := by
  have hw : y.classStep = y[7].toNat * 256 + y[8].toNat := y.word_eq 7 (by omega)
  have h7 : y[7] ≠ 0 ↔ y[7].toNat ≠ 0 := not_congr BitVec.toNat_inj.symm
  have h8 : y[8] ≠ 0 ↔ y[8].toNat ≠ 0 := not_congr BitVec.toNat_inj.symm
  rw [classesExist_iff, hw, h7, h8]
  have hcount : y.classCount = y[4].toNat := rfl
  omega

theorem State.setCache_self (s : State) (u : Lane) : s.setCache u (s.cache u) = s := by cases u <;> rfl

/-- Settles O32: by the work of the head request. -/
theorem portAccessServesHead : Obligations.PortAccessServesHead := by
  unfold Obligations.PortAccessServesHead
  refine fun s h => ⟨fun hn => if_pos (.inr hn), fun q rest n ha hq hin => ?_⟩
  intro x base free ends t edited
  have hends {u v : State} {st : Status} {body : List Byte} (hn : q.work.cell = some n)
      (hv : pathAccess q rest x (s.granted .port) = leaveHead q rest st body v)
      (hu : answerHead q rest st body v = (free u).answer q.port q.code q.tag st body) : ends u st body := by
    have hrun := exec_portAccessGrant h ha hq hn hin
    refine ⟨?_, fun ht => ?_⟩
    · rw [hrun, hv, leaveHead, hu]
    · rw [hrun, hv, leaveHead_headTaken ht, hu]
  clear_value x
  refine ⟨fun y hw => hends (by rw [hw]; rfl) (pathAccess_write hw _) rfl,
    fun hw => hends (by rw [hw]; rfl) (pathAccess_read hw _) rfl, fun new scope hw => ?_, fun expected new scope hw hne => ?_,
    fun scope hw => ⟨fun hx => ?_, fun h1 h2 => ?_⟩, fun a run n' y n'' y' hw hwalk => ?_, fun a run hw hwalk hrest h1 => ?_⟩
  · exact hends (by rw [hw]; rfl) ((pathAccess_replace hw _).trans (if_pos rfl)) rfl
  · exact hends (by rw [hw]; rfl) ((pathAccess_replace hw _).trans (if_neg (Ne.symm hne))) rfl
  · have hlevel : (x.isSpecies || x.isThickness) = true := by
      rw [Bool.or_eq_true, isSpecies_iff, isThickness_iff]
      exact hx
    exact hends (by rw [hw]; rfl) ((pathAccess_invalidate hw _).trans (if_pos hlevel)) rfl
  · have hlevel : ¬ (x.isSpecies || x.isThickness) = true := by
      rw [Bool.or_eq_true, isSpecies_iff, isThickness_iff]
      exact not_or.mpr ⟨h1, h2⟩
    exact hends (by rw [hw]; rfl) ((pathAccess_invalidate hw _).trans (if_neg hlevel)) rfl
  · intro read
    have hn : q.work.cell = some n := by rw [hw]; exact congrArg (fun w : Walk => some w.next) hwalk
    have hread : run.report.reading run.walk = read := by rw [hwalk]; rfl
    refine ⟨fun h4 => hends hn (pathAccess_probe_done hw ?_) rfl, fun h4 => hends hn (pathAccess_probe_done hw ?_) rfl⟩
    · rw [probeFeed_path (hwalk ▸ feed_limits2 h4), hread]
    · rw [probeFeed_fault (hwalk ▸ feed_limits2_format h4), hread]
  · have hn : q.work.cell = some n := by rw [hw]; exact congrArg (fun w : Walk => some w.next) hwalk
    have hdone := ends_done (run := run) (by rw [hrest]; exact fun _ h => absurd h List.not_mem_nil) (.fault .format)
    rw [hrest] at hdone
    have hfeed : lockFeed ((s.granted .port).cache a.unit) run x = ((s.granted .port).cache a.unit, _) :=
      (lockFeed_fault (hwalk ▸ feed_species_format h1)).trans (congrArg _ hdone)
    have haccess := pathAccess_lock_done (rest := rest) hw hfeed
    have hbytes : lockBytes (run.results ++ [.fault .format]) =
        b8 (run.results.length + 1) :: run.results.map (fun r => b8 r.code) ++ [0x04] := by
      rw [lockBytes, List.length_append, List.map_append, List.cons_append]
      rfl
    rw [State.setCache_self, List.map_nil, hbytes] at haccess
    exact hends hn haccess rfl

/-! ## The reads of probes and locks -/

/-- A request at the head whose access leaves it there, or ends it. -/
theorem access_goes {n : Nat} {v : State} {w : TableWork} (h : s.pins.resetHeld = false) (ha : arbiterNext s = some .port)
    (hq : s.tables.portPath = q :: rest) (hn : q.work.cell = some n) (hin : n < 2048)
    (hv : pathAccess q rest (s.tables.mem.cell n) (s.granted .port) = keepHead q rest w (v.granted .port))
    (hvt : v.tables = s.tables) :
    exec .portAccessGrant s = .next
      (v.setTables { s.tables with lastGrant := .port, portPath := { q with work := w } :: rest }) := by
  rw [exec_portAccessGrant h ha hq hn hin, hv, ← hvt]
  rfl

theorem access_ends {n : Nat} {v : State} {body : List Byte} (h : s.pins.resetHeld = false)
    (ha : arbiterNext s = some .port) (hq : s.tables.portPath = q :: rest) (hn : q.work.cell = some n) (hin : n < 2048)
    (hv : pathAccess q rest (s.tables.mem.cell n) (s.granted .port) = leaveHead q rest .ok body (v.granted .port))
    (hvt : v.tables = s.tables) :
    let u := v.setTables { s.tables with lastGrant := .port, portPath := rest }
    let left := (u.setPort q.port { u.port q.port with pending := none }).answer q.port q.code q.tag .ok body
    exec .portAccessGrant s = .next (takeHead rest.length left) ∧ (HeadTaken rest → exec .portAccessGrant s = .next left) := by
  rw [exec_portAccessGrant h ha hq hn hin, hv, ← hvt]
  exact ⟨rfl, fun ht => congrArg Host.Outcome.next (leaveHead_headTaken ht _ _ _)⟩

/-- Settles O33: by where the walk of the head request stands and what its read makes of it. -/
theorem probeAndLockWalksGoOn : Obligations.ProbeAndLockWalksGoOn := by
  unfold Obligations.ProbeAndLockWalksGoOn
  intro s q rest n h ha hq hin x run limit goes ends step
  have hgoes {v : State} {w : TableWork} (hn : q.work.cell = some n) (hvt : v.tables = s.tables)
      (hv : pathAccess q rest x (s.granted .port) = keepHead q rest w (v.granted .port)) : goes v w :=
    access_goes h ha hq hn hin hv hvt
  have hends {v : State} {body : List Byte} (hn : q.work.cell = some n) (hvt : v.tables = s.tables)
      (hv : pathAccess q rest x (s.granted .port) = leaveHead q rest .ok body (v.granted .port)) : ends v body :=
    access_ends h ha hq hn hin hv hvt
  clear_value x run
  refine ⟨fun a r hw hstep => ?_, fun a r hw hstep => ?_⟩
  · intro d reports waits read
    have hreports {p : ProbeReport} (hn : r.walk.next = n) (hf : probeFeed (s.cache a.unit) a r x = .done p) : reports p :=
      hends (by rw [hw]; exact congrArg some hn) rfl (pathAccess_probe_done hw hf)
    have hwaits {p : ProbeReport} {w : Walk} (hn : r.walk.next = n)
        (hf : probeFeed (s.cache a.unit) a r x = .wait { descriptor := d, report := p, walk := w }) : waits p w :=
      hgoes (by rw [hw]; exact congrArg some hn) rfl (pathAccess_probe_wait hw hf)
    refine ⟨fun hwalk => ?_, fun hwalk => ?_, fun m y hwalk => ?_⟩
    · intro found walked hit
      have hn : r.walk.next = n := by rw [hwalk]; rfl
      have hread : r.report.reading r.walk = found := by rw [hwalk]; rfl
      refine ⟨fun h0 => hreports hn ?_, fun h0 h1 => hreports hn ?_, fun h0 h1 => ?_⟩
      · rw [probeFeed_fault (hwalk ▸ feed_species_format h0), hread]
      · rw [probeFeed_fault (hwalk ▸ feed_species_invalid h0 h1), hread]
      · have hfeed : probeFeed (s.cache a.unit) a r x =
            probeClass (s.cache a.unit) a d walked { cell := n, content := x } := by
          rw [probeFeed_species (hwalk ▸ feed_species h0 h1), hread]
        refine ⟨fun f hf => hreports hn ?_, fun k hk => ⟨fun p hp => hreports hn ?_, fun hm hadr => hreports hn ?_,
          fun hm hadr => hwaits hn ?_⟩⟩
        · rw [hfeed, probeClass_error (c := { cell := n, content := x }) hf]
        · rw [hfeed, probeClass_ok (c := { cell := n, content := x }) hk,
            probePathLevel_hit (c := { cell := n, content := x }) hp]
        · rw [hfeed, probeClass_ok (c := { cell := n, content := x }) hk,
            probePathLevel_address (c := { cell := n, content := x }) hm hadr]
        · rw [hfeed, probeClass_ok (c := { cell := n, content := x }) hk,
            probePathLevel_walk (c := { cell := n, content := x }) hm hadr]
    · intro found
      have hn : r.walk.next = n := by rw [hwalk]; rfl
      have hread : r.report.reading r.walk = found := by rw [hwalk]; rfl
      refine ⟨fun h0 => hreports hn ?_, fun h0 h1 => hreports hn ?_, fun h0 h1 hl => hreports hn ?_,
        fun h0 h1 hl => hwaits hn ?_⟩
      · rw [probeFeed_fault (hwalk ▸ feed_thickness_format h0), hread]
      · rw [probeFeed_fault (hwalk ▸ feed_thickness_invalid h0 h1), hread]
      · rw [probeFeed_fault (hwalk ▸ feed_thickness_address h0 h1 hl), hread]
      · rw [probeFeed_more (hwalk ▸ feed_thickness h0 h1 hl), hread]
    · intro found
      have hn : r.walk.next = n := by rw [hwalk]; rfl
      have hread : r.report.reading r.walk = found := by rw [hwalk]; rfl
      refine ⟨fun h0 => hreports hn ?_, fun h0 => hwaits hn ?_⟩
      · rw [probeFeed_fault (hwalk ▸ feed_limits1_format h0), hread]
      · rw [probeFeed_more (hwalk ▸ feed_limits1 h0), hread]
  · intro cache results result waits
    have hresult {y : RuleCache} {z : LockResult} (hn : r.walk.next = n) (hf : lockFeed cache r x = (y, r.ends z)) :
        result (s.setCache a.unit y) z := by
      refine ⟨fun hall => ?_, fun before code index more hp hall hc => ?_⟩
      · rw [ends_done hall] at hf
        exact hends (by rw [hw]; exact congrArg some hn) rfl (pathAccess_lock_done hw hf)
      · rw [ends_wait hp hall hc] at hf
        exact hgoes (by rw [hw]; exact congrArg some hn) rfl (pathAccess_lock_wait hw hf)
    have hfault {f : RuleFault} (hn : r.walk.next = n) (hf : r.walk.feed x = .fault f) : result s (.fault f) := by
      have := hresult hn (lockFeed_fault (y := cache) hf)
      rwa [State.setCache_self] at this
    have hwaits {y : RuleCache} {c : Option SpeciesCopy} {w : Walk} (hn : r.walk.next = n)
        (hf : lockFeed cache r x = (y, .wait { r with species := c, walk := w })) : waits (s.setCache a.unit y) c w :=
      hgoes (by rw [hw]; exact congrArg some hn) rfl (pathAccess_lock_wait hw hf)
    have hmore {w : Walk} (hn : r.walk.next = n) (hf : r.walk.feed x = .more w) : waits s r.species w := by
      have := hwaits (c := r.species) hn (lockFeed_more (y := cache) hf)
      rwa [State.setCache_self] at this
    refine ⟨fun hwalk => ?_, fun hwalk => ?_, fun m y hwalk => ?_, fun m y m' y' hwalk => ?_⟩
    · intro copy owner y count exists_
      have hn : r.walk.next = n := by rw [hwalk]; rfl
      have hexists : classesExist x = true ↔ exists_ := classesExist_iff_bytes x
      refine ⟨fun h0 => hfault hn (hwalk ▸ feed_species_format h0), fun h0 h1 => hfault hn (hwalk ▸ feed_species_invalid h0 h1),
        fun h0 h1 => ?_⟩
      have hfeed : lockFeed cache r x = (cache.lockEntry (.species owner r.code copy), r.beginPathLevel copy) := by
        have hf : r.walk.feed x = .species copy := hwalk ▸ feed_species h0 h1
        have hbody : speciesBody r.descriptor r.code copy = .species owner r.code copy := rfl
        rw [lockFeed_species hf, hbody]
      refine ⟨fun he => hresult hn ?_, fun he hk => hresult hn ?_, fun he hk hadr => hresult hn ?_,
        fun he hk hadr => hwaits hn ?_⟩
      · rw [hfeed, beginPathLevel_format (c := copy) (Bool.eq_false_iff.mpr (mt hexists.mp he))]
      · rw [hfeed, beginPathLevel_range (c := copy) (hexists.mpr he) hk]
      · rw [hfeed, beginPathLevel_address (c := copy) (hexists.mpr he) hk hadr]
      · rw [hfeed, beginPathLevel_walk (c := copy) (hexists.mpr he) hk hadr]
    · have hn : r.walk.next = n := by rw [hwalk]; rfl
      exact ⟨fun h0 => hfault hn (hwalk ▸ feed_thickness_format h0),
        fun h0 h1 => hfault hn (hwalk ▸ feed_thickness_invalid h0 h1),
        fun h0 h1 hl => hfault hn (hwalk ▸ feed_thickness_address h0 h1 hl),
        fun h0 h1 hl => hmore hn (hwalk ▸ feed_thickness h0 h1 hl)⟩
    · have hn : r.walk.next = n := by rw [hwalk]; rfl
      exact ⟨fun h0 => hfault hn (hwalk ▸ feed_limits1_format h0), fun h0 => hmore hn (hwalk ▸ feed_limits1 h0)⟩
    · have hn : r.walk.next = n := by rw [hwalk]; rfl
      refine ⟨fun h0 => hfault hn (hwalk ▸ feed_limits2_format h0), fun c h0 hc => ?_⟩
      intro owner species path after stands
      have hbody : pathBody c.content r.index
          { thickCell := m, lim1Cell := m', lim2Cell := n, thick := y, lim1 := y', lim2 := x } = path := by
        rw [pathBody, thickOrigin_eq]
      have hf : r.walk.feed x = .path
          { thickCell := m, lim1Cell := m', lim2Cell := n, thick := y, lim1 := y', lim2 := x } := hwalk ▸ feed_limits2 h0
      have hfeed := lockFeed_path (y := cache) hf hc
      rw [hbody] at hfeed
      have hstands (b : CacheBody) : after.hasLocked b.tag = true ↔ stands b := RuleCache.hasLocked_iff
      have hlocked : (after.mode = .split ∧ after.hasLocked species.tag = true ∧ after.hasLocked path.tag = true) ↔
          (after.mode = .split ∧ stands species ∧ stands path) := by rw [hstands, hstands]
      refine ⟨fun hl => hresult hn (hfeed.trans ?_), fun hl => hresult hn (hfeed.trans ?_)⟩
      · exact congrArg (fun z => (after, r.ends z)) (if_pos (hlocked.mpr hl))
      · exact congrArg (fun z => (after, r.ends z)) (if_neg (mt hlocked.mp hl))

end Sys2Proof.Machine
end

section
/-!
PROOFS. Events at the stacks, step by step: what a state set, a DRAIN close, a grant check and the selections at the end make
of the stack and of the lines, and that none of it happens where nobody waits and nobody is starved.
-/

namespace Sys2Proof.Machine

variable {s t : State} {e : StackEvent} {k j : StackId} {l : Line}

/-! ## Selections change no more after a notice -/

theorem SelectsOnly.raise (h : SelectsOnly s t) (n : Notice) : SelectsOnly (s.raise n) (t.raise n) where
  intake := h.intake
  grading := h.grading
  tables := h.tables
  caches := h.caches
  tracking := h.tracking
  routing := h.routing
  ports := by simp only [State.raise, h.ports]
  pins := h.pins
  pending := h.pending
  stackParams := h.stackParams
  lineParams := h.lineParams
  stackFields := h.stackFields
  lineFields := h.lineFields

theorem SelectsOnly.setStack_both {x y : Stack}
    (h : y.state = x.state ∧ y.capacity = x.capacity ∧ y.access = x.access ∧ y.inventory = x.inventory
      ∧ y.allocated = x.allocated ∧ y.reservations = x.reservations ∧ y.falling = x.falling) :
    SelectsOnly (s.setStack k x) (s.setStack k y) := by
  have hk : SelectsOnly (s.setStack k x) ((s.setStack k x).setStack k y) :=
    .setStack (by rw [State.stack_setStack_same]; exact h)
  rwa [setStack_setStack] at hk

/-! ## A stack's state set (R118) -/

theorem Stack.serving_iff (x : Stack) : x.serving = true ↔ x.state = .opened ∨ x.state = .drain := by
  unfold Stack.serving
  cases x.state <;> simp

theorem Stack.free_iff (x : Stack) : x.free = true ↔ x.reservations = 0 ∧ x.falling = [] ∧ x.holder = none := by
  simp [Stack.free, and_assoc]

theorem StackEvent.setState_same {new : StackState} (h : (e.st.stack k).state = new) : e.setState k new = e := if_pos h

theorem StackEvent.setState_serving {new : StackState} (h : (e.st.stack k).state ≠ new)
    (hn : new = .opened ∨ new = .drain) : e.setState k new =
      { e with st := e.st.setStack k { e.st.stack k with state := new } }.announce := by
  unfold StackEvent.setState
  rw [if_neg h]
  rcases hn with rfl | rfl <;> rfl

theorem StackEvent.setState_shut {new : StackState} (h : (e.st.stack k).state ≠ new)
    (hn : new = .closed ∨ new = .faulted) : e.setState k new =
      { st := e.st.setStack k { e.st.stack k with state := new, waiters := ⟨none, none⟩ },
        told := ⟨e.told.a || (e.st.stack k).waiters.a.isSome, e.told.b || (e.st.stack k).waiters.b.isSome⟩,
        heard := ⟨true, true⟩ } := by
  unfold StackEvent.setState
  rw [if_neg h]
  rcases hn with rfl | rfl <;> simp [StackEvent.withdrawAll, StackEvent.announce, setStack_setStack]

/-- Where nobody waits, a state set withdraws nobody. -/
theorem StackEvent.setState_unwaited {new : StackState} (hw : (e.st.stack k).waiters = ⟨none, none⟩)
    (h : (e.st.stack k).state ≠ new) : e.setState k new =
      { st := e.st.setStack k { e.st.stack k with state := new }, told := e.told, heard := ⟨true, true⟩ } := by
  have hshut (hn : new = .closed ∨ new = .faulted) : e.setState k new =
      { st := e.st.setStack k { e.st.stack k with state := new }, told := e.told, heard := ⟨true, true⟩ } := by
    have hx : ({ e.st.stack k with state := new, waiters := ⟨none, none⟩ } : Stack) =
        { e.st.stack k with state := new } := by rw [← hw]
    rw [StackEvent.setState_shut h hn, hw, hx]
    simp
  cases new with
  | opened => exact StackEvent.setState_serving h (.inl rfl)
  | drain => exact StackEvent.setState_serving h (.inr rfl)
  | closed => exact hshut (.inl rfl)
  | faulted => exact hshut (.inr rfl)

theorem StackEvent.setState_selectsOnly (e : StackEvent) (k : StackId) (new : StackState) :
    SelectsOnly (e.st.setStack k { e.st.stack k with state := new }) (e.setState k new).st := by
  by_cases h : (e.st.stack k).state = new
  · rw [StackEvent.setState_same h, ← h]
    have : e.st.setStack k { e.st.stack k with state := (e.st.stack k).state } = e.st := setStack_self e.st k
    rw [this]
    exact .refl _
  · cases new with
    | opened => rw [StackEvent.setState_serving h (.inl rfl)]; exact .refl _
    | drain => rw [StackEvent.setState_serving h (.inr rfl)]; exact .refl _
    | closed =>
      rw [StackEvent.setState_shut h (.inl rfl)]
      exact .setStack_both ⟨rfl, rfl, rfl, rfl, rfl, rfl, rfl⟩
    | faulted =>
      rw [StackEvent.setState_shut h (.inr rfl)]
      exact .setStack_both ⟨rfl, rfl, rfl, rfl, rfl, rfl, rfl⟩

/-- A stack in DRAIN holds nothing, and nothing is bound for it. -/
def Stack.Drained (x : Stack) : Prop := x.state = .drain ∧ x.inventory = [] ∧ x.allocated = 0

theorem StackEvent.drainClose_drained (h : (e.st.stack k).Drained) : e.drainClose k =
    { (e.setState k .closed) with st := (e.setState k .closed).st.raise .stackEmpty } := if_pos h

theorem StackEvent.drainClose_other (h : ¬ (e.st.stack k).Drained) : e.drainClose k = e := if_neg h

theorem StackEvent.drainClose_selectsOnly (h : (e.st.stack k).Drained) :
    SelectsOnly ((e.st.setStack k { e.st.stack k with state := .closed }).raise .stackEmpty) (e.drainClose k).st := by
  rw [StackEvent.drainClose_drained h]
  exact (e.setState_selectsOnly k .closed).raise .stackEmpty

theorem StackEvent.drainClose_waiters (h : (e.st.stack k).Drained) :
    ((e.drainClose k).st.stack k).waiters = ⟨none, none⟩ ∧ ((e.drainClose k).st.stack k).state = .closed := by
  have hne : (e.st.stack k).state ≠ .closed := by rw [h.1]; nofun
  rw [StackEvent.drainClose_drained h, StackEvent.setState_shut hne (.inl rfl)]
  simp

theorem StackEvent.drainClose_tracking (e : StackEvent) (k : StackId) :
    (e.drainClose k).st.tracking = e.st.tracking := by
  by_cases h : (e.st.stack k).Drained
  · exact (StackEvent.drainClose_selectsOnly h).tracking
  · rw [StackEvent.drainClose_other h]

/-! ## What a selection makes of a stack -/

/-- What a selection of line `l` can make of a stack: nothing, or of one open to it its holder, if it has none, or one more
waiter. -/
def Stack.AskedBy (l : Line) (x y : Stack) : Prop :=
  y = x ∨ (x.serving = true ∧ x.access.get l = true ∧
    ((x.free = true ∧ y = { x with holder := some l, lastGrant := some l, waiters := x.waiters.set l none }) ∨
      ∃ g, y = { x with waiters := x.waiters.set l (some g) }))

theorem ask_askedBy (l : Line) (k : StackId) (g : GradeSet) (s : State) (j : StackId) :
    (s.stack j).AskedBy l ((ask l k g s).stack j) := by
  simp only [ask]
  split
  · exact .inl rfl
  · next hs =>
    obtain ⟨hs, ha⟩ : (s.stack k).serving = true ∧ (s.stack k).access.get l = true := by simpa using hs
    by_cases hj : j = k
    · subst hj
      split
      · next hf =>
        split
        · exact .inr ⟨hs, ha, .inl ⟨(Bool.and_eq_true _ _ ▸ hf).1, by simp [beginPick]⟩⟩
        · exact .inl rfl
      · exact .inr ⟨hs, ha, .inr ⟨g, by simp [joinWaiters]⟩⟩
    · refine .inl ?_
      split
      · split
        · simp [beginPick, State.stack_setStack_other _ _ hj]
        · rfl
      · simp [joinWaiters, State.stack_setStack_other _ _ hj]

theorem select_askedBy (l : Line) (s : State) (j : StackId) : (s.stack j).AskedBy l ((select l s).stack j) := by
  unfold select
  split
  · exact .inl rfl
  · split
    · exact ask_askedBy ..
    · refine .inl ?_
      unfold starve
      dsimp only
      split <;> rfl

theorem reselect_askedBy (l : Line) (s : State) (j : StackId) : (s.stack j).AskedBy l ((reselect l s).stack j) := by
  unfold reselect
  split
  · exact .inl rfl
  · exact select_askedBy ..

/-- What every selection keeps of a stack, the end of an event keeps. -/
theorem StackEvent.settle_stack {P : Stack → Prop} (hP : ∀ l x y, Stack.AskedBy l x y → P x → P y) (e : StackEvent)
    (k : StackId) (h : P (e.st.stack k)) : P (e.settle.stack k) := by
  have again (l : Line) {s : State} (hs : P (s.stack k)) : P ((reselect l s).stack k) :=
    hP l _ _ (reselect_askedBy l s k) hs
  simp only [StackEvent.settle]
  split
  · exact h
  · exact again .a h
  · exact again .b h
  · have h' : P (State.stack { e.st with choices := e.st.choices + 1 } k) := h
    split
    · exact again .b (again .a h')
    · exact again .a (again .b h')

/-- A stack that does not serve is left as it stands. -/
theorem StackEvent.settle_stack_shut (h : (e.st.stack k).serving = false) : e.settle.stack k = e.st.stack k := by
  refine StackEvent.settle_stack (P := fun x => x = e.st.stack k) (fun l x y hxy hx => ?_) e k rfl
  subst hx
  rcases hxy with hy | ⟨hs, -⟩
  · exact hy
  · rw [h] at hs
    cases hs

/-- A holder keeps the top. -/
theorem StackEvent.settle_holder (h : (e.st.stack k).holder = some l) : (e.settle.stack k).holder = some l := by
  refine StackEvent.settle_stack (P := fun x => x.holder = some l) (fun m x y hxy hx => ?_) e k h
  rcases hxy with rfl | ⟨-, -, ⟨hf, -⟩ | ⟨g, rfl⟩⟩
  · exact hx
  · rw [((Stack.free_iff x).mp hf).2.2] at hx
    cases hx
  · exact hx

/-- A line to which a stack is not open does not come to wait there. -/
theorem StackEvent.settle_barred (ha : (e.st.stack k).access.get l = false)
    (hw : (e.st.stack k).waiters.get l = none) : (e.settle.stack k).waiters.get l = none := by
  refine (StackEvent.settle_stack (P := fun x => x.access.get l = false ∧ x.waiters.get l = none)
    (fun m x y hxy ⟨ha, hw⟩ => ?_) e k ⟨ha, hw⟩).2
  rcases hxy with rfl | ⟨-, hm, hy⟩
  · exact ⟨ha, hw⟩
  · have hlm : l ≠ m := fun h => by rw [← h, ha] at hm; cases hm
    rcases hy with ⟨-, rfl⟩ | ⟨g, rfl⟩ <;> exact ⟨ha, by rw [PerLine.get_set_other _ _ hlm]; exact hw⟩

/-! ## What a selection makes of the lines -/

/-- A line that does not select again is left as it stands. -/
theorem StackEvent.settle_line (h : e.selects l = false) : e.settle.line l = e.st.line l := by
  cases l with
  | a =>
    cases hb : e.selects .b with
    | false => simp only [StackEvent.settle, h, hb]
    | true =>
      simp only [StackEvent.settle, h, hb]
      exact reselect_line_other _ nofun
  | b =>
    cases ha : e.selects .a with
    | false => simp only [StackEvent.settle, h, ha]
    | true =>
      simp only [StackEvent.settle, h, ha]
      exact reselect_line_other _ nofun

theorem StackEvent.selects_eq_false (ht : e.told.get l = false) (hs : (e.st.line l).activity ≠ .starved) :
    e.selects l = false := by
  simp [StackEvent.selects, ht, hs]

theorem StackEvent.selects_told (h : e.told.get l = true) : e.selects l = true := by
  simp [StackEvent.selects, h]

/-- A line that does not wait at a stack is neither granted its top nor told to reselect. -/
theorem StackEvent.offer_line (hw : (e.st.stack k).waiters.get l = none) (ls : List Line) :
    (StackEvent.offer k ls e).st.line l = e.st.line l ∧ (StackEvent.offer k ls e).told.get l = e.told.get l := by
  induction ls generalizing e with
  | nil => exact ⟨rfl, rfl⟩
  | cons m ms ih =>
    unfold StackEvent.offer
    split
    · exact ih hw
    · next g hg =>
      have hlm : l ≠ m := fun h => by rw [← h, hw] at hg; cases hg
      split
      · exact ⟨State.line_setLine_other _ _ hlm, rfl⟩
      · obtain ⟨h1, h2⟩ := ih (e := { st := leaveWaiters m k e.st, told := e.told.set m true, heard := e.heard })
          (by simp [leaveWaiters, PerLine.get_set_other _ _ hlm, hw])
        exact ⟨h1, h2.trans (PerLine.get_set_other _ _ hlm)⟩

theorem StackEvent.grantCheck_line (hw : (e.st.stack k).waiters.get l = none) :
    (e.grantCheck k).st.line l = e.st.line l ∧ (e.grantCheck k).told.get l = e.told.get l := by
  unfold StackEvent.grantCheck
  dsimp only
  split
  · exact StackEvent.offer_line hw _
  · exact ⟨rfl, rfl⟩

theorem StackEvent.setState_line (hw : (e.st.stack k).waiters.get l = none) (new : StackState) :
    (e.setState k new).st.line l = e.st.line l ∧ (e.setState k new).told.get l = e.told.get l ∧
      ((e.setState k new).st.stack k).waiters.get l = none := by
  by_cases h : (e.st.stack k).state = new
  · rw [StackEvent.setState_same h]
    exact ⟨rfl, rfl, hw⟩
  · have hshut (hn : new = .closed ∨ new = .faulted) : (e.setState k new).st.line l = e.st.line l ∧
        (e.setState k new).told.get l = e.told.get l ∧ ((e.setState k new).st.stack k).waiters.get l = none := by
      rw [StackEvent.setState_shut h hn]
      cases l <;> simp_all [PerLine.get]
    have hserves (hn : new = .opened ∨ new = .drain) : (e.setState k new).st.line l = e.st.line l ∧
        (e.setState k new).told.get l = e.told.get l ∧ ((e.setState k new).st.stack k).waiters.get l = none := by
      rw [StackEvent.setState_serving h hn]
      exact ⟨rfl, rfl, by simpa [StackEvent.announce] using hw⟩
    cases new with
    | opened => exact hserves (.inl rfl)
    | drain => exact hserves (.inr rfl)
    | closed => exact hshut (.inl rfl)
    | faulted => exact hshut (.inr rfl)

theorem StackEvent.drainClose_line (hw : (e.st.stack k).waiters.get l = none) :
    (e.drainClose k).st.line l = e.st.line l ∧ (e.drainClose k).told.get l = e.told.get l ∧
      ((e.drainClose k).st.stack k).waiters.get l = none := by
  by_cases h : (e.st.stack k).Drained
  · rw [StackEvent.drainClose_drained h]
    exact StackEvent.setState_line hw .closed
  · rw [StackEvent.drainClose_other h]
    exact ⟨rfl, rfl, hw⟩

/-! ## Where nobody waits and nobody is starved -/

theorem StackEvent.offer_unwaited (hw : (e.st.stack k).waiters = ⟨none, none⟩) (ls : List Line) :
    StackEvent.offer k ls e = e := by
  induction ls with
  | nil => rfl
  | cons l ls ih =>
    unfold StackEvent.offer
    rw [hw]
    cases l <;> exact ih

theorem StackEvent.grantCheck_unwaited (hw : (e.st.stack k).waiters = ⟨none, none⟩) : e.grantCheck k = e := by
  unfold StackEvent.grantCheck
  dsimp only
  split
  · exact StackEvent.offer_unwaited hw _
  · rfl

/-- An event that has told nobody to reselect, where nobody waits and nobody is starved. -/
structure StackEvent.Unwatched (e : StackEvent) : Prop where
  told  : e.told = ⟨false, false⟩
  state : Machine.Unwatched e.st

theorem StackEvent.Unwatched.of (h : Machine.Unwatched s) : (StackEvent.of s).Unwatched := ⟨rfl, h⟩

namespace StackEvent.Unwatched

theorem settle (h : e.Unwatched) : e.settle = e.st := StackEvent.settle_quiet h.told h.state.2

theorem grantCheck (h : e.Unwatched) (k : StackId) : e.grantCheck k = e := StackEvent.grantCheck_unwaited (h.state.1 k)

theorem announceTo (h : e.Unwatched) (m : PerLine Bool) : (e.announceTo m).Unwatched := ⟨h.told, h.state⟩

theorem setStack (h : Machine.Unwatched s) (x : Stack) (hx : x.waiters = ⟨none, none⟩) :
    Machine.Unwatched (s.setStack k x) := by
  refine ⟨fun j => ?_, h.2⟩
  rw [stack_setStack]
  split
  · exact hx
  · exact h.1 j

theorem setState (h : e.Unwatched) (k : StackId) (new : StackState) :
    (e.setState k new).Unwatched ∧ (e.setState k new).st = e.st.setStack k { e.st.stack k with state := new } := by
  have hst : (e.setState k new).st = e.st.setStack k { e.st.stack k with state := new } ∧
      (e.setState k new).told = e.told := by
    by_cases hn : (e.st.stack k).state = new
    · rw [StackEvent.setState_same hn, ← hn]
      exact ⟨(setStack_self e.st k).symm, rfl⟩
    · rw [StackEvent.setState_unwaited (h.state.1 k) hn]
      exact ⟨rfl, rfl⟩
  refine ⟨⟨hst.2.trans h.told, ?_⟩, hst.1⟩
  rw [hst.1]
  exact setStack h.state _ (h.state.1 k)

theorem drainClose (h : e.Unwatched) (k : StackId) : (e.drainClose k).Unwatched ∧
    ((e.st.stack k).Drained →
      (e.drainClose k).st = (e.st.setStack k { e.st.stack k with state := .closed }).raise .stackEmpty) := by
  by_cases hd : (e.st.stack k).Drained
  · obtain ⟨hu, hs⟩ := h.setState k .closed
    rw [StackEvent.drainClose_drained hd]
    exact ⟨⟨hu.told, hu.state⟩, fun _ => congrArg (State.raise · .stackEmpty) hs⟩
  · rw [StackEvent.drainClose_other hd]
    exact ⟨h, fun hc => absurd hc hd⟩

end StackEvent.Unwatched

end Sys2Proof.Machine
end

section
/-!
PROOFS. The thresholds of conveyor tracking: when each event of an entry is due, what each take of the oldest such entry
does, and how the entries that owe one are served; the statements DecisionAssignsFirstEligibleStack and
EncoderApproachAndRunOutMoveEntries.
-/

namespace Sys2Proof.Machine

variable {s : State} {e : TrackEntry} {g : Geometry} {p : TrackEntry → Bool} {older newer : List TrackEntry} {k : StackId}

/-! ## When an event is due (R89) -/

theorem decisionDue_iff (g : Geometry) (e : TrackEntry) :
    decisionDue g e = true ↔ e.decided = false ∧ e.drop = .noDrop ∧ e.distance = g.decision := by
  simp [decisionDue, and_assoc]

theorem approachDue_iff (g : Geometry) (e : TrackEntry) :
    approachDue g e = true ↔ e.drop = .allocated ∧ ∃ k, e.stack = some k ∧ e.distance + g.window = g.gates[k] := by
  simp [approachDue, Option.any_eq_true, Geometry.gate]

theorem gateDue_iff (g : Geometry) (e : TrackEntry) :
    gateDue g e = true ↔ e.drop = .reserved ∧ ∃ k, e.stack = some k ∧ e.distance = g.gates[k] := by
  simp [gateDue, Option.any_eq_true, Geometry.gate]

theorem runOutDue_iff (g : Geometry) (e : TrackEntry) :
    runOutDue g e = true ↔ (e.drop = .noDrop ∨ e.drop = .abandoned) ∧ e.distance = g.runOut := by
  simp [runOutDue]

/-- At most one threshold event of an entry is due, and it is the one the entry owes. -/
theorem owes_decision (h : decisionDue g e = true) : e.owes g = some .decision := if_pos h

theorem owes_approach (h : approachDue g e = true) : e.owes g = some .approach := by
  have hd : ¬ decisionDue g e = true := fun hc =>
    DropState.noConfusion ((drop_of_approachDue h).symm.trans (drop_of_decisionDue hc))
  rw [TrackEntry.owes, if_neg hd, if_pos h]

theorem owes_gate (h : gateDue g e = true) : e.owes g = some .gate := by
  have hd : ¬ decisionDue g e = true := fun hc =>
    DropState.noConfusion ((drop_of_gateDue h).symm.trans (drop_of_decisionDue hc))
  have ha : ¬ approachDue g e = true := fun hc =>
    DropState.noConfusion ((drop_of_gateDue h).symm.trans (drop_of_approachDue hc))
  rw [TrackEntry.owes, if_neg hd, if_neg ha, if_pos h]

theorem owes_isSome_iff (g : Geometry) (e : TrackEntry) : (e.owes g).isSome = true ↔
    decisionDue g e = true ∨ approachDue g e = true ∨ gateDue g e = true ∨ runOutDue g e = true := by
  unfold TrackEntry.owes
  split
  · next h => simp [h]
  · split
    · next h => simp [h]
    · split
      · next h => simp [h]
      · split
        · next h => simp [h]
        · simp [*]

theorem owes_eq_none_iff (g : Geometry) (e : TrackEntry) : e.owes g = none ↔
    decisionDue g e = false ∧ approachDue g e = false ∧ gateDue g e = false ∧ runOutDue g e = false := by
  rw [← Option.not_isSome_iff_eq_none, owes_isSome_iff]
  simp

theorem mem_owing (e : TrackEntry) (s : State) : e ∈ owing s ↔ e ∈ s.tracking.queue ∧
    (decisionDue s.tracking.geometry e = true ∨ approachDue s.tracking.geometry e = true ∨
      gateDue s.tracking.geometry e = true ∨ runOutDue s.tracking.geometry e = true) := by
  rw [owing, List.mem_filter, owes_isSome_iff]

/-! ## The take of the oldest entry that satisfies a predicate (R91 to R96) -/

theorem takeApproach_place (hq : s.tracking.queue = older ++ e :: newer) (h : ∀ y ∈ older, p y = false) (he : p e = true)
    (hk : e.stack = some k) : takeApproach p s = (s.setTracking { s.tracking with
      queue := older ++ { e with drop := .reserved } :: newer }).setStack k
        { s.stack k with reservations := (s.stack k).reservations + 1 } := by
  rw [takeApproach, hq, find?_place h he, updateFirst_place _ h he, Option.bind_some, hk]
  rfl

theorem takeRunOut_place (hq : s.tracking.queue = older ++ e :: newer) (h : ∀ y ∈ older, p y = false) (he : p e = true) :
    takeRunOut p s = ((s.abandon e.sheet true).setQueue (older ++ newer)).countRunOut := by
  rw [takeRunOut, hq, find?_place h he, dropFirst_place h he]

theorem takeGate_place (hq : s.tracking.queue = older ++ e :: newer) (h : ∀ y ∈ older, p y = false) (he : p e = true)
    (hk : e.stack = some k) : takeGate p s = if firesDrop k s then fireDrop p e k s else abandonDrop p k s := by
  rw [takeGate, hq, find?_place h he]
  simp only [hk]

theorem abandonIf_only_grading (s : State) (c : Bool) (r : SheetRecord) (d : Bool) :
    ∃ g, (if c then s.abandon r d else s) = { s with grading := g } := by
  split
  · exact s.abandon_only_grading r d
  · exact ⟨s.grading, rfl⟩

/-- The state after the decision of an entry that leaves queue `q`, before a stack is charged: a grading still in flight is
abandoned, and GRADE_LATE tells of it. -/
def decidedState (e : TrackEntry) (q : List TrackEntry) (s : State) : State :=
  ((if e.sheet.cls.isNone then s.abandon e.sheet false else s).setQueue q).raiseIf e.sheet.cls.isNone .gradeLate

theorem takeDecision_unrouted (hq : s.tracking.queue = older ++ e :: newer) (h : ∀ y ∈ older, p y = false)
    (he : p e = true) (hc : decideStack e.fixedClass s = none) :
    takeDecision p s = decidedState e (older ++ e.decidedBy none :: newer) s := by
  rw [takeDecision, hq, find?_place h he]
  dsimp only
  rw [hc, updateFirst_place _ h he]
  rfl

theorem takeDecision_routed (hq : s.tracking.queue = older ++ e :: newer) (h : ∀ y ∈ older, p y = false)
    (he : p e = true) (hc : decideStack e.fixedClass s = some k) :
    takeDecision p s = allocate k (decidedState e (older ++ e.decidedBy (some k) :: newer) s) := by
  rw [takeDecision, hq, find?_place h he]
  dsimp only
  rw [hc, updateFirst_place _ h he]
  rfl

/-! ## Commands of the thresholds -/

/-- The entries of sheet number `n` for which an event is due. -/
def dueFor (due : Geometry → TrackEntry → Bool) (n : Nat) (s : State) (e : TrackEntry) : Bool :=
  decide (e.sheet.number = n) && due s.tracking.geometry e

theorem dueFor_iff {due : Geometry → TrackEntry → Bool} {n : Nat} :
    dueFor due n s e = true ↔ e.sheet.number = n ∧ due s.tracking.geometry e = true := by
  simp [dueFor]

section Commands

variable {i : Instr} {due : Geometry → TrackEntry → Bool} {take : (TrackEntry → Bool) → State → State} {n : Nat}

theorem threshold_taken (hi : EventOf i (commanded due take n)) (hr : s.pins.resetHeld = false)
    (hs : s.tracking.state = .running) : exec i s = .next (take (dueFor due n s) s) := by
  rw [hi.taken hr, commanded, if_pos (show s.tracks = true from decide_eq_true hs)]
  rfl

theorem threshold_idle (hi : EventOf i (commanded due take n)) (hr : s.pins.resetHeld = false)
    (ht : ∀ p, s.tracking.queue.find? p = none → take p s = s)
    (h : s.tracking.state = .faulted ∨ ∀ e ∈ s.tracking.queue, ¬ dueFor due n s e = true) : exec i s = .next s := by
  rw [hi.taken hr]
  congr 1
  unfold commanded
  split
  · next hs =>
    refine ht _ ?_
    rcases h with h | h
    · simp [State.tracks, h] at hs
    · exact List.find?_eq_none.mpr h
  · rfl

end Commands

theorem takeDecision_none (h : s.tracking.queue.find? p = none) : takeDecision p s = s := by
  rw [takeDecision, h]

theorem takeApproach_none (h : s.tracking.queue.find? p = none) : takeApproach p s = s := by
  rw [takeApproach, h, Option.bind_none]

theorem takeGate_none (h : s.tracking.queue.find? p = none) : takeGate p s = s := by
  rw [takeGate, h]

theorem takeRunOut_none (h : s.tracking.queue.find? p = none) : takeRunOut p s = s := by
  rw [takeRunOut, h]

/-! ## The decision (R108 to R110) -/

theorem Stack.eligible_iff (x : Stack) :
    x.eligible = true ↔ x.state = .opened ∧ x.inventory.length + x.allocated < x.capacity := by
  rw [Stack.eligible, Bool.and_eq_true, decide_eq_true_eq, decide_eq_true_eq, Stack.bound]

theorem Stack.eligible_eq_false_iff (x : Stack) :
    x.eligible = false ↔ ¬ (x.state = .opened ∧ x.inventory.length + x.allocated < x.capacity) := by
  rw [← Stack.eligible_iff, Bool.not_eq_true]

/-- The first of two choices that is a stack of `f`. -/
theorem firstOf_two {f : StackId → Bool} (first second : Option StackId) :
    (∀ k, first = some k → f k = true → (([first, second].filterMap id).find? f) = some k) ∧
    (∀ k, (∀ j, first = some j → f j = false) → second = some k → f k = true →
      (([first, second].filterMap id).find? f) = some k) ∧
    ((∀ j, first = some j → f j = false) → (∀ j, second = some j → f j = false) →
      (([first, second].filterMap id).find? f) = none) := by
  cases first with
  | none =>
    cases second with
    | none => exact ⟨nofun, nofun, fun _ _ => rfl⟩
    | some j => simp +contextual
  | some i =>
    cases second with
    | none => simp +contextual
    | some j => simp +contextual

/-- Settles O39: routing takes the first of its two choices that is eligible, and the decision of the oldest entry due is
`takeDecision` at its place. -/
theorem decisionAssignsFirstEligibleStack : Obligations.DecisionAssignsFirstEligibleStack := by
  refine ⟨fun s c => ?_, fun s n hr => ?_⟩
  · intro r swapped first second eligible
    have hd : decideStack c s = ([first, second].filterMap id).find? fun k => (s.stack k).eligible := by
      simp only [decideStack, routeChoices]
      change List.find? _ (List.filterMap id (if swapped then _ else _)) = _
      cases hs : swapped <;> simp only [first, second, hs] <;> rfl
    have hf (o : Option StackId) (h : ∀ j, o = some j → ¬ eligible j) : ∀ j, o = some j → (s.stack j).eligible = false :=
      fun j hj => (Stack.eligible_eq_false_iff _).mpr (h j hj)
    obtain ⟨h1, h2, h3⟩ := firstOf_two (f := fun k => (s.stack k).eligible) first second
    rw [hd]
    exact ⟨fun k hk he => h1 k hk ((Stack.eligible_iff _).mpr he),
      fun k hk hs he => h2 k (hf first hk) hs ((Stack.eligible_iff _).mpr he),
      fun ha hb => h3 (hf first ha) (hf second hb), rfl⟩
  · intro due
    have hdue (y : TrackEntry) : dueFor decisionDue n s y = true ↔ due y := by
      rw [dueFor_iff, decisionDue_iff]
    refine ⟨fun h => threshold_idle (.decisionPoint n) hr (fun _ => takeDecision_none)
      (h.imp_right fun h y hy hc => h y hy ((hdue y).mp hc)), fun older e newer hs hq ho he => ?_⟩
    intro late sheet choice drop freed moved told
    have hold : ∀ y ∈ older, dueFor decisionDue n s y = false := fun y hy =>
      Bool.eq_false_iff.mpr fun hc => ho y hy ((hdue y).mp hc)
    have htold (c : Option StackId) (hc : choice = c) : decidedState e (older ++ e.decidedBy c :: newer) s = told := by
      obtain ⟨gs, hgs⟩ : ∃ gs, freed = { s with grading := gs } := abandonIf_only_grading s late e.sheet false
      have hf : freed.tracking = s.tracking := by rw [hgs]
      have hdrop : (if c.isSome then DropState.allocated else .noDrop) = drop := by
        subst hc
        cases hx : choice <;> simp [drop, hx]
      rw [decidedState, TrackEntry.decidedBy, hdrop, ← hc]
      change State.raiseIf (freed.setTracking { freed.tracking with queue := older ++ _ :: newer }) late _ = _
      rw [hf]
      rfl
    refine ⟨fun hc => ?_, fun k hc => ?_⟩
    · rw [threshold_taken (.decisionPoint n) hr hs, takeDecision_unrouted hq hold ((hdue e).mpr he) hc, htold none hc]
    · intro x taken
      rw [threshold_taken (.decisionPoint n) hr hs, takeDecision_routed hq hold ((hdue e).mpr he) hc, htold _ hc]
      have hx : told.stack k = x := by
        obtain ⟨gs, hgs⟩ := abandonIf_only_grading s e.sheet.cls.isNone e.sheet false
        rw [← htold _ hc, decidedState, State.stack_raiseIf, hgs]
        rfl
      rw [allocate, hx]
      congr 1
      change State.raiseIf taken (decide _) _ = _
      rw [State.raiseIf, Stack.bound]
      simp only [decide_eq_true_eq]

/-! ## What a take looks at: only entries of the queue -/

theorem find?_congr_mem {α : Type} {f h : α → Bool} {xs : List α} (hf : ∀ x ∈ xs, f x = h x) : xs.find? f = xs.find? h := by
  induction xs with
  | nil => rfl
  | cons x xs ih =>
    rw [List.find?_cons, List.find?_cons, hf x List.mem_cons_self, ih fun y hy => hf y (List.mem_cons_of_mem x hy)]

theorem updateFirst_congr_mem {α : Type} {f h : α → Bool} {u : α → α} {xs : List α} (hf : ∀ x ∈ xs, f x = h x) :
    updateFirst f u xs = updateFirst h u xs := by
  induction xs with
  | nil => rfl
  | cons x xs ih =>
    rw [updateFirst, updateFirst, hf x List.mem_cons_self, ih fun y hy => hf y (List.mem_cons_of_mem x hy)]

theorem dropFirst_congr_mem {α : Type} {f h : α → Bool} {xs : List α} (hf : ∀ x ∈ xs, f x = h x) :
    dropFirst f xs = dropFirst h xs := by
  induction xs with
  | nil => rfl
  | cons x xs ih =>
    rw [dropFirst, dropFirst, hf x List.mem_cons_self, ih fun y hy => hf y (List.mem_cons_of_mem x hy)]

section Congruence

variable {q : TrackEntry → Bool} (h : ∀ x ∈ s.tracking.queue, p x = q x)

include h

theorem takeDecision_congr : takeDecision p s = takeDecision q s := by
  simp only [takeDecision, find?_congr_mem h, updateFirst_congr_mem h]

theorem takeApproach_congr : takeApproach p s = takeApproach q s := by
  simp only [takeApproach, find?_congr_mem h, updateFirst_congr_mem h]

theorem takeGate_congr : takeGate p s = takeGate q s := by
  simp only [takeGate, fireDrop, abandonDrop, find?_congr_mem h, updateFirst_congr_mem h, dropFirst_congr_mem h]

theorem takeRunOut_congr : takeRunOut p s = takeRunOut q s := by
  simp only [takeRunOut, find?_congr_mem h, dropFirst_congr_mem h]

end Congruence

/-- An entry alone of its sheet number is the entry a command of that number takes, where the event is due for it. -/
theorem dueFor_eq_self {due : Geometry → TrackEntry → Bool} (hd : due s.tracking.geometry e = true)
    (hu : ∀ y ∈ s.tracking.queue, y.sheet.number = e.sheet.number → y = e) :
    ∀ y ∈ s.tracking.queue, dueFor due e.sheet.number s y = decide (y = e) := by
  intro y hy
  by_cases hye : y = e
  · subst hye
    simp [dueFor, hd]
  · have hn : y.sheet.number ≠ e.sheet.number := fun hc => hye (hu y hy hc)
    simp [dueFor, hn, hye]

/-! ## All that is owed is taken (R89, assumptions 4 and 27) -/

/-- How many threshold events an entry can still owe at the present count: approach and gate, or one. -/
def TrackEntry.owedCount (g : Geometry) (e : TrackEntry) : Nat :=
  if approachDue g e then 2 else if (e.owes g).isSome then 1 else 0

theorem owedCount_le (g : Geometry) (e : TrackEntry) : e.owedCount g ≤ 2 := by
  unfold TrackEntry.owedCount
  split
  · exact Nat.le_refl 2
  · split <;> omega

theorem owedCount_pos (h : (e.owes g).isSome = true) : 1 ≤ e.owedCount g := by
  unfold TrackEntry.owedCount
  rw [h]
  split <;> simp

theorem owedCount_eq_zero (h : e.owes g = none) : e.owedCount g = 0 := by
  have ha := ((owes_eq_none_iff g e).mp h).2.1
  simp [TrackEntry.owedCount, ha, h]

theorem owedCount_le_one (h : approachDue g e = false) : e.owedCount g ≤ 1 := by
  simp only [TrackEntry.owedCount, h, Bool.false_eq_true, if_false]
  split <;> omega

theorem owedCount_approach (h : approachDue g e = true) : e.owedCount g = 2 := if_pos h

/-- How many threshold events the entries of the queue can still owe at the present count. -/
def owedTotal (s : State) : Nat := (s.tracking.queue.map (TrackEntry.owedCount s.tracking.geometry)).sum

theorem owedTotal_le (s : State) : owedTotal s ≤ 2 * s.tracking.queue.length := by
  unfold owedTotal
  induction s.tracking.queue with
  | nil => exact Nat.le_refl 0
  | cons x xs ih =>
    have hx := owedCount_le s.tracking.geometry x
    simp only [List.map_cons, List.sum_cons, List.length_cons]
    omega

theorem owing_eq_nil_iff (s : State) : owing s = [] ↔ owedTotal s = 0 := by
  rw [owing, List.filter_eq_nil_iff, owedTotal, List.sum_eq_zero_iff]
  simp only [List.mem_map, forall_exists_index, and_imp, forall_apply_eq_imp_iff₂]
  refine forall₂_congr fun x _ => ⟨fun h => owedCount_eq_zero (by simpa using h), fun h hc => ?_⟩
  have := owedCount_pos hc
  omega

/-- The gates of a valid geometry stand in order, past the decision point and its window and before the run-out (R86). -/
theorem gates_step (h : g.valid = true) {i : Nat} (hi : i + 1 < 10) : g.gates[i] < g.gates[i + 1] := by
  simp only [Geometry.valid, Bool.and_eq_true, List.all_eq_true] at h
  have hl : i < (g.gates.toList.zip (g.gates.toList.drop 1)).length := by simp; omega
  have := of_decide_eq_true (h.1.1 _ (List.getElem_mem hl))
  simpa [List.getElem_zip, List.getElem_drop, Nat.add_comm] using this

theorem gates_le_last (h : g.valid = true) : ∀ (n i : Nat) (hi : i + n = 9), g.gates[i] ≤ g.gates[9]
  | 0, i, hi => by
    obtain rfl : i = 9 := by omega
    exact Nat.le_refl _
  | n + 1, i, hi =>
    (Nat.le_of_lt (gates_step h (by omega))).trans (gates_le_last h n (i + 1) (by omega))

theorem gate_bounds (h : g.valid = true) (k : StackId) :
    g.decision + g.window < g.gates[k] ∧ g.gates[k] < g.runOut := by
  have hl : g.gates[k.val] ≤ g.gates[9] := gates_le_last h (9 - k.val) k.val (by omega)
  simp only [Geometry.valid, Bool.and_eq_true, List.all_eq_true, decide_eq_true_eq] at h
  refine ⟨h.1.2 _ ?_, hl.trans_lt h.2⟩
  exact Vector.mem_toList_iff.mpr (Vector.getElem_mem k.isLt)

theorem decision_before_runOut (h : g.valid = true) : g.decision < g.runOut := by
  obtain ⟨h1, h2⟩ := gate_bounds h 0
  omega

theorem owes_runOut (hv : g.valid = true) (h : runOutDue g e = true) : e.owes g = some .runOut := by
  obtain ⟨hdrop, hdist⟩ := (runOutDue_iff g e).mp h
  have hd : ¬ decisionDue g e = true := fun hc => by
    have := decision_before_runOut hv
    have := ((decisionDue_iff g e).mp hc).2.2
    omega
  have ha : ¬ approachDue g e = true := fun hc => by
    rw [drop_of_approachDue hc] at hdrop
    simp at hdrop
  have hg : ¬ gateDue g e = true := fun hc => by
    rw [drop_of_gateDue hc] at hdrop
    simp at hdrop
  rw [TrackEntry.owes, if_neg hd, if_neg ha, if_neg hg, if_pos h]

theorem takeOwedBy_decision (h : decisionDue s.tracking.geometry e = true) :
    takeOwedBy e s = takeDecision (fun x => decide (x = e)) s := by
  rw [takeOwedBy, owes_decision h]

theorem takeOwedBy_approach (h : approachDue s.tracking.geometry e = true) :
    takeOwedBy e s = takeApproach (fun x => decide (x = e)) s := by
  rw [takeOwedBy, owes_approach h]

theorem takeOwedBy_gate (h : gateDue s.tracking.geometry e = true) :
    takeOwedBy e s = takeGate (fun x => decide (x = e)) s := by
  rw [takeOwedBy, owes_gate h]

theorem takeOwedBy_runOut (hv : s.tracking.geometry.valid = true) (h : runOutDue s.tracking.geometry e = true) :
    takeOwedBy e s = takeRunOut (fun x => decide (x = e)) s := by
  rw [takeOwedBy, owes_runOut hv h]

/-- In state `t` the queue of `s` has `fresh` in the place of entry `e`, and tracking is otherwise as it was. -/
def EntryBecomes (e : TrackEntry) (fresh : List TrackEntry) (s t : State) : Prop :=
  ∃ older newer, s.tracking.queue = older ++ e :: newer ∧
    t.tracking = { s.tracking with queue := older ++ (fresh ++ newer) }

theorem EntryBecomes.geometry {fresh : List TrackEntry} {t : State} (h : EntryBecomes e fresh s t) :
    t.tracking.geometry = s.tracking.geometry := by
  obtain ⟨older, newer, -, ht⟩ := h
  rw [ht]

theorem EntryBecomes.owedTotal_lt {fresh : List TrackEntry} {t : State} (h : EntryBecomes e fresh s t)
    (hf : (fresh.map (TrackEntry.owedCount s.tracking.geometry)).sum < e.owedCount s.tracking.geometry) :
    owedTotal t < owedTotal s := by
  obtain ⟨older, newer, hq, ht⟩ := h
  simp only [owedTotal, ht, hq, List.map_append, List.sum_append, List.map_cons, List.sum_cons]
  omega

/-- The place of an entry of the queue where nothing before it is equal to it. -/
theorem exists_place (he : e ∈ s.tracking.queue) : ∃ older newer, s.tracking.queue = older ++ e :: newer ∧
    (∀ y ∈ older, decide (y = e) = false) ∧ decide (e = e) = true := by
  obtain ⟨older, newer, hq, hn⟩ := List.eq_append_cons_of_mem he
  exact ⟨older, newer, hq, fun y hy => decide_eq_false fun hc => hn (hc ▸ hy), decide_eq_true rfl⟩

theorem owedCount_decided (hv : g.valid = true) (h : e.distance = g.decision) (c : Option StackId) :
    (e.decidedBy c).owedCount g = 0 := by
  refine owedCount_eq_zero ((owes_eq_none_iff g _).mpr ⟨?_, ?_, ?_, ?_⟩)
  · rfl
  · refine Bool.eq_false_iff.mpr fun hc => ?_
    obtain ⟨-, k, -, hk⟩ := (approachDue_iff g _).mp hc
    have := (gate_bounds hv k).1
    change e.distance + _ = _ at hk
    omega
  · refine Bool.eq_false_iff.mpr fun hc => ?_
    have hd := drop_of_gateDue hc
    cases c <;> cases hd
  · refine Bool.eq_false_iff.mpr fun hc => ?_
    have hk := ((runOutDue_iff g _).mp hc).2
    have := decision_before_runOut hv
    change e.distance = _ at hk
    omega

theorem owedCount_abandoned (hv : g.valid = true) {k : StackId} (h : e.distance = g.gates[k]) :
    TrackEntry.owedCount g { e with drop := .abandoned } = 0 := by
  refine owedCount_eq_zero ((owes_eq_none_iff g _).mpr ⟨?_, ?_, ?_, ?_⟩)
  · simp [decisionDue]
  · simp [approachDue]
  · simp [gateDue]
  · refine Bool.eq_false_iff.mpr fun hc => ?_
    have hk := ((runOutDue_iff g _).mp hc).2
    have := (gate_bounds hv k).2
    change e.distance = _ at hk
    omega

/-- An entry whose owed event is taken owes less, and nothing else of tracking changes. -/
theorem takeOwedBy_becomes (hv : s.tracking.geometry.valid = true) (he : e ∈ owing s) : ∃ fresh,
    EntryBecomes e fresh s (takeOwedBy e s) ∧
      (fresh.map (TrackEntry.owedCount s.tracking.geometry)).sum < e.owedCount s.tracking.geometry := by
  obtain ⟨hmem, hdue⟩ := (mem_owing e s).mp he
  obtain ⟨older, newer, hq, hold, hself⟩ := exists_place hmem
  have hpos : 0 < e.owedCount s.tracking.geometry := owedCount_pos ((owes_isSome_iff _ e).mpr hdue)
  rcases hdue with h | h | h | h
  · obtain ⟨-, -, hd⟩ := (decisionDue_iff _ e).mp h
    obtain ⟨gs, hgs⟩ := abandonIf_only_grading s e.sheet.cls.isNone e.sheet false
    have htold (c : Option StackId) : (decidedState e (older ++ e.decidedBy c :: newer) s).tracking =
        { s.tracking with queue := older ++ e.decidedBy c :: newer } := by
      rw [decidedState, hgs, State.raiseIf_tracking]
      rfl
    rw [takeOwedBy_decision h]
    cases hc : decideStack e.fixedClass s with
    | none =>
      refine ⟨[e.decidedBy none], ⟨older, newer, hq, ?_⟩, by simpa [owedCount_decided hv hd] using hpos⟩
      rw [takeDecision_unrouted hq hold hself hc]
      exact htold none
    | some k =>
      refine ⟨[e.decidedBy (some k)], ⟨older, newer, hq, ?_⟩, by simpa [owedCount_decided hv hd] using hpos⟩
      rw [takeDecision_routed hq hold hself hc, allocate, State.raiseIf_tracking]
      exact htold (some k)
  · obtain ⟨-, k, hk, -⟩ := (approachDue_iff _ e).mp h
    refine ⟨[{ e with drop := .reserved }], ⟨older, newer, hq, ?_⟩, ?_⟩
    · rw [takeOwedBy_approach h, takeApproach_place hq hold hself hk]
      rfl
    · have := owedCount_le_one (g := s.tracking.geometry) (e := { e with drop := .reserved }) (by simp [approachDue])
      rw [owedCount_approach h]
      simpa using Nat.lt_succ_of_le this
  · obtain ⟨-, k, hk, hd⟩ := (gateDue_iff _ e).mp h
    rw [takeOwedBy_gate h, takeGate_place hq hold hself hk]
    split
    · refine ⟨[], ⟨older, newer, hq, ?_⟩, by simpa using hpos⟩
      rw [fireDrop, hq, dropFirst_place hold hself]
      rfl
    · refine ⟨[{ e with drop := .abandoned }], ⟨older, newer, hq, ?_⟩, by simpa [owedCount_abandoned hv hd] using hpos⟩
      rw [abandonDrop, (StackEvent.settle_selectsOnly _).tracking, (StackEvent.grantCheck_selectsOnly _ _).tracking,
        StackEvent.drainClose_tracking, hq, updateFirst_place _ hold hself]
      rfl
  · refine ⟨[], ⟨older, newer, hq, ?_⟩, by simpa using hpos⟩
    obtain ⟨gs, hgs⟩ := s.abandon_only_grading e.sheet true
    rw [takeOwedBy_runOut hv h, takeRunOut_place hq hold hself, hgs]
    rfl

theorem takeOwed_quiet (h : owing s = []) : takeOwed s = s := by
  rw [takeOwed, h]

theorem iterate_takeOwed_quiet (h : owing s = []) : ∀ n, iterate takeOwed n s = s
  | 0 => rfl
  | n + 1 => by rw [iterate, takeOwed_quiet h, iterate_takeOwed_quiet h n]

/-- One event owed is taken: the only one, or one of several at the cost of a free choice. -/
theorem takeOwed_owing (h : owing s ≠ []) :
    (∃ e, owing s = [e] ∧ takeOwed s = takeOwedBy e s) ∨
    (∃ e ∈ owing s, 2 ≤ (owing s).length ∧ takeOwed s = takeOwedBy e { s with choices := s.choices + 1 }) := by
  cases ho : owing s with
  | nil => exact absurd ho h
  | cons e es =>
    cases es with
    | nil => exact .inl ⟨e, rfl, by rw [takeOwed, ho]⟩
    | cons f es =>
      refine .inr ⟨_, ?_, by simp, by rw [takeOwed, ho]⟩
      have hl : Config.owedFirst s.choices % (e :: f :: es).length < (e :: f :: es).length :=
        Nat.mod_lt _ (by simp)
      rw [List.getElem?_eq_getElem hl]
      exact List.getElem_mem hl

theorem settles_iterate : ∀ (n : Nat) (s : State), s.tracking.geometry.valid = true → owedTotal s ≤ n →
    Settles s (iterate takeOwed n s)
  | 0, s, _, h => .done ((owing_eq_nil_iff s).mpr (Nat.le_zero.mp h))
  | n + 1, s, hv, h => by
    by_cases ho : owing s = []
    · rw [iterate_takeOwed_quiet ho]
      exact .done ho
    · rcases takeOwed_owing ho with ⟨e, h1, ht⟩ | ⟨e, he, h2, ht⟩
      · obtain ⟨fresh, hb, hlt⟩ := takeOwedBy_becomes (s := s) hv (e := e) (by simp [h1])
        have := hb.owedTotal_lt hlt
        rw [iterate, ht]
        exact .one h1 (settles_iterate n _ (hb.geometry ▸ hv) (by omega))
      · obtain ⟨fresh, hb, hlt⟩ := takeOwedBy_becomes (s := { s with choices := s.choices + 1 }) hv (e := e) he
        have := hb.owedTotal_lt hlt
        have heq : owedTotal { s with choices := s.choices + 1 } = owedTotal s := rfl
        rw [iterate, ht]
        exact .several h2 he (settles_iterate n _ (hb.geometry ▸ hv) (by omega))

theorem settles_takeAllOwed (hv : s.tracking.geometry.valid = true) : Settles s (takeAllOwed s) :=
  settles_iterate _ s hv (owedTotal_le s)

theorem tracks_of_running (h : s.tracking.state = .running) : s.tracks = true := decide_eq_true h

theorem exec_encoderCount (hr : s.pins.resetHeld = false) (hs : s.tracking.state = .running) :
    exec .encoderCount s = .next (moveEntries (takeAllOwed s)) := by
  rw [EventOf.encoderCount.taken hr, if_pos (tracks_of_running hs)]

theorem takeRunOut_kept (hq : s.tracking.queue = older ++ e :: newer) (h : ∀ y ∈ older, p y = false) (he : p e = true)
    (ha : s.abandon e.sheet true = s) : takeRunOut p s = (s.setQueue (older ++ newer)).countRunOut := by
  rw [takeRunOut_place hq h he, ha]

/-- Settles O38: ENCODER COUNT serves what is owed and moves the entries, and the commands of the thresholds are the takes of
the oldest entry due. -/
theorem encoderApproachAndRunOutMoveEntries : Obligations.EncoderApproachAndRunOutMoveEntries := by
  refine ⟨fun s hr => ⟨fun hs ho => ?_, fun hs => ?_⟩, fun s n hr => ?_, fun s => ?_⟩
  · rw [exec_encoderCount hr hs, takeAllOwed, iterate_takeOwed_quiet ho]
    rfl
  · rw [EventOf.encoderCount.taken hr, if_neg (by simp [State.tracks, hs])]
  · intro g near off
    have hnear (y : TrackEntry) : dueFor approachDue n s y = true ↔ near y := by
      rw [dueFor_iff, approachDue_iff]
    have hoff (y : TrackEntry) : dueFor runOutDue n s y = true ↔ off y := by
      rw [dueFor_iff, runOutDue_iff]
    refine ⟨fun h => threshold_idle (.approach n) hr (fun _ => takeApproach_none)
      (h.imp_right fun h y hy hc => h y hy ((hnear y).mp hc)),
      fun h => threshold_idle (.runOut n) hr (fun _ => takeRunOut_none)
      (h.imp_right fun h y hy hc => h y hy ((hoff y).mp hc)), fun older e newer hs hq => ⟨fun ho he k hk => ?_, ?_⟩⟩
    · rw [threshold_taken (.approach n) hr hs, takeApproach_place hq (fun y hy =>
        Bool.eq_false_iff.mpr fun hc => ho y hy ((hnear y).mp hc)) ((hnear e).mpr he) hk]
    · intro ho he gone
      have hold : ∀ y ∈ older, dueFor runOutDue n s y = false := fun y hy =>
        Bool.eq_false_iff.mpr fun hc => ho y hy ((hoff y).mp hc)
      refine ⟨fun j hj h1 h2 h3 h4 => ?_, fun h => ?_⟩
      · have hg : GivenUp e.sheet.lane j e.sheet := ⟨rfl, h1.symm, h2.symm, h3, h4⟩
        rw [threshold_taken (.runOut n) hr hs, takeRunOut_place hq hold ((hoff e).mpr he), abandon_hit hj hg]
        rfl
      · have ha : s.abandon e.sheet true = s := by
          cases hj : s.job e.sheet.lane with
          | none => exact abandon_idle hj true
          | some j =>
            refine abandon_miss hj (fun ⟨_, h1, h2, h3, h4⟩ => ?_) true
            rcases h j hj with h | h | h | ⟨hc, hb⟩
            · exact h h1.symm
            · exact h h2.symm
            · exact h h3
            · rcases h4 with h4 | h4
              · exact hc h4
              · rw [hb] at h4
                cases h4
        rw [threshold_taken (.runOut n) hr hs, takeRunOut_kept hq hold ((hoff e).mpr he) ha]
        rfl
  · intro g decides nears gates runsOut
    refine ⟨fun e => ?_, fun hr hs hv => ⟨⟨takeAllOwed s, settles_takeAllOwed hv, exec_encoderCount hr hs⟩, fun e he hu => ?_⟩⟩
    · rw [mem_owing, decisionDue_iff, approachDue_iff, gateDue_iff, runOutDue_iff]
    · refine ⟨fun h => ?_, fun h => ?_, fun h => ?_, fun h => ?_⟩
      · have hd := (decisionDue_iff _ e).mpr h
        rw [threshold_taken (.decisionPoint _) hr hs, takeOwedBy_decision hd, takeDecision_congr (dueFor_eq_self hd hu)]
      · have hd := (approachDue_iff _ e).mpr h
        rw [threshold_taken (.approach _) hr hs, takeOwedBy_approach hd, takeApproach_congr (dueFor_eq_self hd hu)]
      · have hd := (gateDue_iff _ e).mpr h
        rw [threshold_taken (.gate _) hr hs, takeOwedBy_gate hd, takeGate_congr (dueFor_eq_self hd hu)]
      · have hd := (runOutDue_iff _ e).mpr h
        rw [threshold_taken (.runOut _) hr hs, takeOwedBy_runOut hv hd, takeRunOut_congr (dueFor_eq_self hd hu)]

end Sys2Proof.Machine
end

section
/-!
PROOFS. Gates, the encoder stall and TRACK CLEAR: claims released and the events at the stacks that follow; the statements
GateFiresOrAbandonsDrop, ConveyorRunDrivesStallTimerToItsStall and TrackClearReleasesEveryClaim.
-/

namespace Sys2Proof.Machine

variable {s t : State} {e : StackEvent} {k j : StackId} {l : Line}

/-! ## The gate (R94, R95) -/

theorem firesDrop_iff (k : StackId) (s : State) : firesDrop k s = true ↔ (s.stack k).holder = none ∧
    ((s.stack k).state = .opened ∨ (s.stack k).state = .drain) ∧ s.estop = false ∧ (s.stack k).falling.length < 2 := by
  simp only [firesDrop, Bool.and_eq_true, Option.isNone_iff_eq_none, Stack.serving_iff, Bool.not_eq_true',
    decide_eq_true_eq, and_assoc]

theorem StackEvent.grantCheck_shut (h : (e.st.stack k).serving = false) : e.grantCheck k = e := by
  simp [StackEvent.grantCheck, h]

/-- A stack that closes in DRAIN, is offered and settles stands closed with nobody waiting. -/
theorem drained_settles (h : (e.st.stack k).Drained) :
    SelectsOnly ((e.st.setStack k { e.st.stack k with state := .closed }).raise .stackEmpty)
      (((e.drainClose k).grantCheck k).settle) ∧
    ((((e.drainClose k).grantCheck k).settle).stack k).waiters = ⟨none, none⟩ := by
  obtain ⟨hw, hs⟩ := StackEvent.drainClose_waiters h
  have hshut : ((e.drainClose k).st.stack k).serving = false := by
    rw [Stack.serving, hs]
  rw [StackEvent.grantCheck_shut hshut, StackEvent.settle_stack_shut hshut]
  exact ⟨(StackEvent.drainClose_selectsOnly h).trans (StackEvent.settle_selectsOnly _), hw⟩

theorem not_drained_settles (h : ¬ (e.st.stack k).Drained) :
    SelectsOnly e.st (((e.drainClose k).grantCheck k).settle) := by
  rw [StackEvent.drainClose_other h]
  exact (e.grantCheck_selectsOnly k).trans (StackEvent.settle_selectsOnly _)

theorem StackEvent.Unwatched.drainGrantSettle (h : e.Unwatched) (k : StackId) :
    ((e.drainClose k).grantCheck k).settle = (e.drainClose k).st := by
  have hd := (h.drainClose k).1
  rw [hd.grantCheck, hd.settle]

/-- Settles O40: the command takes the oldest entry due at its gate, which fires or is abandoned. -/
theorem gateFiresOrAbandonsDrop : Obligations.GateFiresOrAbandonsDrop := by
  intro s n hr due
  have hdue (y : TrackEntry) : dueFor gateDue n s y = true ↔ due y := by
    rw [dueFor_iff, gateDue_iff]
  refine ⟨fun h => threshold_idle (.gate n) hr (fun _ => takeGate_none)
    (h.imp_right fun h y hy hc => h y hy ((hdue y).mp hc)), fun older e newer k hs hq ho he hk => ?_⟩
  intro x fires fired pulses released dropped told empties
  have hold : ∀ y ∈ older, dueFor gateDue n s y = false := fun y hy =>
    Bool.eq_false_iff.mpr fun hc => ho y hy ((hdue y).mp hc)
  have hexec : exec (.gate n) s = .next (if firesDrop k s then fireDrop (dueFor gateDue n s) e k s
      else abandonDrop (dueFor gateDue n s) k s) := by
    rw [threshold_taken (.gate n) hr hs, takeGate_place hq hold ((hdue e).mpr he) hk]
  have habandon (hf : ¬ fires) : exec (.gate n) s =
      .next ((((StackEvent.of told).drainClose k).grantCheck k).settle) := by
    rw [hexec, if_neg (fun hc => hf ((firesDrop_iff k s).mp hc)), abandonDrop, hq, updateFirst_place _ hold ((hdue e).mpr he)]
    rfl
  have hstack : told.stack k = released := by simp [told, dropped]
  have hdrained : (told.stack k).Drained ↔ empties := by rw [hstack]; rfl
  refine ⟨fun hf => ?_, fun hf he hu => ?_, fun hf he => ?_, fun hf he => ?_⟩
  · rw [hexec, if_pos ((firesDrop_iff k s).mpr hf), fireDrop, hq, dropFirst_place hold ((hdue e).mpr he)]
    rfl
  · have hut : Unwatched told := StackEvent.Unwatched.setStack (s := s) hu released (hu.1 k)
    rw [habandon hf, (StackEvent.Unwatched.of hut).drainGrantSettle,
      StackEvent.drainClose_other (e := .of told) fun hc => he (hdrained.mp hc)]
    rfl
  · exact ⟨_, habandon hf, not_drained_settles (e := .of told) fun hc => he (hdrained.mp hc)⟩
  · obtain ⟨h1, h2⟩ := drained_settles (e := .of told) (hdrained.mpr he)
    refine ⟨_, habandon hf, ?_, h2⟩
    rw [← hstack]
    exact h1

/-! ## CONV_RUN and the encoder stall (R97, R98) -/

theorem startStall_started (hs : s.tracking.state = .running) (hc : s.pins.convRun = true)
    (hl : s.tracking.stallLimit ≠ 0) : startStall s = s.setTracking { s.tracking with stallTimer := some 0 } := by
  simp [startStall, State.tracks, hs, hc, hl]

theorem startStall_idle (h : s.tracking.state = .faulted ∨ s.pins.convRun = false ∨ s.tracking.stallLimit = 0) :
    startStall s = s := by
  rcases h with h | h | h <;> simp [startStall, State.tracks, h]

theorem stallDue_iff (s : State) : stallDue s = true ↔ s.tracking.state = .running ∧ s.tracking.stallLimit ≠ 0 ∧
    ∃ n, s.tracking.stallTimer = some n ∧ s.tracking.stallLimit ≤ n := by
  simp only [stallDue, State.tracks, Bool.and_eq_true, decide_eq_true_eq, Option.any_eq_true, bne_iff_ne]
  constructor
  · rintro ⟨hs, n, hn, hl, hle⟩
    exact ⟨hs, hl, n, hn, hle⟩
  · rintro ⟨hs, hl, n, hn, hle⟩
    exact ⟨hs, n, hn, hl, hle⟩

/-- The state in which the freed tops are offered after a stall (R98). -/
def stalled (s : State) : State :=
  let t := s.tracking.queue.foldl (fun s e => releaseReservation e s) s
  (t.setTracking { t.tracking with
    state := .faulted, stallTimer := none,
    queue := s.tracking.queue.map fun e => if e.drop = .reserved then { e with drop := .allocated } else e }).raise
      .encoderStall

theorem takeStall_selectsOnly (s : State) : SelectsOnly (stalled s) (takeStall s) :=
  (StackEvent.grantChecks_selectsOnly _ (.of (stalled s))).trans (StackEvent.settle_selectsOnly _)

theorem stack_stalled (s : State) (k : StackId) :
    (stalled s).stack k = (s.stack k).without 0 (s.tracking.queue.countP (TrackEntry.reserves k)) :=
  stack_releaseReservations k s.tracking.queue s

theorem stalled_frame (s : State) : ∃ v, stalled s = ((s.setSk { s.sk with stack := v }).setTracking { s.tracking with
    state := .faulted, stallTimer := none,
    queue := s.tracking.queue.map fun e => { e with drop := if e.drop = .reserved then .allocated else e.drop } }).raise
      .encoderStall := by
  obtain ⟨v, hv⟩ := releaseReservations_only s.tracking.queue s
  have hm : (fun e : TrackEntry => if e.drop = .reserved then { e with drop := .allocated } else e) =
      fun e => { e with drop := if e.drop = .reserved then .allocated else e.drop } := by
    funext e
    split <;> rfl
  refine ⟨v, ?_⟩
  rw [stalled, hm]
  simp only [hv]
  rfl

/-- Settles O41: by the two pins' edges, and a stall by what releasing the reservations leaves and the offers that follow. -/
theorem conveyorRunDrivesStallTimerToItsStall : Obligations.ConveyorRunDrivesStallTimerToItsStall := by
  refine ⟨fun s => ⟨fun hc => if_pos hc, fun hc => ?_, rfl⟩, fun s hr => ?_⟩
  · intro t
    have hexec : exec .convRunAssert s = .next (if s.pins.resetHeld then t else startStall t) :=
      if_neg (by simp [hc])
    refine ⟨fun hr hs hl => ?_, fun h => ?_⟩
    · rw [hexec, if_neg (by simp [hr]), startStall_started (s := t) hs rfl hl]
      rfl
    · rw [hexec]
      split
      · rfl
      · next hr =>
        rw [startStall_idle (s := t) (h.elim (fun hh => absurd hh hr) fun hh => hh.elim .inl fun hh => .inr (.inr hh))]
  · intro due
    refine ⟨fun h => ?_, fun h => ⟨takeStall s, ?_, ?_⟩⟩
    · rw [EventOf.encoderStall.taken hr, if_neg (fun hc => h ((stallDue_iff s).mp hc))]
    · rw [EventOf.encoderStall.taken hr, if_pos ((stallDue_iff s).mpr h)]
    · obtain ⟨v, hv⟩ := stalled_frame s
      have hs := takeStall_selectsOnly s
      have hk (k : StackId) := hs.stackFields k
      have hl (l : Line) := hs.lineFields l
      simp only [stack_stalled] at hk
      rw [hv] at hs hl
      refine ⟨hs.tracking, hs.ports, hs.intake, hs.grading, hs.tables, hs.caches, hs.routing, hs.pins, hs.pending,
        fun k => ?_, hl⟩
      obtain ⟨h1, h2, h3, h4, h5, h6, h7⟩ := hk k
      exact ⟨h6, h1, h5, h4, h7, h2, h3⟩

/-! ## DRAIN closes, stack by stack (R118) -/

/-- A stack closed with nobody waiting. -/
def Stack.shutDown (x : Stack) : Stack := { x with state := .closed, waiters := ⟨none, none⟩ }

theorem not_drained_shutDown (x : Stack) : ¬ x.shutDown.Drained := fun h => StackState.noConfusion h.1

theorem drainClose_eq (h : (e.st.stack k).Drained) :
    (e.drainClose k).st = (e.st.setStack k (e.st.stack k).shutDown).raise .stackEmpty := by
  have hne : (e.st.stack k).state ≠ .closed := by rw [h.1]; nofun
  rw [StackEvent.drainClose_drained h, StackEvent.setState_shut hne (.inl rfl)]
  rfl

/-- DRAIN closes change stacks and the STACK_EMPTY notice only. -/
theorem drainCloses_frame (ks : List StackId) (e : StackEvent) : ∃ v w,
    (ks.foldl StackEvent.drainClose e).st = { e.st with sk := { e.st.sk with stack := v }, ports := w } ∧
    ∀ q n, n ≠ Notice.stackEmpty.number → (w.get q).notices.getLsbD n = (e.st.port q).notices.getLsbD n := by
  induction ks generalizing e with
  | nil => exact ⟨_, _, rfl, fun _ _ _ => rfl⟩
  | cons k ks ih =>
    obtain ⟨v, w, hst, hn⟩ := ih (e.drainClose k)
    by_cases h : (e.st.stack k).Drained
    · have hdc := drainClose_eq h
      refine ⟨v, w, ?_, fun q n hne => (hn q n hne).trans ?_⟩
      · rw [List.foldl_cons, hst, hdc]
        rfl
      · rw [hdc, raise_notices, BitVec.getLsbD_or, Notice.getLsbD_bit]
        simp [hne]
    · rw [StackEvent.drainClose_other h] at hst hn
      exact ⟨v, w, by rw [List.foldl_cons, StackEvent.drainClose_other h, hst], hn⟩

theorem drainClose_stack (e : StackEvent) (k j : StackId) :
    ((e.st.stack j).Drained ∧ j = k → (e.drainClose k).st.stack j = (e.st.stack j).shutDown) ∧
    (¬ ((e.st.stack j).Drained ∧ j = k) → (e.drainClose k).st.stack j = e.st.stack j) := by
  refine ⟨fun ⟨hd, hj⟩ => ?_, fun h => ?_⟩
  · subst hj
    rw [drainClose_eq hd]
    simp
  · by_cases hd : (e.st.stack k).Drained
    · have hj : j ≠ k := fun hj => h ⟨hj ▸ hd, hj⟩
      rw [drainClose_eq hd, State.stack_raise, State.stack_setStack_other _ _ hj]
    · rw [StackEvent.drainClose_other hd]

theorem drainCloses_stack (ks : List StackId) (e : StackEvent) (j : StackId) :
    ((e.st.stack j).Drained ∧ j ∈ ks → (ks.foldl StackEvent.drainClose e).st.stack j = (e.st.stack j).shutDown) ∧
    (¬ ((e.st.stack j).Drained ∧ j ∈ ks) → (ks.foldl StackEvent.drainClose e).st.stack j = e.st.stack j) := by
  induction ks generalizing e with
  | nil => exact ⟨fun ⟨_, h⟩ => absurd h List.not_mem_nil, fun _ => rfl⟩
  | cons k ks ih =>
    obtain ⟨h1, h2⟩ := ih (e.drainClose k)
    obtain ⟨c1, c2⟩ := drainClose_stack e k j
    by_cases hk : (e.st.stack j).Drained ∧ j = k
    · have hs := c1 hk
      have hnot : ¬ (((e.drainClose k).st.stack j).Drained ∧ j ∈ ks) := by
        rw [hs]
        exact fun h => not_drained_shutDown _ h.1
      exact ⟨fun _ => (h2 hnot).trans hs, fun h => absurd ⟨hk.1, hk.2 ▸ List.mem_cons_self⟩ h⟩
    · have hs := c2 hk
      rw [hs] at h1 h2
      refine ⟨fun ⟨hd, hm⟩ => h1 ⟨hd, (List.mem_cons.mp hm).resolve_left fun hj => hk ⟨hd, hj⟩⟩, fun h => h2 fun hc => ?_⟩
      exact h ⟨hc.1, List.mem_cons_of_mem k hc.2⟩

/-! ## TRACK CLEAR (R100) -/

/-- The state of TRACK CLEAR in which stacks in DRAIN close: queue empty, claims released, gradings given up. -/
def trackEmptied (s : State) : State :=
  let t := s.tracking.queue.foldl (fun s e => releaseClaims e s) (s.abandonAll (s.tracking.queue.map (·.sheet)))
  startStall (t.setTracking { t.tracking with state := .running, queue := [] })

/-- TRACK CLEAR after the stacks in DRAIN have closed. -/
def trackDrained (s : State) : State :=
  ((allocatedStacks s.tracking.queue).foldl StackEvent.drainClose (.of (trackEmptied s))).st

theorem clearTracking_selectsOnly (s : State) : SelectsOnly (trackDrained s) (clearTracking s) :=
  (StackEvent.grantChecks_selectsOnly _ _).trans (StackEvent.settle_selectsOnly _)

theorem startStall_frame (s : State) : startStall s = s.setTracking { s.tracking with
    stallTimer := if s.tracking.state = .running ∧ s.pins.convRun ∧ s.tracking.stallLimit ≠ 0 then some 0
      else s.tracking.stallTimer } := by
  by_cases h : s.tracking.state = .running ∧ s.pins.convRun ∧ s.tracking.stallLimit ≠ 0
  · rw [if_pos h, startStall_started h.1 h.2.1 h.2.2]
  · rw [if_neg h]
    refine startStall_idle ?_
    by_contra hc
    simp only [not_or, Bool.not_eq_false] at hc
    refine h ⟨?_, hc.2⟩
    cases hs : s.tracking.state with
    | running => rfl
    | faulted => exact absurd hs hc.1

/-- What the emptied tracking leaves of the state. -/
theorem trackEmptied_frame (s : State) : ∃ v,
    trackEmptied s = ((s.abandonAll (s.tracking.queue.map (·.sheet))).setSk { s.sk with stack := v }).setTracking
      { s.tracking with
        state := .running, queue := [],
        stallTimer := if s.pins.convRun ∧ s.tracking.stallLimit ≠ 0 then some 0 else s.tracking.stallTimer } := by
  obtain ⟨g, hg⟩ := s.abandonAll_only_grading (s.tracking.queue.map (·.sheet))
  obtain ⟨v, hv⟩ := releaseAllClaims_only s.tracking.queue (s.abandonAll (s.tracking.queue.map (·.sheet)))
  refine ⟨v, ?_⟩
  rw [trackEmptied, startStall_frame]
  dsimp only
  rw [hv, hg]
  simp [State.setTracking, State.setSk]

theorem trackEmptied_stack (s : State) (k : StackId) : (trackEmptied s).stack k = (s.stack k).without
    (s.tracking.queue.countP (TrackEntry.claims k)) (s.tracking.queue.countP (TrackEntry.reserves k)) := by
  rw [trackEmptied, startStall_frame]
  exact (stack_releaseAllClaims k s.tracking.queue _).trans (by rw [State.stack_abandonAll])

theorem mem_allocatedStacks_iff (q : List TrackEntry) (k : StackId) :
    k ∈ allocatedStacks q ↔ ∃ e ∈ q, e.claims k = true := by
  rw [allocatedStacks, List.mem_filter, List.any_eq_true]
  exact and_iff_right (List.mem_finRange k)

theorem GivesUp.of_jobs {rs : List SheetRecord} {t' : State} (h : GivesUp rs s t) (hj : ∀ v, t'.job v = t.job v) :
    GivesUp rs s t' := by
  intro v
  have hv := h v
  rw [← hj v] at hv
  exact hv

/-- What TRACK CLEAR leaves of the state when the stacks in DRAIN have closed. -/
theorem trackDrained_frame (s : State) : ∃ v w,
    trackDrained s = { s with
      grading := (s.abandonAll (s.tracking.queue.map (·.sheet))).grading, sk := { s.sk with stack := v }, ports := w,
      tracking := { s.tracking with
        state := .running, queue := [],
        stallTimer := if s.pins.convRun ∧ s.tracking.stallLimit ≠ 0 then some 0 else s.tracking.stallTimer } } ∧
    ∀ q n, n ≠ Notice.stackEmpty.number → (w.get q).notices.getLsbD n = (s.port q).notices.getLsbD n := by
  obtain ⟨g, hg⟩ := s.abandonAll_only_grading (s.tracking.queue.map (·.sheet))
  obtain ⟨v, hv⟩ := trackEmptied_frame s
  obtain ⟨v', w, hd, hn⟩ := drainCloses_frame (allocatedStacks s.tracking.queue) (.of (trackEmptied s))
  rw [hg] at hv ⊢
  refine ⟨v', w, hd.trans ?_, fun q n hne => (hn q n hne).trans ?_⟩
  · change ({ trackEmptied s with sk := _, ports := w } : State) = _
    rw [hv]
    rfl
  · change (State.port (trackEmptied s) q).notices.getLsbD n = _
    rw [hv]
    rfl

/-- What TRACK CLEAR leaves of a stack when the stacks in DRAIN have closed: without the claims of the entries, and closed if
that leaves it with nothing. -/
theorem trackDrained_stack (s : State) (k : StackId) :
    let x := (s.stack k).without (s.tracking.queue.countP (TrackEntry.claims k))
      (s.tracking.queue.countP (TrackEntry.reserves k))
    (x.Drained ∧ (∃ e ∈ s.tracking.queue, e.claims k = true) → (trackDrained s).stack k = x.shutDown) ∧
    (¬ (x.Drained ∧ ∃ e ∈ s.tracking.queue, e.claims k = true) → (trackDrained s).stack k = x) := by
  have h := drainCloses_stack (allocatedStacks s.tracking.queue) (.of (trackEmptied s)) k
  rw [mem_allocatedStacks_iff] at h
  change (((trackEmptied s).stack k).Drained ∧ _ → (trackDrained s).stack k = ((trackEmptied s).stack k).shutDown) ∧
    (¬ (((trackEmptied s).stack k).Drained ∧ _) → (trackDrained s).stack k = (trackEmptied s).stack k) at h
  rw [trackEmptied_stack] at h
  exact h

/-- TRACK CLEAR answers, whatever it does. -/
theorem exec_trackClear {p : Port} {tag : Byte} (h : Ready s p) : exec (.trackClear p tag []) s =
    .next ((clearTracking (s.hunt p)).answer p Code.trackClear tag .ok
      [b8 s.tracking.queue.length, b8 s.tracking.state.code]) :=
  (receiveRequest_whole (serveTrackClear p tag []) h.whole).trans (serve_ok h rfl)

/-- Settles O42: the parts of `clearTracking` in turn, the claims released, the DRAIN closes and the selections. -/
theorem trackClearReleasesEveryClaim : Obligations.TrackClearReleasesEveryClaim := by
  intro s p tag h
  let u := s.hunt p
  obtain ⟨v, w, hd, hn⟩ := trackDrained_frame u
  have hs := clearTracking_selectsOnly u
  have hfields (k : StackId) := hs.stackFields k
  rw [hd] at hs
  refine ⟨clearTracking u, exec_trackClear h, hs.tracking, hs.routing, hs.intake, hs.tables, hs.caches, hs.pins,
    hs.pending, fun k => ?_, hs.lineFields, fun q n hne => ?_, ?_⟩
  · intro x allocated
    obtain ⟨h1, h2, h3, h4, h5, h6, h7⟩ := hfields k
    obtain ⟨d1, d2⟩ := trackDrained_stack u k
    have hiff : x.state = .drain ∧ x.inventory = [] ∧ allocated = 0 ∧ (∃ e, e ∈ s.tracking.queue ∧ e.claims k = true) ↔
        (x.without (s.tracking.queue.countP (TrackEntry.claims k))
          (s.tracking.queue.countP (TrackEntry.reserves k))).Drained ∧ ∃ e ∈ s.tracking.queue, e.claims k = true :=
      ⟨fun ⟨a, b, c, d⟩ => ⟨⟨a, b, c⟩, d⟩, fun ⟨⟨a, b, c⟩, d⟩ => ⟨a, b, c, d⟩⟩
    by_cases hc : x.state = .drain ∧ x.inventory = [] ∧ allocated = 0 ∧ (∃ e, e ∈ s.tracking.queue ∧ e.claims k = true)
    · rw [d1 (hiff.mp hc)] at h1 h2 h3 h4 h5 h6 h7
      rw [if_pos hc]
      exact ⟨h5, h6, h1, h4, h7, h2, h3⟩
    · rw [d2 (fun hx => hc (hiff.mpr hx))] at h1 h2 h3 h4 h5 h6 h7
      rw [if_neg hc]
      exact ⟨h5, h6, h1, h4, h7, h2, h3⟩
  · rw [State.port, hs.ports]
    refine (hn q n hne).trans ?_
    by_cases hqp : q = p
    · rw [hqp, State.port_hunt_same]
    · rw [State.port_hunt_other s hqp]
  · refine (givesUp_abandonAll u (s.tracking.queue.map (·.sheet))).of_jobs fun v => ?_
    rw [State.job, hs.grading]
    rfl

end Sys2Proof.Machine
end

section
/-!
PROOFS. The requests of the stacks, and landings; the statements StackStateAndAccessRequests, ClearAndCapacityRequests and
LandingJoinsInventory.
-/

namespace Sys2Proof.Machine

variable {s t : State} {e : StackEvent} {k j : StackId} {l : Line} {p : Port} {code tag : Byte} {b : Byte}

/-! ## Stack states (R119) -/

theorem toNat_stack (k : StackId) : (b8 k.val).toNat = k.val := toNat_b8 (Nat.lt_trans k.isLt (by decide))

theorem stackOf_b8 (k : StackId) : stackOf (b8 k.val).toNat = some k := by
  rw [toNat_stack, stackOf_val]

theorem onStack_none (h : 9 < b.toNat) (f : StackId → Reply) (s : State) : onStack [b] s f = refuse s .badValue := by
  simp [onStack, stackOf_eq_none h]

theorem onStack_some (h : stackOf b.toNat = some k) (f : StackId → Reply) (s : State) : onStack [b] s f = f k := by
  simp [onStack, h]

theorem onStack_length {body : List Byte} (h : body.length ≠ 1) (f : StackId → Reply) (s : State) :
    onStack body s f = refuse s .badRequest := if_pos h

/-- The reply of a request that sets a stack's state: refused by a FAULTED stack, and otherwise the state before. -/
def stateReply (k : StackId) (s t : State) : Reply :=
  if (s.stack k).state = .faulted then refuse s .wrongState else okReply t [b8 (s.stack k).state.code]

theorem openStack_eq (h : stackOf b.toNat = some k) (s : State) :
    openStack [b] s = stateReply k s ((StackEvent.of s).setState k .opened).settle := onStack_some h _ s

theorem drainStack_eq (h : stackOf b.toNat = some k) (s : State) :
    drainStack [b] s = stateReply k s (((StackEvent.of s).setState k .drain).drainClose k).settle := onStack_some h _ s

theorem closeStack_eq (h : stackOf b.toNat = some k) (s : State) :
    closeStack [b] s = stateReply k s ((StackEvent.of s).setState k .closed).settle := onStack_some h _ s

theorem stateReply_faulted (h : (s.stack k).state = .faulted) (t : State) :
    stateReply k s t = refuse s .wrongState := if_pos h

theorem stateReply_ok (h : (s.stack k).state ≠ .faulted) (t : State) :
    stateReply k s t = okReply t [b8 (s.stack k).state.code] := if_neg h

/-- A state set that leaves an event to settle: the waiters are gone from a stack that no longer serves. -/
theorem setState_shut_settles {new : StackState} (h : (e.st.stack k).state ≠ new) (hn : new = .closed ∨ new = .faulted) :
    ((e.setState k new).settle.stack k).waiters = ⟨none, none⟩ := by
  have hs : ((e.setState k new).st.stack k).serving = false := by
    rw [StackEvent.setState_shut h hn]
    rcases hn with rfl | rfl <;> simp [Stack.serving]
  rw [StackEvent.settle_stack_shut hs, StackEvent.setState_shut h hn]
  simp

theorem settle_of (s : State) : (StackEvent.of s).settle = s := by
  simp [StackEvent.settle, StackEvent.selects, StackEvent.of, PerLine.get]

theorem setState_settle_same {new : StackState} (h : (s.stack k).state = new) :
    ((StackEvent.of s).setState k new).settle = s := by
  rw [StackEvent.setState_same (e := .of s) h, settle_of]

theorem setState_settles (s : State) (k : StackId) (new : StackState) :
    SelectsOnly (s.setStack k { s.stack k with state := new }) ((StackEvent.of s).setState k new).settle :=
  ((StackEvent.of s).setState_selectsOnly k new).trans (StackEvent.settle_selectsOnly _)

theorem Unwatched.hunt (h : Unwatched s) (p : Port) : Unwatched (s.hunt p) := h

theorem drain_st (s : State) (k : StackId) :
    ((StackEvent.of s).setState k .drain).st = s.setStack k { s.stack k with state := .drain } := by
  by_cases h : (s.stack k).state = .drain
  · rw [StackEvent.setState_same (e := .of s) h, ← h]
    exact (setStack_self s k).symm
  · rw [StackEvent.setState_serving (e := .of s) h (.inr rfl)]
    rfl

theorem drain_stack (s : State) (k : StackId) :
    ((StackEvent.of s).setState k .drain).st.stack k = { s.stack k with state := .drain } := by
  rw [drain_st, State.stack_setStack_same]

/-- The event of a stack put into DRAIN with nothing in it: it closes with STACK_EMPTY. -/
theorem drain_empties (h : (s.stack k).inventory = []) (ha : (s.stack k).allocated = 0) :
    SelectsOnly ((s.setStack k { s.stack k with state := .closed }).raise .stackEmpty)
      (((StackEvent.of s).setState k .drain).drainClose k).settle ∧
    ((((StackEvent.of s).setState k .drain).drainClose k).settle.stack k).waiters = ⟨none, none⟩ := by
  have hd : (((StackEvent.of s).setState k .drain).st.stack k).Drained := by
    rw [drain_stack]
    exact ⟨rfl, h, ha⟩
  obtain ⟨hw, hs⟩ := StackEvent.drainClose_waiters hd
  have hshut : ((((StackEvent.of s).setState k .drain).drainClose k).st.stack k).serving = false := by
    rw [Stack.serving, hs]
  rw [StackEvent.settle_stack_shut hshut]
  have hc := (StackEvent.drainClose_selectsOnly hd).trans (StackEvent.settle_selectsOnly _)
  rw [drain_stack, drain_st, setStack_setStack] at hc
  exact ⟨hc, hw⟩

theorem drain_stays (h : ¬ ((s.stack k).inventory = [] ∧ (s.stack k).allocated = 0)) :
    ((StackEvent.of s).setState k .drain).drainClose k = (StackEvent.of s).setState k .drain := by
  refine StackEvent.drainClose_other fun hd => h ?_
  rw [drain_stack] at hd
  exact ⟨hd.2.1, hd.2.2⟩

/-! ## Access (R122) -/

theorem removeLine_selectsOnly (e : StackEvent) (k : StackId) (l : Line) : SelectsOnly e.st (e.removeLine k l).st := by
  unfold StackEvent.removeLine
  dsimp only
  split
  · exact leaveWaiters_selectsOnly ..
  · exact .refl _

theorem removeLine_stack (e : StackEvent) (k : StackId) (l : Line) :
    ((e.removeLine k l).st.stack k).access = (e.st.stack k).access ∧
    ((e.removeLine k l).st.stack k).holder = (e.st.stack k).holder ∧
    (∀ m, (e.st.stack k).waiters.get m = none → ((e.removeLine k l).st.stack k).waiters.get m = none) ∧
    ((e.st.stack k).access.get l = false → ((e.removeLine k l).st.stack k).waiters.get l = none) := by
  unfold StackEvent.removeLine
  dsimp only
  split
  · rw [leaveWaiters, State.stack_setStack_same]
    refine ⟨rfl, rfl, fun m hm => ?_, fun _ => by simp⟩
    rw [set_get]
    split
    · rfl
    · exact hm
  · next hn =>
    refine ⟨rfl, rfl, fun _ h => h, fun ha => ?_⟩
    simpa [ha] using hn

theorem removeLine_unwaited (hw : (e.st.stack k).waiters = ⟨none, none⟩) (l : Line) : e.removeLine k l = e := by
  unfold StackEvent.removeLine
  dsimp only
  rw [hw]
  cases l <;> simp [PerLine.get]

/-- The event at a stack whose access mask is set, before the lines taken out leave it. -/
def accessEvent (k : StackId) (m : PerLine Bool) (s : State) : StackEvent :=
  (StackEvent.of (s.setStack k { s.stack k with access := m })).announce

theorem changeAccess_eq (k : StackId) (m : PerLine Bool) (s : State) :
    changeAccess k m s = (((accessEvent k m s).removeLine k .a).removeLine k .b).settle := rfl

theorem accessEvent_stack (k : StackId) (m : PerLine Bool) (s : State) :
    (accessEvent k m s).st.stack k = { s.stack k with access := m } := State.stack_setStack_same ..

theorem changeAccess_selectsOnly (k : StackId) (m : PerLine Bool) (s : State) :
    SelectsOnly (s.setStack k { s.stack k with access := m }) (changeAccess k m s) :=
  (removeLine_selectsOnly (accessEvent k m s) k .a).trans ((removeLine_selectsOnly _ k .b).trans
    (StackEvent.settle_selectsOnly _))

theorem changeAccess_unwatched (h : Unwatched s) (k : StackId) (m : PerLine Bool) :
    changeAccess k m s = s.setStack k { s.stack k with access := m } := by
  have hw : ((accessEvent k m s).st.stack k).waiters = ⟨none, none⟩ := by
    rw [accessEvent_stack]
    exact h.1 k
  rw [changeAccess_eq, removeLine_unwaited hw, removeLine_unwaited hw]
  exact StackEvent.settle_quiet rfl h.2

/-- A line taken out of the mask no longer waits there, and a holder keeps its pick. -/
theorem changeAccess_stack (k : StackId) (m : PerLine Bool) (s : State) :
    (∀ l, m.get l = false → ((changeAccess k m s).stack k).waiters.get l = none) ∧
    (∀ l, (s.stack k).holder = some l → ((changeAccess k m s).stack k).holder = some l) := by
  obtain ⟨a1, h1, w1, b1⟩ := removeLine_stack (accessEvent k m s) k .a
  obtain ⟨a2, h2, w2, b2⟩ := removeLine_stack ((accessEvent k m s).removeLine k .a) k .b
  have hm : ((((accessEvent k m s).removeLine k .a).removeLine k .b).st.stack k).access = m := by
    rw [a2, a1, accessEvent_stack]
  rw [changeAccess_eq]
  refine ⟨fun l hl => StackEvent.settle_barred (by rw [hm, hl]) ?_, fun l hl => StackEvent.settle_holder ?_⟩
  · cases l with
    | a => exact w2 .a (b1 (by rw [accessEvent_stack]; exact hl))
    | b => exact b2 (by rw [a1, accessEvent_stack]; exact hl)
  · rw [h2, h1, accessEvent_stack]
    exact hl

theorem setStackAccess_eq (k : StackId) (a b : Bool) (s : State) :
    setStackAccess [b8 k.val, b8 (a.toNat + 2 * b.toNat)] s =
      okReply (changeAccess k ⟨a, b⟩ s) [accessByte (s.stack k).access] := by
  have hm : accessOf (b8 (a.toNat + 2 * b.toNat)).toNat = some ⟨a, b⟩ := by cases a <;> cases b <;> rfl
  simp [setStackAccess, hm, stackOf_val, toNat_stack]

theorem setStackAccess_badValue {b m : Byte} (h : 9 < b.toNat ∨ 3 < m.toNat) (s : State) :
    setStackAccess [b, m] s = refuse s .badValue := by
  unfold setStackAccess
  rw [if_neg (by simp)]
  split
  · next k m' hk hm =>
    rcases h with h | h
    · rw [byteAt_cons_zero, stackOf_eq_none h] at hk
      cases hk
    · have : accessOf m.toNat = none := if_neg (by omega)
      rw [byteAt_cons_succ, byteAt_cons_zero, this] at hm
      cases hm
  · rfl

theorem accessByte_eq (m : PerLine Bool) :
    accessByte m = b8 ((if m.a then 1 else 0) + (if m.b then 2 else 0)) := by
  obtain ⟨a, b⟩ := m
  cases a <;> cases b <;> rfl

/-- Settles O44: each request of a stack's state by the state before, and the access mask. -/
theorem stackStateAndAccessRequests : Obligations.StackStateAndAccessRequests := by
  refine ⟨fun s p tag b hr => ?_, fun s p tag hr => ⟨fun b m hb => ?_, fun k a b => ?_⟩⟩
  · intro h requests
    have refused {st : Status} (ho : openStack [b] h = refuse h st) (hd : drainStack [b] h = refuse h st)
        (hc : closeStack [b] h = refuse h st) :
        ∀ e, e ∈ requests → exec e.1 s = .next (s.answered p e.2 tag st []) :=
      forall_mem_cons_of ((receiveRequest_whole (serveOpenStack p tag [b]) hr.whole).trans (serve_refuse hr ho))
        (forall_mem_cons_of ((receiveRequest_whole (serveDrainStack p tag [b]) hr.whole).trans (serve_refuse hr hd))
          (forall_mem_cons_of ((receiveRequest_whole (serveCloseStack p tag [b]) hr.whole).trans (serve_refuse hr hc))
            nofun))
    refine ⟨fun hb => refused (onStack_none hb ..) (onStack_none hb ..) (onStack_none hb ..), fun k hk => ?_⟩
    intro x answers empties
    have opens (hx : x.state ≠ .faulted) : answers (.openStack p tag [b], Code.openStack)
        ((StackEvent.of h).setState k .opened).settle :=
      (receiveRequest_whole (serveOpenStack p tag [b]) hr.whole).trans
        (serve_ok hr ((openStack_eq hk h).trans (stateReply_ok (s := h) hx _)))
    have drains (hx : x.state ≠ .faulted) : answers (.drainStack p tag [b], Code.drainStack)
        (((StackEvent.of h).setState k .drain).drainClose k).settle :=
      (receiveRequest_whole (serveDrainStack p tag [b]) hr.whole).trans
        (serve_ok hr ((drainStack_eq hk h).trans (stateReply_ok (s := h) hx _)))
    have closes (hx : x.state ≠ .faulted) : answers (.closeStack p tag [b], Code.closeStack)
        ((StackEvent.of h).setState k .closed).settle :=
      (receiveRequest_whole (serveCloseStack p tag [b]) hr.whole).trans
        (serve_ok hr ((closeStack_eq hk h).trans (stateReply_ok (s := h) hx _)))
    refine ⟨fun hx => ?_, fun hx => ?_, fun hx => ?_, fun hx he => ?_, fun hx => ?_, fun hx => ?_, fun hx he => ?_,
      fun hx he => ?_, fun hu hx => ?_⟩
    · exact refused ((openStack_eq hk h).trans (stateReply_faulted (s := h) hx _))
        ((drainStack_eq hk h).trans (stateReply_faulted (s := h) hx _)) ((closeStack_eq hk h).trans (stateReply_faulted (s := h) hx _))
    · have ho := opens (by rw [hx]; nofun)
      rwa [setState_settle_same (s := h) hx] at ho
    · have hc := closes (by rw [hx]; nofun)
      rwa [setState_settle_same (s := h) hx] at hc
    · have hd := drains (by rw [hx]; nofun)
      rwa [drain_stays (s := h) he, setState_settle_same (s := h) hx] at hd
    · exact ⟨_, opens (by rcases hx with hx | hx <;> rw [hx] <;> nofun), setState_settles h k .opened⟩
    · have hc : x.state ≠ .closed := by rcases hx with hx | hx <;> rw [hx] <;> nofun
      exact ⟨_, closes (by rcases hx with hx | hx <;> rw [hx] <;> nofun), setState_settles h k .closed,
        setState_shut_settles (e := .of h) hc (.inl rfl)⟩
    · refine ⟨_, drains (by rcases hx with hx | hx <;> rw [hx] <;> nofun), ?_⟩
      rw [drain_stays (s := h) he]
      exact setState_settles h k .drain
    · obtain ⟨h1, h2⟩ := drain_empties (s := h) (k := k) he.1 he.2
      exact ⟨_, drains hx, h1, h2⟩
    · have hc := closes (by rcases hx with hx | hx <;> rw [hx] <;> nofun)
      obtain ⟨hs, ht⟩ := (StackEvent.Unwatched.of (hu.hunt p)).setState k .closed
      rwa [hs.settle, ht] at hc
  · exact (receiveRequest_whole (serveSetStackAccess p tag [b, m]) hr.whole).trans
      (serve_refuse hr (setStackAccess_badValue hb _))
  · intro x m set old
    obtain ⟨hw, hh⟩ := changeAccess_stack k m (s.hunt p)
    refine ⟨changeAccess k m (s.hunt p), ?_, changeAccess_selectsOnly k m (s.hunt p),
      fun hu => changeAccess_unwatched (hu.hunt p) k m, hw, hh⟩
    rw [← accessByte_eq]
    exact (receiveRequest_whole (serveSetStackAccess p tag _) hr.whole).trans (serve_ok hr (setStackAccess_eq k a b _))

/-! ## Landings (R128, R129) -/

theorem pushFalling_none (h : (s.stack k).falling = []) (u : Bool) : pushFalling k u s = s := by
  simp [pushFalling, h]

theorem pushFalling_cons {f : Falling} {rest : List Falling} (h : (s.stack k).falling = f :: rest) (u : Bool) :
    pushFalling k u s = s.setStack k { s.stack k with
      falling := rest, allocated := (s.stack k).allocated - 1,
      inventory := { f.sheet with flags := { f.sheet.flags with unconfirmed := f.sheet.flags.unconfirmed || u } } ::
        (s.stack k).inventory } := by
  simp [pushFalling, h]

theorem pushFalling_confirmed {f : Falling} {rest : List Falling} (h : (s.stack k).falling = f :: rest) :
    pushFalling k false s = s.setStack k { s.stack k with
      falling := rest, inventory := f.sheet :: (s.stack k).inventory, allocated := (s.stack k).allocated - 1 } := by
  simp [pushFalling_cons h]

theorem landOn_selectsOnly (k : StackId) (s : State) : SelectsOnly (pushFalling k false s) (landOn k s) :=
  (((StackEvent.of (pushFalling k false s)).announceTo (s.stack k).access).grantCheck_selectsOnly k).trans
    (StackEvent.settle_selectsOnly _)

theorem landOn_unwatched (h : Unwatched (pushFalling k false s)) : landOn k s = pushFalling k false s := by
  have he := (StackEvent.Unwatched.of h).announceTo (s.stack k).access
  rw [landOn, he.grantCheck, he.settle]
  rfl

theorem missedDue_iff {f : Falling} {rest : List Falling} (h : (s.stack k).falling = f :: rest) :
    missedDue k s = true ↔ s.sk.landingLimit ≤ f.timer := by
  simp [missedDue, h]

/-- Settles O46: a landing and a missed landing push the oldest falling record, and the rest are selections. -/
theorem landingJoinsInventory : Obligations.LandingJoinsInventory := by
  intro s k hr x
  refine ⟨fun hf => ⟨landOn k s, EventOf.taken (.landing k) hr, ?_, fun hu => ?_⟩, fun f rest hf => ?_, fun hf => ?_⟩
  · have h := landOn_selectsOnly k s
    rwa [pushFalling_none hf] at h
  · rw [landOn_unwatched (by rwa [pushFalling_none hf]), pushFalling_none hf]
  · intro landed pushed missed
    have hl : pushFalling k false s = landed := pushFalling_confirmed hf
    refine ⟨⟨landOn k s, EventOf.taken (.landing k) hr, ?_, fun hu => ?_⟩, fun ht => ?_, fun ht => ?_⟩
    · rw [← hl]
      exact landOn_selectsOnly k s
    · rw [landOn_unwatched (hl ▸ StackEvent.Unwatched.setStack hu _ (hu.1 k)), hl]
    · rw [EventOf.taken (.missedLanding k) hr, missLanding,
        if_neg (fun hc => absurd ((missedDue_iff hf).mp hc) (Nat.not_le.mpr ht))]
    · let told := ((pushFalling k true s).raise .missedLanding).raise .stackFault
      have hstack : told.stack k = { x with
          falling := rest, inventory := pushed :: x.inventory, allocated := x.allocated - 1 } := by
        simp [told, pushFalling_cons hf, pushed, x]
      have hst : told.setStack k { told.stack k with state := .faulted } = missed := by
        rw [hstack]
        simp only [told, pushFalling_cons hf, Bool.or_true, missed, pushed, x]
        exact congrArg (fun y => (State.raise y .missedLanding).raise .stackFault) (setStack_setStack s k _ _)
      refine ⟨((StackEvent.of told).setState k .faulted).settle, ?_, ?_, fun hu => ?_, fun hx => ?_⟩
      · rw [EventOf.taken (.missedLanding k) hr, missLanding, if_pos ((missedDue_iff hf).mpr ht)]
      · rw [← hst]
        exact setState_settles told k .faulted
      · have htold : Unwatched told := by
          change Unwatched (pushFalling k true s)
          rw [pushFalling_cons hf]
          exact StackEvent.Unwatched.setStack hu _ (hu.1 k)
        obtain ⟨h1, h2⟩ := (StackEvent.Unwatched.of htold).setState k .faulted
        rw [h1.settle, h2]
        exact hst
      · refine setState_shut_settles (e := .of told) ?_ (.inr rfl)
        change (told.stack k).state ≠ _
        rw [hstack]
        exact hx
  · rw [EventOf.taken (.missedLanding k) hr, missLanding, missedDue, hf]
    rfl

/-! ## Faults, inventory and capacity (R120, R121) -/

theorem clearStackFault_eq (k : StackId) (s : State) : clearStackFault [b8 k.val] s =
    if (s.stack k).state ≠ .faulted then refuse s .wrongState
    else okReply ((StackEvent.of s).setState k .closed).settle [] := onStack_some (stackOf_b8 k) _ s

theorem clearStack_eq (k : StackId) (s : State) : clearStack [b8 k.val] s =
    if (s.stack k).state ≠ .closed ∨ (s.stack k).holder.isSome then refuse s .wrongState
    else okReply ((s.abandonAll (s.stack k).inventory).setStack k { s.stack k with inventory := [] })
      (b16 (s.stack k).inventory.length) := onStack_some (stackOf_b8 k) _ s

theorem setStackCapacity_eq (k : StackId) (hi lo : Byte) (s : State) : setStackCapacity [b8 k.val, hi, lo] s =
    if hi.toNat * 256 + lo.toNat < 1 ∨ 400 < hi.toNat * 256 + lo.toNat ∨
        hi.toNat * 256 + lo.toNat < (s.stack k).inventory.length + (s.stack k).allocated then refuse s .badValue
    else okReply (s.setStack k { s.stack k with capacity := hi.toNat * 256 + lo.toNat }) (b16 (s.stack k).capacity) := by
  unfold setStackCapacity
  rw [if_neg (by simp), byteAt_cons_zero, stackOf_b8]
  rfl

/-- Settles O45: each request by its refusals and then by the stack it leaves. -/
theorem clearAndCapacityRequests : Obligations.ClearAndCapacityRequests := by
  refine ⟨fun s p tag h => ⟨fun body hl => ⟨?_, ?_⟩, fun b hb => ⟨?_, ?_⟩, fun k => ?_⟩,
    fun s p tag h => ⟨fun body hl => ?_, fun b hi lo hb => ?_, fun k hi lo => ?_⟩⟩
  · exact (receiveRequest_whole _ h.whole).trans (serve_refuse h (onStack_length hl ..))
  · exact (receiveRequest_whole _ h.whole).trans (serve_refuse h (onStack_length hl ..))
  · exact (receiveRequest_whole _ h.whole).trans (serve_refuse h (onStack_none hb ..))
  · exact (receiveRequest_whole _ h.whole).trans (serve_refuse h (onStack_none hb ..))
  · intro x
    refine ⟨fun hx => ?_, fun hx => ?_, fun hx => ?_, fun hx hh => ?_⟩
    · exact (receiveRequest_whole _ h.whole).trans (serve_refuse h ((clearStackFault_eq k _).trans (if_pos hx)))
    · exact ⟨_, setState_settles (s.hunt p) k .closed, (receiveRequest_whole _ h.whole).trans
        (serve_ok h ((clearStackFault_eq k _).trans (if_neg (not_not.mpr hx))))⟩
    · refine (receiveRequest_whole _ h.whole).trans (serve_refuse h ((clearStack_eq k _).trans (if_pos (hx.imp_right ?_))))
      exact Option.isSome_iff_ne_none.mpr
    · intro cleared
      have hexec : exec (.clearStack p tag [b8 k.val]) s = .next cleared := by
        refine (receiveRequest_whole _ h.whole).trans (serve_done h ((clearStack_eq k _).trans ?_))
        rw [if_neg (by simp [x] at hx hh; simp [hx, hh])]
        simp [x]
      refine ⟨hexec, (givesUp_abandonAll s x.inventory).of_jobs fun _ => rfl, fun f rest hf => ?_⟩
      have hstack : cleared.stack k = { x with inventory := [] } := by
        change State.stack ((s.abandonAll x.inventory).setStack k _) k = _
        exact State.stack_setStack_same ..
      have hfc : (cleared.stack k).falling = f :: rest := by rw [hstack]; exact hf
      have hrc : cleared.pins.resetHeld = false := by
        obtain ⟨g, hg⟩ := s.abandonAll_only_grading x.inventory
        change (s.abandonAll x.inventory).pins.resetHeld = false
        rw [hg]
        exact h.running
      refine ⟨landOn k cleared, EventOf.taken (.landing k) hrc, ?_⟩
      rw [((landOn_selectsOnly k cleared).stackFields k).2.2.2.1, pushFalling_confirmed hfc, State.stack_setStack_same,
        hstack]
  · exact (receiveRequest_whole _ h.whole).trans (serve_refuse h (if_pos hl))
  · refine (receiveRequest_whole _ h.whole).trans (serve_refuse h ?_)
    unfold setStackCapacity
    rw [if_neg (by simp), byteAt_cons_zero, stackOf_eq_none hb]
  · intro x c
    refine ⟨fun hc => ?_, fun h1 h2 h3 => ⟨?_, fun he => ?_, fun hlt ho => ?_⟩⟩
    · exact (receiveRequest_whole _ h.whole).trans (serve_refuse h ((setStackCapacity_eq k hi lo _).trans (if_pos hc)))
    · refine (receiveRequest_whole _ h.whole).trans (serve_done h ((setStackCapacity_eq k hi lo _).trans ?_))
      have hok : ¬ (c < 1 ∨ 400 < c ∨ c < x.inventory.length + x.allocated) := by omega
      exact if_neg hok
    · rw [State.stack_setStack_same, Stack.eligible_eq_false_iff]
      exact fun hc => absurd hc.2 (Nat.not_lt.mpr he.ge)
    · rw [State.stack_setStack_same, Stack.eligible_iff]
      exact ⟨ho, hlt⟩

end Sys2Proof.Machine
end

section
/-!
PROOFS. The offer of a free top and the selection of a stack; the statement GrantOffersTopInOrder.
-/

namespace Sys2Proof.Machine

variable {s t : State} {e : StackEvent} {k j : StackId} {l : Line} {d : Draw} {g : GradeSet}

/-! ## Grades at the top (R132, R158) -/

theorem drawGrade_eq_some_iff (c : SheetClass) (i : Fin 5) : drawGrade c = some i ↔ c.code.val = i.val := by
  cases c <;> simp [drawGrade, SheetClass.code, Fin.ext_iff] <;> omega

/-- The code of the class of a stack's top record. -/
def Stack.topCode (x : Stack) : Option Nat := x.inventory.head?.bind fun r => r.cls.map fun c => c.code.val

theorem Stack.topGrade_eq_some_iff (x : Stack) (i : Fin 5) : x.topGrade = some i ↔ x.topCode = some i.val := by
  simp only [Stack.topGrade, Stack.topCode, Option.bind_eq_some_iff, Option.map_eq_some_iff, drawGrade_eq_some_iff]

theorem Stack.topIn_iff (x : Stack) (g : GradeSet) :
    x.topIn g = true ↔ ∃ n, x.topCode = some n ∧ n < 5 ∧ g.getLsbD n = true := by
  simp only [Stack.topIn, Option.any_eq_true, Stack.topGrade_eq_some_iff]
  exact ⟨fun ⟨i, h, hg⟩ => ⟨i.val, h, i.isLt, hg⟩, fun ⟨n, h, hn, hg⟩ => ⟨⟨n, hn⟩, h, hg⟩⟩

theorem Stack.topIn_record_iff (x : Stack) (g : GradeSet) : x.topIn g = true ↔ ∃ r rest c,
    x.inventory = r :: rest ∧ r.cls = some c ∧ c.code.val < 5 ∧ g.getLsbD c.code.val = true := by
  rw [Stack.topIn_iff]
  constructor
  · rintro ⟨n, h, hn, hg⟩
    obtain ⟨r, hr, hm⟩ := Option.bind_eq_some_iff.mp h
    obtain ⟨c, hc, rfl⟩ := Option.map_eq_some_iff.mp hm
    obtain ⟨rest, hrest⟩ := List.head?_eq_some_iff.mp hr
    exact ⟨r, rest, c, hrest, hc, hn, hg⟩
  · rintro ⟨r, rest, c, hi, hc, hn, hg⟩
    exact ⟨c.code.val, by simp [Stack.topCode, hi, hc], hn, hg⟩

/-! ## The offer (R132) -/

section Offer

variable {ls : List Line}

theorem offer_absent (h : (e.st.stack k).waiters.get l = none) :
    StackEvent.offer k (l :: ls) e = StackEvent.offer k ls e := by
  rw [StackEvent.offer, h]

theorem offer_granted (h : (e.st.stack k).waiters.get l = some g) (ht : (e.st.stack k).topIn g = true) :
    StackEvent.offer k (l :: ls) e = { e with st := beginPick l k e.st } := by
  rw [StackEvent.offer, h]
  exact if_pos ht

/-- A waiter withdrawn from a stack and told to reselect. -/
def StackEvent.withdrawn (e : StackEvent) (l : Line) (k : StackId) : StackEvent :=
  { e with st := leaveWaiters l k e.st, told := e.told.set l true }

theorem offer_withdrawn (h : (e.st.stack k).waiters.get l = some g) (ht : (e.st.stack k).topIn g = false) :
    StackEvent.offer k (l :: ls) e = StackEvent.offer k ls (e.withdrawn l k) := by
  rw [StackEvent.offer, h]
  exact if_neg (by simp [ht])

theorem withdrawn_stack (e : StackEvent) (l : Line) (k : StackId) : (e.withdrawn l k).st.stack k =
    { e.st.stack k with waiters := (e.st.stack k).waiters.set l none } := State.stack_setStack_same ..

theorem grantCheck_busy (h : ¬ ((e.st.stack k).free = true ∧ (e.st.stack k).serving = true ∧ e.st.estop = false)) :
    e.grantCheck k = e := by
  refine if_neg fun hc => h ?_
  simpa [and_assoc] using hc

theorem grantCheck_offers (hf : (e.st.stack k).free = true) (hs : (e.st.stack k).serving = true)
    (he : e.st.estop = false) :
    e.grantCheck k = StackEvent.offer k (offerOrder e.st.sk.priority (e.st.stack k).lastGrant) e :=
  if_pos (by simp [hf, hs, he])

/-- The line that a free top is offered to first (R132). -/
def firstOffered (p : PickPriority) (last : Option Line) : Line :=
  match p with
  | .fixedA => .a
  | .fixedB => .b
  | .rotating => if last = some .a then .b else .a

theorem offerOrder_eq (p : PickPriority) (last : Option Line) :
    offerOrder p last = [firstOffered p last, otherLine (firstOffered p last)] := by
  cases p <;> rcases last with _ | l <;> first | rfl | (cases l <;> rfl)

end Offer

theorem firstOffered_of {p : PickPriority} {last : Option Line} (h : p = (if l = .a then .fixedA else .fixedB) ∨
    (p = .rotating ∧ (last = some (otherLine l) ∨ (last = none ∧ l = .a)))) : firstOffered p last = l := by
  rcases h with rfl | ⟨rfl, rfl | ⟨rfl, rfl⟩⟩
  · cases l <;> rfl
  · cases l <;> rfl
  · rfl

/-- A landing on a stack whose top it frees, where the first waiter offered that may take the record is line `l`. -/
theorem landOn_granted {f : Falling} {c : SheetClass} (he : s.estop = false) (hs : ∀ m, (s.line m).activity ≠ .starved)
    (hf : (s.stack k).falling = [f]) (hr : (s.stack k).reservations = 0) (hh : (s.stack k).holder = none)
    (ho : (s.stack k).state = .opened ∨ (s.stack k).state = .drain) (hw : (s.stack k).waiters.get l = some g)
    (hc : f.sheet.cls = some c) (h5 : c.code.val < 5) (hg : g.getLsbD c.code.val = true)
    (hfirst : (s.stack k).waiters.get (otherLine l) = none ∨
      firstOffered s.sk.priority (s.stack k).lastGrant = l) :
    landOn k s = beginPick l k (pushFalling k false s) := by
  have hpush := pushFalling_confirmed hf
  let e : StackEvent := (StackEvent.of (pushFalling k false s)).announceTo (s.stack k).access
  have hx : e.st.stack k = { s.stack k with
      falling := [], inventory := f.sheet :: (s.stack k).inventory, allocated := (s.stack k).allocated - 1 } := by
    change (pushFalling k false s).stack k = _
    rw [hpush, State.stack_setStack_same]
  have hwait : (e.st.stack k).waiters.get l = some g := by rw [hx]; exact hw
  have htop : (e.st.stack k).topIn g = true := by
    rw [hx]
    exact (Stack.topIn_record_iff _ g).mpr ⟨f.sheet, _, c, rfl, hc, h5, hg⟩
  have hest : e.st.estop = false := by
    change (pushFalling k false s).estop = false
    rw [hpush]
    exact he
  have hprio : e.st.sk.priority = s.sk.priority := by
    change (pushFalling k false s).sk.priority = _
    rw [hpush]
    rfl
  have hgrant : e.grantCheck k = { e with st := beginPick l k e.st } := by
    rw [grantCheck_offers (by rw [hx, Stack.free_iff]; exact ⟨hr, rfl, hh⟩) (by rw [hx, Stack.serving_iff]; exact ho) hest,
      offerOrder_eq, hx, hprio]
    rcases hfirst with hn | hl
    · have hn' : (e.st.stack k).waiters.get (otherLine l) = none := by rw [hx]; exact hn
      rcases firstOffered s.sk.priority (s.stack k).lastGrant with _ | _ <;> cases l
      · exact offer_granted hwait htop
      · exact (offer_absent hn').trans (offer_granted hwait htop)
      · exact (offer_absent hn').trans (offer_granted hwait htop)
      · exact offer_granted hwait htop
    · rw [hl]
      exact offer_granted hwait htop
  have hline (m : Line) : (e.st.line m) = s.line m := by
    change (pushFalling k false s).line m = _
    rw [hpush]
    rfl
  change (e.grantCheck k).settle = _
  rw [hgrant]
  refine StackEvent.settle_quiet rfl fun m => ?_
  change ((beginPick l k e.st).line m).activity ≠ .starved
  rw [beginPick, line_setLine]
  split
  · nofun
  · rw [State.line_setStack, hline]
    exact hs m

/-- Settles O47: the check acts on a free top and is the offer to two lines, each absent, granted or withdrawn; a landing
makes it. -/
theorem grantOffersTopInOrder : Obligations.GrantOffersTopInOrder := by
  refine ⟨fun e k => ?_, fun s k l f g c hr he hs => ?_⟩
  · intro s x free first second accepts absent passes fails withdrawn granted
    have hfree : free ↔ (e.st.stack k).free = true ∧ (e.st.stack k).serving = true ∧ e.st.estop = false := by
      rw [Stack.free_iff, Stack.serving_iff]
      simp only [free, and_assoc]
      rfl
    have hacc (g : GradeSet) : x.topIn g = true ↔ accepts g := Stack.topIn_record_iff x g
    have hnacc {g : GradeSet} (h : ¬ accepts g) : x.topIn g = false := Bool.eq_false_iff.mpr fun hc => h ((hacc g).mp hc)
    have hne : second ≠ first := fun h => otherLine_ne first h.symm
    have hsecond : ((e.withdrawn first k).st.stack k).waiters.get second = x.waiters.get second := by
      rw [withdrawn_stack]
      exact PerLine.get_set_other _ _ hne
    have htop (g : GradeSet) : ((e.withdrawn first k).st.stack k).topIn g = x.topIn g := by
      rw [withdrawn_stack]
      rfl
    refine ⟨fun h => grantCheck_busy fun hc => h (hfree.mpr hc), fun h => ?_⟩
    obtain ⟨h1, h2, h3⟩ := hfree.mp h
    have hcheck : e.grantCheck k = StackEvent.offer k [first, second] e := by
      rw [grantCheck_offers h1 h2 h3, offerOrder_eq]
      rfl
    rw [hcheck]
    refine ⟨fun ⟨g, hg, ha⟩ => ?_, fun hf hs => ?_, fun hf ⟨g, hg, ha⟩ => ?_, fun hf ⟨g, hg, ha⟩ => ?_,
      fun ⟨g, hg, ha⟩ hs => ?_, fun ⟨g, hg, ha⟩ ⟨g', hg', ha'⟩ => ?_, fun ⟨g, hg, ha⟩ ⟨g', hg', ha'⟩ => ?_⟩
    · exact offer_granted hg ((hacc g).mpr ha)
    · rw [offer_absent hf, offer_absent hs, StackEvent.offer]
    · exact (offer_absent hf).trans (offer_granted hg ((hacc g).mpr ha))
    · exact (offer_absent hf).trans (offer_withdrawn hg (hnacc ha))
    · exact (offer_withdrawn hg (hnacc ha)).trans (offer_absent (hsecond.trans hs))
    · exact (offer_withdrawn hg (hnacc ha)).trans
        (offer_granted (hsecond.trans hg') ((htop g').trans ((hacc g').mpr ha')))
    · exact (offer_withdrawn hg (hnacc ha)).trans
        (offer_withdrawn (hsecond.trans hg') ((htop g').trans (hnacc ha')))
  · intro x y hf hres hh ho hw hc h5 hg hfirst
    rw [EventOf.taken (.landing k) hr, landOn_granted he hs hf hres hh ho hw hc h5 hg (hfirst.imp_right firstOffered_of),
      pushFalling_confirmed hf, beginPick]
    simp only [State.stack_setStack_same, setStack_setStack]
    rfl

/-! ## The first-ranked candidate (R158) -/

/-- The condition under which stack `j` ranks before stack `k`: its grade does by the preference, or the grades are equal and
its number is lower. -/
def Precedes (p : Preference) (grade : StackId → Fin 5) (j k : StackId) : Prop :=
  ranksBefore p (grade j) (grade k) = true ∨ (grade j = grade k ∧ j < k)

theorem ranksBefore_asymm {p : Preference} {i j : Fin 5} (h : ranksBefore p i j = true) : ranksBefore p j i = false := by
  cases p <;> simp [ranksBefore] at h ⊢ <;> omega

theorem ranksBefore_irrefl (p : Preference) (i : Fin 5) : ranksBefore p i i = false := by
  cases p <;> simp [ranksBefore]

theorem Precedes.not_after {p : Preference} {grade : StackId → Fin 5} (h : Precedes p grade j k) :
    ranksBefore p (grade k) (grade j) = false := by
  rcases h with h | ⟨h, -⟩
  · exact ranksBefore_asymm h
  · rw [h, ranksBefore_irrefl]

theorem firstRanked_mem {p : Preference} {grade : StackId → Fin 5} : ∀ {ks : List StackId} {k : StackId},
    firstRanked p grade ks = some k → k ∈ ks
  | x :: xs, k, h => by
    unfold firstRanked at h
    split at h
    · obtain rfl := Option.some.inj h
      exact List.mem_cons_self
    · next j hj =>
      split at h
      · obtain rfl := Option.some.inj h
        exact List.mem_cons_of_mem x (firstRanked_mem hj)
      · obtain rfl := Option.some.inj h
        exact List.mem_cons_self

/-- Of stacks in number order, the one that precedes every other is the first-ranked. -/
theorem firstRanked_eq {p : Preference} {grade : StackId → Fin 5} : ∀ {ks : List StackId}, ks.Pairwise (· < ·) →
    k ∈ ks → (∀ j ∈ ks, j ≠ k → Precedes p grade k j) → firstRanked p grade ks = some k
  | x :: xs, hs, hk, hb => by
    obtain ⟨hx, hxs⟩ := List.pairwise_cons.mp hs
    rcases List.mem_cons.mp hk with rfl | hk
    · unfold firstRanked
      split
      · rfl
      · next j hj =>
        have hjm := firstRanked_mem hj
        have hjk : j ≠ k := fun h => Nat.lt_irrefl _ (h ▸ hx j hjm)
        rw [(hb j (List.mem_cons_of_mem k hjm) hjk).not_after, if_neg Bool.false_ne_true]
    · have hlt : x < k := hx k hk
      have ih := firstRanked_eq hxs hk fun j hj => hb j (List.mem_cons_of_mem x hj)
      have hkx : ranksBefore p (grade k) (grade x) = true := by
        rcases hb x List.mem_cons_self (ne_of_lt hlt) with h | ⟨-, h⟩
        · exact h
        · exact absurd h (lt_asymm hlt)
      simp only [firstRanked, ih, hkx, if_true]

theorem allStacks_sorted : allStacks.Pairwise (· < ·) := by decide

theorem mem_allStacks (k : StackId) : k ∈ allStacks := List.mem_finRange k

/-! ## The selection (R158) -/

/-- A stack serves, is open to the line, and its top record is of a grade of the set. -/
def Offered (s : State) (l : Line) (g : GradeSet) (k : StackId) : Prop :=
  (((s.stack k).state = .opened ∨ (s.stack k).state = .drain) ∧ (s.stack k).access.get l = true) ∧
    ∃ n, (s.stack k).topCode = some n ∧ n < 5 ∧ g.getLsbD n = true

/-- A stack top is free and E-STOP is not in force. -/
def FreeTop (s : State) (k : StackId) : Prop :=
  (s.stack k).reservations = 0 ∧ (s.stack k).falling = [] ∧ (s.stack k).holder = none ∧ s.estop = false

/-- Stack `j` goes before stack `k` by preference, then number. -/
def GoesBefore (s : State) (p : Preference) (j k : StackId) : Prop :=
  ∃ a b, (s.stack j).topCode = some a ∧ (s.stack k).topCode = some b ∧
    ((a ≠ b ∧ (if p = .conserve then b < a else a < b)) ∨ (a = b ∧ j < k))

theorem mem_candidates (l : Line) (d : Draw) (s : State) (k : StackId) :
    k ∈ candidates l d s ↔ Offered s l d.grades k := by
  simp only [candidates, List.mem_filter, mem_allStacks, true_and, isCandidate, Bool.and_eq_true, Stack.serving_iff,
    Stack.topIn_iff]
  rfl

theorem candidates_sorted (l : Line) (d : Draw) (s : State) : (candidates l d s).Pairwise (· < ·) :=
  allStacks_sorted.filter _

theorem freeTop_iff (s : State) (k : StackId) : ((s.stack k).free && !s.estop) = true ↔ FreeTop s k := by
  rw [Bool.and_eq_true, Stack.free_iff, Bool.not_eq_true', FreeTop]
  simp only [and_assoc]

theorem GoesBefore.precedes {p : Preference} (h : GoesBefore s p j k) (hj : Offered s l g j) (hk : Offered s l g k) :
    Precedes p (fun k => ((s.stack k).topGrade).getD 0) j k := by
  obtain ⟨a, b, ha, hb, h⟩ := h
  obtain ⟨n, hn, hn5, -⟩ := hj.2
  obtain ⟨m, hm, hm5, -⟩ := hk.2
  obtain rfl : a = n := Option.some.inj (ha.symm.trans hn)
  obtain rfl : b = m := Option.some.inj (hb.symm.trans hm)
  have gj : (s.stack j).topGrade = some ⟨a, hn5⟩ := ((s.stack j).topGrade_eq_some_iff _).mpr ha
  have gk : (s.stack k).topGrade = some ⟨b, hm5⟩ := ((s.stack k).topGrade_eq_some_iff _).mpr hb
  simp only [Precedes, gj, gk, Option.getD_some]
  rcases h with ⟨-, h⟩ | ⟨rfl, h⟩
  · refine .inl ?_
    cases p <;> simpa [ranksBefore] using h
  · exact .inr ⟨rfl, h⟩

section Select

variable (hd : (s.line l).draw = some d)

include hd

theorem select_free (hk : Offered s l d.grades k) (hf : FreeTop s k)
    (hb : ∀ j, Offered s l d.grades j → FreeTop s j → j ≠ k → GoesBefore s d.pref k j) : select l s = beginPick l k s := by
  have hfirst : firstRanked d.pref (fun k => ((s.stack k).topGrade).getD 0)
      ((candidates l d s).filter fun k => (s.stack k).free && !s.estop) = some k := by
    refine firstRanked_eq ((candidates_sorted l d s).filter _)
      (List.mem_filter.mpr ⟨(mem_candidates l d s k).mpr hk, (freeTop_iff s k).mpr hf⟩) fun j hj hne => ?_
    obtain ⟨hj, hfj⟩ := List.mem_filter.mp hj
    have hoj := (mem_candidates l d s j).mp hj
    exact (hb j hoj ((freeTop_iff s j).mp hfj) hne).precedes hk hoj
  have hsel : selectedStack l d s = some k := by
    simp only [selectedStack, hfirst]
  obtain ⟨⟨hs, ha⟩, ht⟩ := hk
  simp only [select, hd, hsel, ask, (freeTop_iff s k).mpr hf, (Stack.serving_iff _).mpr hs, ha,
    (Stack.topIn_iff _ _).mpr ht]
  simp

theorem select_waits (hk : Offered s l d.grades k) (hf : ∀ j, Offered s l d.grades j → ¬ FreeTop s j)
    (hb : ∀ j, Offered s l d.grades j → j ≠ k → GoesBefore s d.pref k j) :
    select l s = joinWaiters l k d.grades s := by
  have hnone : (candidates l d s).filter (fun k => (s.stack k).free && !s.estop) = [] :=
    List.filter_eq_nil_iff.mpr fun j hj hfj => hf j ((mem_candidates l d s j).mp hj) ((freeTop_iff s j).mp hfj)
  have hsel : selectedStack l d s = some k := by
    unfold selectedStack
    dsimp only
    rw [hnone, firstRanked]
    refine firstRanked_eq (candidates_sorted l d s) ((mem_candidates l d s k).mpr hk) fun j hj hne => ?_
    have hoj := (mem_candidates l d s j).mp hj
    exact (hb j hoj hne).precedes hk hoj
  have hbusy : ((s.stack k).free && !s.estop) = false := Bool.eq_false_iff.mpr fun hc => hf k hk ((freeTop_iff s k).mp hc)
  obtain ⟨⟨hs, ha⟩, -⟩ := hk
  simp only [select, hd, hsel, ask, hbusy, (Stack.serving_iff _).mpr hs, ha]
  simp

theorem select_starves (h : ∀ k, ¬ Offered s l d.grades k) : select l s = starve l s := by
  have hnone : candidates l d s = [] :=
    List.eq_nil_iff_forall_not_mem.mpr fun k hk => h k ((mem_candidates l d s k).mp hk)
  simp only [select, hd, selectedStack, hnone, List.filter_nil, firstRanked]

end Select

theorem select_none (h : (s.line l).draw = none) : select l s = s := by
  rw [select, h]

theorem starve_starved (h : (s.line l).activity = .starved) : starve l s = s := by
  simp only [starve, h]

theorem starve_begins (h : (s.line l).activity ≠ .starved) : starve l s = s.setLine l { s.line l with
    activity := .starved, draw := (s.line l).draw.map (fun d => { d with stack := none }), starveTimer := some 0,
    starveNoted := false } := by
  unfold starve
  dsimp only
  split
  · next hs => exact absurd hs h
  · rfl

theorem reselect_stands (hm : (s.line l).mode = .run) (he : (s.line l).exec = .hold) :
    reselect l s = s.setLine l (s.line l).stood := by
  simp only [reselect, hm, he]

theorem reselect_selects (h : (s.line l).mode ≠ .run ∨ (s.line l).exec ≠ .hold) : reselect l s = select l s := by
  unfold reselect
  split
  · next hm he => exact absurd h (by simp [hm, he])
  · rfl

end Sys2Proof.Machine
end

section
/-!
PROOFS. What lines share: panel closes, ends of steps and draws, entering OFF and waits withdrawn, each by its cases, and
that none of them looks at a port's receiver; the statement StepsActByKindAndManner.
-/

namespace Sys2Proof.Machine

variable {s : State} {k : StackId} {l m : Line} {p : Port}

/-! ## Lines replaced -/

theorem setLine_setLine (s : State) (l : Line) (x y : LineState) : (s.setLine l x).setLine l y = s.setLine l y := by
  cases l <;> rfl

theorem setLine_comm (h : l ≠ m) (s : State) (x y : LineState) :
    (s.setLine l x).setLine m y = (s.setLine m y).setLine l x := by
  cases l <;> cases m <;> first | rfl | exact absurd rfl h

theorem raiseIf_setLine (s : State) (c : Bool) (n : Notice) (l : Line) (x : LineState) :
    (s.raiseIf c n).setLine l x = (s.setLine l x).raiseIf c n := by
  cases c <;> rfl

theorem raiseIf_setStack (s : State) (c : Bool) (n : Notice) (k : StackId) (x : Stack) :
    (s.raiseIf c n).setStack k x = (s.setStack k x).raiseIf c n := by
  cases c <;> rfl

/-! ## Gradings given up, whatever the lines and stacks -/

theorem abandon_grading_congr {t : State} (h : t.grading = s.grading) (r : SheetRecord) (d : Bool) :
    (t.abandon r d).grading = (s.abandon r d).grading := by
  simp only [State.abandon, State.job, h]
  split
  · exact h
  · split
    · simp only [State.setJob, h]
    · exact h

theorem abandonAll_grading_congr {t : State} (h : t.grading = s.grading) (rs : List SheetRecord) :
    (t.abandonAll rs).grading = (s.abandonAll rs).grading := by
  induction rs generalizing s t with
  | nil => exact h
  | cons r rs ih => exact ih (abandon_grading_congr h r true)

theorem abandonAll_eq (s : State) (rs : List SheetRecord) :
    s.abandonAll rs = { s with grading := (s.abandonAll rs).grading } := by
  obtain ⟨g, hg⟩ := s.abandonAll_only_grading rs
  rw [hg]

theorem abandonAll_setLine (s : State) (l : Line) (x : LineState) (rs : List SheetRecord) :
    (s.setLine l x).abandonAll rs = (s.abandonAll rs).setLine l x := by
  refine (abandonAll_eq (s.setLine l x) rs).trans ?_
  rw [abandonAll_grading_congr (s := s) (t := s.setLine l x) rfl rs]
  exact (congrArg (State.setLine · l x) (abandonAll_eq s rs)).symm

theorem abandonAll_setStack (s : State) (k : StackId) (x : Stack) (rs : List SheetRecord) :
    (s.setStack k x).abandonAll rs = (s.abandonAll rs).setStack k x := by
  refine (abandonAll_eq (s.setStack k x) rs).trans ?_
  rw [abandonAll_grading_congr (s := s) (t := s.setStack k x) rfl rs]
  exact (congrArg (State.setStack · k x) (abandonAll_eq s rs)).symm

/-! ## Panel closes (R168, R169) -/

theorem closePanelRecord_empty (h : (s.line l).openPanel = []) (st : PanelStatus) (ready : Bool) :
    closePanelRecord l st ready s = s := by
  simp [closePanelRecord, h]

theorem closePanelRecord_queued (h : (s.line l).openPanel ≠ []) (hq : (s.line l).panelQueue.length < 4) (st : PanelStatus)
    (ready : Bool) : closePanelRecord l st ready s =
      (s.setLine l ((s.line l).panelQueued l st)).raiseIf ready (.panelReady l) := by
  have hq' : (s.line l).panelQueue.length < Config.panelQueueRoom := hq
  simp [closePanelRecord, h, hq']

theorem closePanelRecord_dropped (h : (s.line l).openPanel ≠ []) (hq : 4 ≤ (s.line l).panelQueue.length)
    (st : PanelStatus) (ready : Bool) : closePanelRecord l st ready s =
      ((s.abandonAll ((s.line l).openPanel.map (·.sheet))).setLine l (s.line l).panelDropped).raise (.panelDropped l) := by
  have hq' : ¬ (s.line l).panelQueue.length < Config.panelQueueRoom := Nat.not_lt.mpr hq
  simp [closePanelRecord, h, hq']

theorem closePanelRecord_sk (l : Line) (st : PanelStatus) (ready : Bool) (s : State) :
    (closePanelRecord l st ready s).sk = s.sk := by
  by_cases h : (s.line l).openPanel = []
  · rw [closePanelRecord_empty h]
  · by_cases hq : (s.line l).panelQueue.length < 4
    · rw [closePanelRecord_queued h hq, State.raiseIf_sk]
      rfl
    · obtain ⟨g, hg⟩ := s.abandonAll_only_grading ((s.line l).openPanel.map (·.sheet))
      rw [closePanelRecord_dropped h (Nat.not_lt.mp hq), hg]
      rfl

theorem closePanelRecord_setStack (s : State) (k : StackId) (x : Stack) (l : Line) (st : PanelStatus) (ready : Bool) :
    closePanelRecord l st ready (s.setStack k x) = (closePanelRecord l st ready s).setStack k x := by
  by_cases h : (s.line l).openPanel = []
  · rw [closePanelRecord_empty h, closePanelRecord_empty (s := s.setStack k x) h]
  · by_cases hq : (s.line l).panelQueue.length < 4
    · rw [closePanelRecord_queued h hq, closePanelRecord_queued (s := s.setStack k x) h hq, raiseIf_setStack]
      rfl
    · rw [closePanelRecord_dropped h (Nat.not_lt.mp hq),
        closePanelRecord_dropped (s := s.setStack k x) h (Nat.not_lt.mp hq), State.line_setStack, abandonAll_setStack]
      rfl

theorem enterOff_setStack (s : State) (k : StackId) (x : Stack) (l : Line) :
    enterOff l (s.setStack k x) = (enterOff l s).setStack k x :=
  closePanelRecord_setStack (s.setLine l (s.line l).turnedOff) k x l .abandoned true

theorem enterOff_sk (l : Line) (s : State) : (enterOff l s).sk = s.sk := closePanelRecord_sk l .abandoned true _

/-! ## Ends of draws and steps (R143, R146, R167) -/

theorem reportDraw_direct {d : Draw} (hd : (s.line l).draw = some d) (ho : d.origin = .direct) (r : DrawResult) :
    reportDraw l r s = (s.setLine l { s.line l with lastDraw := some r }).raise (.drawDone l) := by
  simp [reportDraw, hd, ho]

theorem reportDraw_ply (h : ∀ d, (s.line l).draw = some d → d.origin = .ply) (r : DrawResult) : reportDraw l r s = s := by
  cases hd : (s.line l).draw with
  | none => simp [reportDraw, hd]
  | some d => simp [reportDraw, hd, h d hd]

theorem reportDraw_cases (l : Line) (r : DrawResult) (s : State) : reportDraw l r s = s ∨
    reportDraw l r s = (s.setLine l { s.line l with lastDraw := some r }).raise (.drawDone l) := by
  cases hd : (s.line l).draw with
  | none => exact .inl (reportDraw_ply (fun d h => by simp [hd] at h) r)
  | some d =>
    cases ho : d.origin with
    | direct => exact .inr (reportDraw_direct hd ho r)
    | ply =>
      refine .inl (reportDraw_ply (fun d' h => ?_) r)
      obtain rfl := Option.some.inj (hd.symm.trans h)
      exact ho

theorem reportDraw_setStack (s : State) (k : StackId) (x : Stack) (l : Line) (r : DrawResult) :
    reportDraw l r (s.setStack k x) = (reportDraw l r s).setStack k x := by
  unfold reportDraw
  simp only [State.line_setStack]
  split
  · split <;> rfl
  · rfl

theorem reportDraw_sk (l : Line) (r : DrawResult) (s : State) : (reportDraw l r s).sk = s.sk := by
  rcases reportDraw_cases l r s with h | h
  · rw [h]
  · rw [h]
    rfl

/-- A line after the completion of its step: it stands at `next` by the manner (R143, R146). -/
def LineState.completed (y : LineState) (m : Manner) (next : Fin 16) (stop : Bool) : LineState :=
  { y.stood with
    pointer := if m = .once then y.pointer else next,
    exec := if m = .walk then (if stop then .hold else y.exec) else .hold }

theorem pointerAfter_eq (pointer next : Fin 16) (i : Manner) :
    pointerAfter pointer next i = if i = .once then pointer else next := by
  cases i <;> rfl

theorem execAfter_eq (e : Exec) (i : Manner) (stop : Bool) :
    execAfter e i stop = if i = .walk then (if stop then .hold else e) else .hold := by
  cases i <;> rfl

theorem completeStep_eq (l : Line) (next : Fin 16) (stop : Bool) (s : State) : completeStep l next stop s =
    (s.setLine l ((s.line l).completed ((s.line l).step.getD .walk) next stop)).raiseIf
      (stop && decide ((s.line l).step.getD .walk ≠ .once)) (.lineStopped l) := by
  simp only [completeStep, pointerAfter_eq, execAfter_eq]
  rfl

theorem completeStep_next (l : Line) (next : Fin 16) (s : State) : completeStep l next false s =
    s.setLine l ((s.line l).completed ((s.line l).step.getD .walk) next false) :=
  completeStep_eq l next false s

/-! ## Waits withdrawn (R131) -/

theorem withdrawLine_waiting {d : Draw} (ha : (s.line l).activity = .waitingTop) (hd : (s.line l).draw = some d)
    (hk : d.stack = some k) : withdrawLine l s = leaveWaiters l k s := by
  simp [withdrawLine, ha, hd, hk]

theorem withdrawLine_other (h : (s.line l).activity ≠ .waitingTop) : withdrawLine l s = s := by
  unfold withdrawLine
  split
  · next ha _ => exact absurd ha h
  · rfl

/-! ## Receivers apart -/

section Hunts

variable (s : State) (p : Port) (l : Line)

@[simp] theorem leaveWaiters_hunt (k : StackId) : leaveWaiters l k (s.hunt p) = (leaveWaiters l k s).hunt p := rfl

@[simp] theorem withdrawLine_hunt : withdrawLine l (s.hunt p) = (withdrawLine l s).hunt p := by
  unfold withdrawLine
  simp only [State.line_hunt]
  split <;> rfl

@[simp] theorem reportDraw_hunt (r : DrawResult) : reportDraw l r (s.hunt p) = (reportDraw l r s).hunt p := by
  unfold reportDraw
  simp only [State.line_hunt]
  split
  · split
    · rw [State.setLine_hunt, State.raise_hunt]
    · rfl
  · rfl

@[simp] theorem closePanelRecord_hunt (st : PanelStatus) (ready : Bool) :
    closePanelRecord l st ready (s.hunt p) = (closePanelRecord l st ready s).hunt p := by
  simp only [closePanelRecord, State.line_hunt, State.setLine_hunt, State.raiseIf_hunt, State.abandonAll_hunt,
    State.raise_hunt, apply_ite (State.hunt · p)]

@[simp] theorem enterOff_hunt : enterOff l (s.hunt p) = (enterOff l s).hunt p :=
  closePanelRecord_hunt (s.setLine l (s.line l).turnedOff) p l .abandoned true

@[simp] theorem completeStep_hunt (next : Fin 16) (stop : Bool) :
    completeStep l next stop (s.hunt p) = (completeStep l next stop s).hunt p := by
  rw [completeStep_eq, completeStep_eq, State.line_hunt, State.setLine_hunt, State.raiseIf_hunt]

@[simp] theorem faultLine_hunt (kind : LineFault) : faultLine l kind (s.hunt p) = (faultLine l kind s).hunt p := by
  simp only [faultLine, State.line_hunt, State.setLine_hunt, State.raise_hunt]

@[simp] theorem signalLatch_hunt : signalLatch l (s.hunt p) = (signalLatch l s).hunt p := by
  unfold signalLatch
  simp only [State.line_hunt]
  split
  · exact completeStep_hunt ..
  · rfl

@[simp] theorem ask_hunt (k : StackId) (g : GradeSet) : ask l k g (s.hunt p) = (ask l k g s).hunt p := by
  have hb : beginPick l k (s.hunt p) = (beginPick l k s).hunt p := rfl
  have hj : joinWaiters l k g (s.hunt p) = (joinWaiters l k g s).hunt p := rfl
  simp only [ask, State.stack_hunt, State.estop_hunt, hb, hj, apply_ite (State.hunt · p)]

@[simp] theorem starve_hunt : starve l (s.hunt p) = (starve l s).hunt p := by
  simp only [starve, State.line_hunt]
  split <;> rfl

theorem selectedStack_hunt (d : Draw) : selectedStack l d (s.hunt p) = selectedStack l d s := rfl

@[simp] theorem select_hunt : select l (s.hunt p) = (select l s).hunt p := by
  simp only [select, State.line_hunt, selectedStack_hunt]
  split
  · rfl
  · split
    · exact ask_hunt ..
    · exact starve_hunt ..

end Hunts

/-! ## Steps (R143, R148 to R152) -/

section Steps

variable {i : Manner}

theorem beginStep_loop {target : Fin 16} {count : Fin 64}
    (h : (s.line l).pattern[(s.line l).pointer] = .loop target count) {c : Option Nat} {next : Fin 16}
    (ho : loopOutcome (s.line l).pointer target count.val (s.line l).counters[(s.line l).pointer] = (c, next)) :
    beginStep l i s = s.setLine l { (s.line l).completed i next false with
      counters := (s.line l).counters.set (s.line l).pointer.val c (s.line l).pointer.isLt } := by
  simp only [beginStep, h, loopStep, State.line_setLine_same, setLine_setLine, ho, completeStep_next]
  rfl

theorem signalLatch_awaiting (h : (s.line l).activity = .awaiting) :
    signalLatch l s = completeStep l ((s.line l).pointer + 1) false s := by
  simp [signalLatch, h]

theorem signalLatch_other (h : (s.line l).activity ≠ .awaiting) :
    signalLatch l s = s.setLine l { s.line l with latch := true } := by
  unfold signalLatch
  dsimp only
  split
  · next ha => exact absurd ha h
  · rfl

/-- A SIGNAL step: the other line's latch, then the completion of the line's own step. -/
theorem beginStep_signal {kept : KeptBytes} (h : (s.line l).pattern[(s.line l).pointer] = .signal kept) {y : LineState}
    (hy : signalLatch (otherLine l) s = s.setLine (otherLine l) y) :
    beginStep l i s = (s.setLine l ((s.line l).completed i ((s.line l).pointer + 1) false)).setLine (otherLine l) y := by
  have hne : l ≠ otherLine l := otherLine_ne l
  have ht : signalLatch (otherLine l) (s.setLine l { s.line l with step := some i }) =
      (s.setLine l { s.line l with step := some i }).setLine (otherLine l) y := by
    have hline : (s.setLine l { s.line l with step := some i }).line (otherLine l) = s.line (otherLine l) :=
      State.line_setLine_other _ _ hne.symm
    have hsame {z : LineState} (hz : s.setLine (otherLine l) z = s.setLine (otherLine l) y) : z = y := by
      have := congrArg (State.line · (otherLine l)) hz
      simpa using this
    by_cases ha : (s.line (otherLine l)).activity = .awaiting
    · rw [signalLatch_awaiting ha, completeStep_next] at hy
      rw [signalLatch_awaiting (by rw [hline]; exact ha), completeStep_next, hline, hsame hy]
    · rw [signalLatch_other ha] at hy
      rw [signalLatch_other (by rw [hline]; exact ha), hline, hsame hy]
  simp only [beginStep, h, ht, completeStep_next]
  rw [State.line_setLine_other _ _ hne, State.line_setLine_same, ← setLine_comm hne, setLine_setLine]
  rfl

theorem beginStep_await {kept : KeptBytes} (h : (s.line l).pattern[(s.line l).pointer] = .await kept) :
    beginStep l i s = if (s.line l).latch then
        s.setLine l { (s.line l).completed i ((s.line l).pointer + 1) false with latch := false }
      else s.setLine l { s.line l with activity := .awaiting, step := some i } := by
  simp only [beginStep, h, awaitStep, State.line_setLine_same, setLine_setLine, completeStep_next]
  rfl

/-- A close of the panel that ends a PANEL END step (R146, R150). -/
theorem finishPanelEnd_queued {notice : Bool} {after : After} (h : (s.line l).openPanel ≠ [])
    (hq : (s.line l).panelQueue.length < 4) : finishPanelEnd l notice after s =
      ((s.setLine l (((s.line l).panelQueued l .complete).completed ((s.line l).step.getD .walk)
        (afterPointer (s.line l).pointer after) (decide (after = .stop)))).raiseIf notice (.panelReady l)).raiseIf
          (decide (after = .stop) && decide ((s.line l).step.getD .walk ≠ .once)) (.lineStopped l) := by
  rw [finishPanelEnd, closePanelRecord_queued h hq, completeStep_eq, State.line_raiseIf, State.line_setLine_same,
    raiseIf_setLine, setLine_setLine]
  rfl

theorem finishPanelEnd_empty {notice : Bool} {after : After} (h : (s.line l).openPanel = []) :
    finishPanelEnd l notice after s =
      (s.setLine l ((s.line l).completed ((s.line l).step.getD .walk) (afterPointer (s.line l).pointer after)
        (decide (after = .stop)))).raiseIf
          (decide (after = .stop) && decide ((s.line l).step.getD .walk ≠ .once)) (.lineStopped l) := by
  rw [finishPanelEnd, closePanelRecord_empty h, completeStep_eq]

theorem beginStep_panelEnd {notice : Bool} {after : After}
    (h : (s.line l).pattern[(s.line l).pointer] = .panelEnd notice after) : beginStep l i s =
      if (s.line l).canClose then finishPanelEnd l notice after (s.setLine l { s.line l with step := some i })
      else s.setLine l { s.line l with activity := .waitRecord, step := some i } := by
  simp only [beginStep, h, panelEndStep, State.line_setLine_same, setLine_setLine]
  rfl

theorem LineState.canClose_iff (x : LineState) : x.canClose = true ↔ x.openPanel = [] ∨ x.panelQueue.length < 4 := by
  simp [LineState.canClose, Config.panelQueueRoom]

theorem afterPointer_eq (pointer : Fin 16) (after : After) :
    afterPointer pointer after = if after = .restart then 0 else pointer + 1 := by
  cases after <;> rfl

/-- A PLY step with a grade set: its draw begins. -/
theorem beginStep_ply {g : GradeSet} {role : Role} {pref : Preference}
    (h : (s.line l).pattern[(s.line l).pointer] = .ply g role pref) (hg : g ≠ 0) : beginStep l i s =
      beginDraw l { grades := g, pref := pref, role := role, origin := .ply, stack := none }
        (s.setLine l { s.line l with step := some i }) := by
  simp only [beginStep, h, plyStep, if_neg hg]

end Steps

theorem beginDraw_room {d : Draw} (h : (s.line l).openPanel.length < 24) :
    beginDraw l d s = select l (s.setLine l { s.line l with draw := some d }) := if_neg (Nat.not_le.mpr h)

theorem beginDraw_full {d : Draw} (h : 24 ≤ (s.line l).openPanel.length) : beginDraw l d s =
    faultLine l .overlength (reportDraw l .aborted (s.setLine l { s.line l with draw := some d })) := if_pos h

theorem stopRaise_eq (s : State) (after : After) (i : Manner) (n : Notice) :
    s.raiseIf (decide (after = .stop) && decide (i ≠ .once)) n = if after = .stop ∧ i ≠ .once then s.raise n else s := by
  rw [State.raiseIf]
  simp only [Bool.and_eq_true, decide_eq_true_eq]

/-- Settles O53: the step at the pointer, kind by kind. -/
theorem stepsActByKindAndManner : Obligations.StepsActByKindAndManner := by
  intro s l i x step counter past faulted began
  refine ⟨fun target count h => ?_, fun kept h => ?_, fun kept h => ?_, fun notice after h => ?_, fun kept h => ?_,
    fun seven kept h => ?_, fun role pref h => ?_, fun g role pref h hg hl => ?_⟩
  · intro ends
    have hends {c : Option Nat} {next : Fin 16} (ho : loopOutcome x.pointer target count.val counter = (c, next)) :
        ends c next := beginStep_loop h ho
    have hval (hc : count ≠ 0) : count.val ≠ 0 := fun h0 => hc (Fin.ext h0)
    refine ⟨fun hc => hends ?_, fun hc hn => hends ?_, fun n hc hn => hends ?_, fun hc hn => hends ?_⟩
    · rw [hc]
      rfl
    · simp [loopOutcome, hval hc, hn]
    · simp [loopOutcome, hval hc, hn]
    · simp [loopOutcome, hval hc, hn]
  · intro y t
    exact ⟨fun ha => beginStep_signal h (signalLatch_other ha),
      fun ha => beginStep_signal h ((signalLatch_awaiting ha).trans (completeStep_next ..))⟩
  · exact ⟨fun hx => (beginStep_await h).trans (if_pos hx),
      fun hx => (beginStep_await h).trans (if_neg (by rw [hx]; exact Bool.false_ne_true))⟩
  · intro next stop told number closed
    have hb := beginStep_panelEnd (i := i) h
    refine ⟨fun he => ?_, fun he hq => ?_, fun he hq => ?_⟩
    · have hc : x.canClose = true := x.canClose_iff.mpr (.inl he)
      refine (hb.trans (if_pos hc)).trans ?_
      rw [finishPanelEnd_empty (by rw [State.line_setLine_same]; exact he), State.line_setLine_same, setLine_setLine,
        afterPointer_eq, Option.getD_some, stopRaise_eq]
      rfl
    · intro queued
      have hc : x.canClose = true := x.canClose_iff.mpr (.inr hq)
      refine (hb.trans (if_pos hc)).trans ?_
      rw [finishPanelEnd_queued (by rw [State.line_setLine_same]; exact he) (by rw [State.line_setLine_same]; exact hq),
        State.line_setLine_same, setLine_setLine, afterPointer_eq, Option.getD_some, stopRaise_eq]
      rfl
    · have hc : ¬ x.canClose = true := fun hc =>
        (x.canClose_iff.mp hc).elim he (Nat.not_lt.mpr hq)
      exact hb.trans (if_neg hc)
  · simp only [began, beginStep, show (s.line l).pattern[(s.line l).pointer] = _ from h, faultLine]
    rw [State.line_setLine_same, setLine_setLine]
    rfl
  · simp only [began, beginStep, show (s.line l).pattern[(s.line l).pointer] = _ from h, faultLine]
    rw [State.line_setLine_same, setLine_setLine]
    rfl
  · simp only [began, beginStep, show (s.line l).pattern[(s.line l).pointer] = _ from h, plyStep, if_true, faultLine]
    rw [State.line_setLine_same, setLine_setLine]
    rfl
  · change beginStep l i s = _
    rw [beginStep_ply h hg, beginDraw_full (by rw [State.line_setLine_same]; exact hl), State.line_setLine_same,
      setLine_setLine, reportDraw_ply (fun d hd => ?_), faultLine, State.line_setLine_same, setLine_setLine]
    · rfl
    · rw [State.line_setLine_same] at hd
      obtain rfl := Option.some.inj hd
      rfl

end Sys2Proof.Machine
end

section
/-!
PROOFS. Requests that program a line and clear it, and steps read back from their bytes; the statements
LineIsProgrammedAndCleared and PanelsCloseAndLeaveInOrder.
-/

namespace Sys2Proof.Machine

variable {s : State} {l : Line} {p : Port} {code tag : Byte} {body : List Byte}

/-! ## Requests of a line on its own port (R177) -/

theorem own_notOwner (l : Line) (rest : List Byte) : notOwner (ownPort l) (b8 (Line.code l) :: rest) = false := by
  cases l <;> rfl

theorem line_done {block : State → Reply} {t : State} {out : List Byte} (hr : Ready s p) (ho : notOwner p body = false)
    (hb : block (s.hunt p) = okReply (t.hunt p) out) :
    serveLine code p tag body block s = .next (t.answered p code tag .ok out) := by
  rw [serveLine_owned block ho]
  exact serve_done hr hb

theorem onLine_some (l : Line) (s : State) (f : Line → Reply) : onLine [b8 (Line.code l)] s f = f l := by
  simp [onLine, lineOf_code]

/-! ## Steps read back (R188) -/

theorem b8_toNat (b : Byte) : b8 b.toNat = b := BitVec.ofNat_toNat ..|>.trans (BitVec.setWidth_eq b)

theorem byteAt_append (pre body : List Byte) (i : Nat) : byteAt (pre ++ body) (pre.length + i) = byteAt body i := by
  rw [byteAt, byteAt, List.getElem?_append_right (Nat.le_add_right ..), Nat.add_sub_cancel_left]

theorem gradesOf_b8 (g : GradeSet) : gradesOf (b8 g.toNat).toNat = some g := by
  have hg := g.isLt
  rw [toNat_b8 (by omega), gradesOf, if_pos (by omega)]
  simp

theorem roleOf_b8 (r : Role) : roleOf (b8 r.code).toNat = some r := by cases r <;> rfl

theorem prefOf_b8 (q : Preference) : prefOf (b8 q.code).toNat = some q := by cases q <;> rfl

theorem afterOf_b8 (a : After) : afterOf (b8 a.code).toNat = some a := by cases a <;> rfl

theorem stepAt_append (pre body : List Byte) : stepAt (pre ++ body) pre.length = stepAt body 0 := by
  have h0 := byteAt_append pre body 0
  rw [Nat.add_zero] at h0
  simp only [stepAt, byteAt_append, h0, Nat.zero_add]

theorem stepAt_bytes (x : PatternStep) (rest : List Byte) : stepAt (x.bytes ++ rest) 0 = some x := by
  cases x with
  | blank kept => simp [stepAt, PatternStep.bytes, KeptBytes.bytes, b8_toNat]
  | ply g r q => simp [stepAt, PatternStep.bytes, gradesOf_b8, roleOf_b8, prefOf_b8]
  | loop t c =>
    have ht := t.isLt
    have hc := c.isLt
    simp [stepAt, PatternStep.bytes, toNat_b8 (show t.val < 256 by omega), toNat_b8 (show c.val < 256 by omega)]
  | panelEnd n a => simp [stepAt, PatternStep.bytes, yesNo_bBool, afterOf_b8]
  | signal kept => simp [stepAt, PatternStep.bytes, KeptBytes.bytes, b8_toNat]
  | await kept => simp [stepAt, PatternStep.bytes, KeptBytes.bytes, b8_toNat]
  | unnamed seven kept => cases seven <;> simp [stepAt, PatternStep.bytes, KeptBytes.bytes, b8_toNat]

theorem length_stepBytes (x : PatternStep) : x.bytes.length = 4 := by
  cases x with
  | unnamed seven kept => cases seven <;> rfl
  | _ => rfl

theorem length_flatMap_stepBytes (steps : List PatternStep) :
    (steps.flatMap PatternStep.bytes).length = 4 * steps.length := by
  induction steps with
  | nil => rfl
  | cons x xs ih => simp only [List.flatMap_cons, List.length_append, length_stepBytes, ih, List.length_cons]; omega

theorem stepsAt_bytes : ∀ (steps : List PatternStep) (pre : List Byte),
    stepsAt (pre ++ steps.flatMap PatternStep.bytes) pre.length steps.length = some steps
  | [], pre => rfl
  | x :: xs, pre => by
    have hx : stepAt (pre ++ (x.bytes ++ xs.flatMap PatternStep.bytes)) pre.length = some x :=
      (stepAt_append pre _).trans (stepAt_bytes x _)
    have ih := stepsAt_bytes xs (pre ++ x.bytes)
    rw [List.append_assoc, List.length_append, length_stepBytes] at ih
    simp only [List.flatMap_cons, List.length_cons, stepsAt, hx, ih]
    rfl

theorem writeFrom_getElem : ∀ (xs : List PatternStep) (v : Vector PatternStep 16) (k i : Nat) (hi : i < 16),
    (k ≤ i → i < k + xs.length → xs[i - k]? = some (writeFrom v k xs)[i]) ∧
    ((i < k ∨ k + xs.length ≤ i) → (writeFrom v k xs)[i] = v[i])
  | [], v, k, i, hi => ⟨fun h1 h2 => absurd h2 (by simp; omega), fun _ => rfl⟩
  | x :: xs, v, k, i, hi => by
    obtain ⟨ih1, ih2⟩ := writeFrom_getElem xs (v.setIfInBounds k x) (k + 1) i hi
    refine ⟨fun h1 h2 => ?_, fun h => ?_⟩
    · rw [List.length_cons] at h2
      rcases Nat.eq_or_lt_of_le h1 with rfl | hlt
      · rw [Nat.sub_self, List.getElem?_cons_zero, writeFrom, ih2 (.inl (Nat.lt_succ_self k)),
          Vector.getElem_setIfInBounds_self]
      · have := ih1 hlt (by omega)
        rw [show i - k = (i - (k + 1)) + 1 by omega, List.getElem?_cons_succ]
        exact this
    · rw [List.length_cons] at h
      rw [writeFrom, ih2 (by omega), Vector.getElem_setIfInBounds_ne _ (by omega)]

theorem LineState.pointerFree_iff (x : LineState) : x.pointerFree = true ↔
    (x.activity = .idle ∨ x.activity = .fault) ∧ x.step = none ∧ (x.mode = .run → x.exec = .hold) := by
  simp only [LineState.pointerFree, Bool.and_eq_true, Bool.or_eq_true, decide_eq_true_eq, Option.isNone_iff_eq_none,
    and_assoc, imp_iff_not_or]

/-! ## Pattern memory, pointer, faults and signals -/

/-- What WRITE STEPS makes of a body of `n` whole steps. -/
theorem writeSteps_eq {first : Byte} {steps : List PatternStep} (h1 : 1 ≤ steps.length) (h2 : steps.length ≤ 16)
    (l : Line) (s : State) :
    writeSteps (b8 (Line.code l) :: first :: b8 steps.length :: steps.flatMap PatternStep.bytes) s =
      if 16 < first.toNat + steps.length then refuse s .badValue
      else if (s.line l).mode ≠ .load then refuse s .wrongState
      else okReply (s.setLine l { s.line l with
        pattern := writeFrom (s.line l).pattern first.toNat steps }) [] := by
  have hn : (b8 steps.length).toNat = steps.length := toNat_b8 (by omega)
  have hs : stepsAt (b8 (Line.code l) :: first :: b8 steps.length :: steps.flatMap PatternStep.bytes) 3 steps.length =
      some steps := stepsAt_bytes steps [b8 (Line.code l), first, b8 steps.length]
  have hl := length_flatMap_stepBytes steps
  simp only [writeSteps, byteAt_cons_succ, byteAt_cons_zero, hn, lineOf_code, hs, List.length_cons, hl]
  rw [if_neg (by omega)]

theorem setStepPointer_eq (l : Line) (n : Byte) (s : State) : setStepPointer [b8 (Line.code l), n] s =
    if h : n.toNat < 16 then
      if (s.line l).pointerFree then
        okReply (s.setLine l { s.line l with pointer := ⟨n.toNat, h⟩ }) [b8 (s.line l).pointer.val]
      else refuse s .wrongState
    else refuse s .badValue := by
  unfold setStepPointer
  rw [if_neg (by simp), byteAt_cons_zero, lineOf_code]
  rfl

theorem clearLineFault_eq (l : Line) (s : State) : clearLineFault [b8 (Line.code l)] s =
    if (s.line l).activity ≠ .fault then refuse s .wrongState
    else okReply (s.setLine l { s.line l with activity := .idle, fault := none })
      [b8 (lineFaultCode (s.line l).fault)] := onLine_some l s _

theorem signalLine_eq (l : Line) (s : State) :
    signalLine [b8 (Line.code l)] s = okReply (signalLatch l s) [bBool (s.line l).latch] := onLine_some l s _

/-- Settles O55: each request by its refusals and then by the line it leaves. -/
theorem lineIsProgrammedAndCleared : Obligations.LineIsProgrammedAndCleared := by
  refine ⟨fun s l tag first steps h h1 h2 => ?_, fun s l tag n h => ?_, fun s l tag h => ?_, fun s p l tag h => ?_⟩
  · intro x n run
    have hb := writeSteps_eq (first := first) h1 h2 l (s.hunt (ownPort l))
    have hrun : run = serveLine Code.writeSteps (ownPort l) tag
        (b8 (Line.code l) :: first :: n :: steps.flatMap PatternStep.bytes)
        (writeSteps (b8 (Line.code l) :: first :: n :: steps.flatMap PatternStep.bytes)) s := receiveRequest_whole _ h.whole
    refine ⟨fun hf => ?_, fun hf hm => ?_, fun hf hm => ⟨writeFrom x.pattern first.toNat steps, ?_, ?_, ?_⟩⟩
    · exact hrun.trans (line_refuse h (own_notOwner ..) (hb.trans (if_pos hf)))
    · exact hrun.trans (line_refuse h (own_notOwner ..) ((hb.trans (if_neg (Nat.not_lt.mpr hf))).trans (if_pos hm)))
    · exact hrun.trans (line_done h (own_notOwner ..)
        ((hb.trans (if_neg (Nat.not_lt.mpr hf))).trans (if_neg (not_not.mpr hm))))
    · exact fun i ha hz => (writeFrom_getElem steps x.pattern first.toNat i.val i.isLt).1 ha hz
    · exact fun i hi => (writeFrom_getElem steps x.pattern first.toNat i.val i.isLt).2 hi
  · intro x run stands
    have hb := setStepPointer_eq l n (s.hunt (ownPort l))
    have hrun : run = serveLine Code.setStepPointer (ownPort l) tag [b8 (Line.code l), n]
        (setStepPointer [b8 (Line.code l), n]) s := receiveRequest_whole _ h.whole
    have hfree : x.pointerFree = true ↔ stands := x.pointerFree_iff
    refine ⟨fun hn => ?_, fun hn hs => ?_, fun i hi hs => ?_⟩
    · exact hrun.trans (line_refuse h (own_notOwner ..) (hb.trans (dif_neg (by omega))))
    · exact hrun.trans (line_refuse h (own_notOwner ..) ((hb.trans (dif_pos (by omega))).trans
        (if_neg fun hc => hs (hfree.mp hc))))
    · have hlt : n.toNat < 16 := by omega
      obtain rfl : i = ⟨n.toNat, hlt⟩ := Fin.ext hi.symm
      exact hrun.trans (line_done h (own_notOwner ..) ((hb.trans (dif_pos hlt)).trans (if_pos (hfree.mpr hs))))
  · intro x run
    have hb := clearLineFault_eq l (s.hunt (ownPort l))
    have hrun : run = serveLine Code.clearLineFault (ownPort l) tag [b8 (Line.code l)]
        (clearLineFault [b8 (Line.code l)]) s := receiveRequest_whole _ h.whole
    exact ⟨fun hx => hrun.trans (line_refuse h (own_notOwner ..) (hb.trans (if_pos hx))),
      fun hx => hrun.trans (line_done h (own_notOwner ..) (hb.trans (if_neg (not_not.mpr hx))))⟩
  · intro x run m
    have hb := signalLine_eq l (s.hunt p)
    rw [signalLatch_hunt] at hb
    have hrun : run = .next ((signalLatch l s).answered p Code.signalLine tag .ok [bBool x.latch]) :=
      (receiveRequest_whole (serveSignalLine p tag _) h.whole).trans (serve_done h hb)
    refine ⟨fun hx => ?_, fun hx => ?_⟩
    · rw [hrun, signalLatch_other hx]
    · rw [hrun, signalLatch_awaiting hx, completeStep_next]
      rfl

/-! ## Panels (R170 to R172) -/

theorem closePanel_eq (l : Line) (s : State) : closePanel [b8 (Line.code l)] s =
    if (s.line l).mode ≠ .direct ∨ (s.line l).draw.isSome ∨ (s.line l).activity = .stopping then refuse s .wrongState
    else if (s.line l).openPanel.isEmpty then okReply s []
    else if Config.panelQueueRoom ≤ (s.line l).panelQueue.length then refuse s .queueFull
    else okReply (closePanelRecord l .complete true s) (b16 (s.line l).panelCounter) := onLine_some l s _

theorem takePanel_empty (h : (s.line l).panelQueue = []) : takePanel [b8 (Line.code l)] s = refuse s .empty := by
  rw [takePanel, onLine_some, h]

theorem takePanel_cons {r : PanelRecord} {rest : List PanelRecord} (h : (s.line l).panelQueue = r :: rest) :
    takePanel [b8 (Line.code l)] s = okReply (closeWaiting l ((s.abandonAll (r.plies.map (·.sheet))).setLine l
      { s.line l with panelQueue := rest })) (panelBytes r) := by
  rw [takePanel, onLine_some, h]

theorem closeWaiting_other (h : (s.line l).activity ≠ .waitRecord) : closeWaiting l s = s := by
  unfold closeWaiting
  dsimp only
  split
  · next ha _ => exact absurd ha h
  · rfl

theorem closeWaiting_waits {notice : Bool} {after : After} (h : (s.line l).activity = .waitRecord)
    (hp : (s.line l).pattern[(s.line l).pointer] = .panelEnd notice after) :
    closeWaiting l s = finishPanelEnd l notice after s := by
  simp only [closeWaiting, h, hp]

@[simp] theorem finishPanelEnd_hunt (s : State) (p : Port) (l : Line) (notice : Bool) (after : After) :
    finishPanelEnd l notice after (s.hunt p) = (finishPanelEnd l notice after s).hunt p := by
  rw [finishPanelEnd, finishPanelEnd, closePanelRecord_hunt, completeStep_hunt, State.line_hunt]

@[simp] theorem closeWaiting_hunt (s : State) (p : Port) (l : Line) :
    closeWaiting l (s.hunt p) = (closeWaiting l s).hunt p := by
  simp only [closeWaiting, State.line_hunt, finishPanelEnd_hunt]
  generalize (s.line l).pattern[(s.line l).pointer] = step
  cases (s.line l).activity with
  | waitRecord => cases step <;> rfl
  | _ => rfl

/-- Settles O57: a close by the room in the queue, and a take by whether a line waits for the place. -/
theorem panelsCloseAndLeaveInOrder : Obligations.PanelsCloseAndLeaveInOrder := by
  intro s l tag h x p close take takes number record
  have hclose : close = serveLine Code.closePanel p tag [b8 (Line.code l)] (closePanel [b8 (Line.code l)]) s :=
    receiveRequest_whole _ h.whole
  have htake : take = serveLine Code.takePanel p tag [b8 (Line.code l)] (takePanel [b8 (Line.code l)]) s :=
    receiveRequest_whole _ h.whole
  have hb := closePanel_eq l (s.hunt p)
  have htakes : takes ↔ ¬ (x.mode ≠ .direct ∨ x.draw.isSome ∨ x.activity = .stopping) := by
    simp only [takes, not_or, not_not, Bool.not_eq_true, Option.isSome_eq_false_iff, Option.isNone_iff_eq_none]
  have hne {b : List Ply} (hp : b ≠ []) : ¬ b.isEmpty = true := fun hc => hp (List.isEmpty_iff.mp hc)
  refine ⟨fun ht => ?_, fun ht hp => ?_, fun ht hp hq => ?_, fun ht hp hq => ?_, fun hq => ?_, fun r rest hq => ?_⟩
  · exact hclose.trans (line_refuse h (own_notOwner ..) (hb.trans (if_pos (not_not.mp fun hc => ht (htakes.mpr hc)))))
  · exact hclose.trans (line_done h (own_notOwner ..) ((hb.trans (if_neg (htakes.mp ht))).trans
      (if_pos (List.isEmpty_iff.mpr hp))))
  · exact hclose.trans (line_refuse h (own_notOwner ..) ((hb.trans (if_neg (htakes.mp ht))).trans
      ((if_neg (hne hp)).trans (if_pos hq))))
  · rw [closePanelRecord_hunt, closePanelRecord_queued hp hq] at hb
    exact hclose.trans (line_done h (own_notOwner ..) ((hb.trans (if_neg (htakes.mp ht))).trans
      ((if_neg (hne hp)).trans (if_neg (Nat.not_le.mpr hq)))))
  · exact htake.trans (line_refuse h (own_notOwner ..) (takePanel_empty (s := s.hunt p) hq))
  · intro left
    have hb := takePanel_cons (s := s.hunt p) hq
    rw [State.abandonAll_hunt, State.line_hunt, State.setLine_hunt, closeWaiting_hunt] at hb
    have hrun : take = .next ((closeWaiting l (left.setLine l { x with panelQueue := rest })).answered p Code.takePanel tag
        .ok (panelBytes r)) := htake.trans (line_done h (own_notOwner ..) hb)
    refine ⟨fun ha => ?_, fun notice after ha hpat hp hl => ?_⟩
    · rw [hrun, closeWaiting_other (by rw [State.line_setLine_same]; exact ha)]
    · intro m next t ready
      rw [hrun, closeWaiting_waits (by rw [State.line_setLine_same]; exact ha) (by simp only [State.line_setLine_same]; exact hpat),
        finishPanelEnd_queued (by rw [State.line_setLine_same]; exact hp) (by rw [State.line_setLine_same]; exact hl),
        State.line_setLine_same, setLine_setLine, afterPointer_eq, stopRaise_eq]
      simp only [LineState.completed, decide_eq_true_eq]
      rfl

end Sys2Proof.Machine
end

section
/-!
PROOFS. Draws begun and cancelled, on a PLY step and by DRAW; the statements PlySelectsFirstRankedStack and
DirectDrawBeginsAndCancels.
-/

namespace Sys2Proof.Machine

variable {s : State} {k : StackId} {l : Line} {p : Port} {code tag : Byte} {body : List Byte}

/-! ## A pick, a wait or a starvation of a line just replaced -/

theorem beginPick_setLine (l : Line) (k : StackId) (s : State) (y : LineState) : beginPick l k (s.setLine l y) =
    (s.setStack k { s.stack k with
      holder := some l, lastGrant := some l, waiters := (s.stack k).waiters.set l none }).setLine l
      { y with
        activity := .picking, draw := y.draw.map (fun d => { d with stack := some k }), pickReq := some k,
        pickTimer := some 0, starveTimer := none, starveNoted := false } := by
  simp only [beginPick, State.line_setLine_same, State.stack_setLine]
  exact setLine_setLine (s.setStack k _) l y _

theorem joinWaiters_setLine (l : Line) (k : StackId) (g : GradeSet) (s : State) (y : LineState) :
    joinWaiters l k g (s.setLine l y) =
      (s.setStack k { s.stack k with waiters := (s.stack k).waiters.set l (some g) }).setLine l
        { y with
          activity := .waitingTop, draw := y.draw.map (fun d => { d with stack := some k }), starveTimer := none,
          starveNoted := false } := by
  simp only [joinWaiters, State.line_setLine_same, State.stack_setLine]
  exact setLine_setLine (s.setStack k _) l y _

theorem starve_setLine (s : State) {y : LineState} (h : y.activity ≠ .starved) : starve l (s.setLine l y) =
    s.setLine l { y with
      activity := .starved, draw := y.draw.map (fun d => { d with stack := none }), starveTimer := some 0,
      starveNoted := false } := by
  rw [starve_begins (by rw [State.line_setLine_same]; exact h), setLine_setLine, State.line_setLine_same]

/-- Settles O54: a PLY step with room selects, by the laws of `select`. -/
theorem plySelectsFirstRankedStack : Obligations.PlySelectsFirstRankedStack := by
  intro s l i g role pref x h hg hroom grade open_ accepts candidate free before drawing began
  let d : Draw := { grades := g, pref := pref, role := role, origin := .ply, stack := none }
  let u := s.setLine l { x with step := some i, draw := some d }
  have hbegan : began = select l u := by
    change beginStep l i s = _
    rw [beginStep_ply h hg, beginDraw_room (by rw [State.line_setLine_same]; exact hroom), State.line_setLine_same,
      setLine_setLine]
  have hd : (u.line l).draw = some d := congrArg LineState.draw (State.line_setLine_same ..)
  refine ⟨fun k hk hf hb => ?_, fun k hk hf hb => ?_, fun ha hn => ?_⟩
  · rw [hbegan, select_free hd (k := k) hk hf hb, beginPick_setLine]
    rfl
  · rw [hbegan, select_waits hd (k := k) hk hf hb, joinWaiters_setLine]
    rfl
  · rw [hbegan, select_starves hd hn, starve_setLine s (y := { x with step := some i, draw := some d }) ha]
    rfl

/-! ## DRAW and CANCEL DRAW (R166, R167) -/

theorem draw_badValue {g pref role : Byte} (h : 31 < g.toNat ∨ g = 0 ∨ 1 < pref.toNat ∨ 3 < role.toNat) (l : Line)
    (s : State) : draw [b8 (Line.code l), g, pref, role] s = refuse s .badValue := by
  unfold draw
  rw [if_neg (by simp)]
  split
  · next l' g' pref' role' _ hg hp hr =>
    simp only [byteAt_cons_succ, byteAt_cons_zero] at hg hp hr
    rcases h with h | h | h | h
    · rw [gradesOf, if_neg (by omega)] at hg
      cases hg
    · obtain rfl : g' = 0 := by
        rw [h] at hg
        exact (Option.some.inj hg).symm
      exact if_pos rfl
    · have : prefOf pref.toNat = none := by
        unfold prefOf
        split <;> first | omega | rfl
      rw [this] at hp
      cases hp
    · have : roleOf role.toNat = none := by
        unfold roleOf
        split <;> first | omega | rfl
      rw [this] at hr
      cases hr
  · rfl

theorem draw_eq {g : GradeSet} (hg : g ≠ 0) (pref : Preference) (role : Role) (l : Line) (s : State) :
    draw [b8 (Line.code l), b8 g.toNat, b8 pref.code, b8 role.code] s =
      if (s.line l).mode ≠ .direct ∨ s.estop ∨ (s.line l).activity = .fault ∨ (s.line l).activity = .stopping then
        refuse s .wrongState
      else if (s.line l).draw.isSome then refuse s .busy
      else
        { st := beginDraw l { grades := g, pref := pref, role := role, origin := .direct, stack := none } s,
          status := .accepted, body := [] } := by
  simp only [draw, byteAt_cons_succ, byteAt_cons_zero, lineOf_code, gradesOf_b8, prefOf_b8, roleOf_b8, if_neg hg]
  exact if_neg (by simp)

theorem beginDraw_hunt (s : State) (p : Port) (l : Line) (d : Draw) :
    beginDraw l d (s.hunt p) = (beginDraw l d s).hunt p := by
  simp only [beginDraw, State.line_hunt, State.setLine_hunt, reportDraw_hunt, faultLine_hunt, select_hunt,
    apply_ite (State.hunt · p)]

theorem cancelDraw_eq (l : Line) (s : State) : cancelDraw [b8 (Line.code l)] s =
    if (s.line l).mode ≠ .direct ∨ (s.line l).draw.isNone ∨ (s.line l).activity = .picking ∨
        (s.line l).activity = .stopping then refuse s .wrongState
    else okReply (cancelDrawOn l s) [] := onLine_some l s _

theorem cancelDrawOn_hunt (s : State) (p : Port) (l : Line) :
    cancelDrawOn l (s.hunt p) = (cancelDrawOn l s).hunt p := by
  simp only [cancelDrawOn, withdrawLine_hunt, reportDraw_hunt, State.line_hunt, State.setLine_hunt]

/-- A DIRECT draw cancelled, once its line waits nowhere. -/
theorem cancelled_direct {t : State} {d : Draw} (hd : (t.line l).draw = some d) (ho : d.origin = .direct) :
    (reportDraw l .cancelled t).setLine l ((reportDraw l .cancelled t).line l).stood =
      (t.setLine l { (t.line l).stood with lastDraw := some .cancelled }).raise (.drawDone l) := by
  rw [reportDraw_direct hd ho, State.line_raise, State.line_setLine_same]
  exact congrArg (State.raise · (.drawDone l)) (setLine_setLine t l _ _)

/-- Settles O56: by whether the panel has room, and the end of a draw that waits or starves. -/
theorem directDrawBeginsAndCancels : Obligations.DirectDrawBeginsAndCancels := by
  intro s l tag h x p
  refine ⟨fun g pref role hb => ?_, fun g pref role hg => ?_, ?_⟩
  · exact (receiveRequest_whole _ h.whole).trans (line_refuse h (own_notOwner ..) (draw_badValue hb l _))
  · intro run takes drawing
    have hb := draw_eq hg pref role l (s.hunt p)
    rw [beginDraw_hunt] at hb
    have hrun : run = serveLine Code.draw p tag [b8 (Line.code l), b8 g.toNat, b8 pref.code, b8 role.code]
        (draw [b8 (Line.code l), b8 g.toNat, b8 pref.code, b8 role.code]) s := receiveRequest_whole _ h.whole
    have htakes : takes ↔ ¬ (x.mode ≠ .direct ∨ s.estop ∨ x.activity = .fault ∨ x.activity = .stopping) := by
      simp only [takes, not_or, not_not, Bool.not_eq_true]
    have accepts {t : State} (ht : takes) (hx : x.draw = none)
        (hbegin : beginDraw l { grades := g, pref := pref, role := role, origin := .direct, stack := none } s = t) :
        run = .next (t.answered p Code.draw tag .accepted []) := by
      rw [hbegin] at hb
      have hidle : ¬ x.draw.isSome = true := by simp [hx]
      rw [hrun, serveLine_owned _ (own_notOwner ..), serve_ready _ h,
        (hb.trans (if_neg (htakes.mp ht))).trans (if_neg hidle)]
      rfl
    refine ⟨fun ht => ?_, fun ht hx => ?_, fun ht hx hroom => accepts ht hx (beginDraw_room hroom),
      fun ht hx hfull => accepts ht hx ?_⟩
    · exact hrun.trans (line_refuse h (own_notOwner ..) (hb.trans (if_pos (not_not.mp fun hc => ht (htakes.mpr hc)))))
    · exact hrun.trans (line_refuse h (own_notOwner ..) ((hb.trans (if_neg (htakes.mp ht))).trans
        (if_pos (Option.isSome_iff_ne_none.mpr hx))))
    · rw [beginDraw_full hfull, faultLine,
        reportDraw_direct (d := { grades := g, pref := pref, role := role, origin := .direct, stack := none })
          (by rw [State.line_setLine_same]) rfl, State.line_raise, State.line_setLine_same, State.line_setLine_same,
        setLine_setLine]
      exact congrArg (fun t => (State.raise t (.drawDone l)).raise (.lineStopped l)) (setLine_setLine s l _ _)
  · intro run takes
    have hb := cancelDraw_eq l (s.hunt p)
    rw [cancelDrawOn_hunt] at hb
    have hrun : run = serveLine Code.cancelDraw p tag [b8 (Line.code l)] (cancelDraw [b8 (Line.code l)]) s :=
      receiveRequest_whole _ h.whole
    have htakes : takes ↔ ¬ (x.mode ≠ .direct ∨ x.draw.isNone ∨ x.activity = .picking ∨ x.activity = .stopping) := by
      simp only [takes, not_or, not_not, Option.isNone_iff_eq_none]
    refine ⟨fun ht => ?_, fun d ht hd ho => ?_⟩
    · exact hrun.trans (line_refuse h (own_notOwner ..) (hb.trans (if_pos (not_not.mp fun hc => ht (htakes.mpr hc)))))
    · intro after
      have hdone := hrun.trans (line_done h (own_notOwner ..) (hb.trans (if_neg (htakes.mp ht))))
      refine ⟨fun ha => ?_, fun k ha hk => ?_⟩
      · rw [hdone, cancelDrawOn, withdrawLine_other ha, cancelled_direct hd ho]
      · rw [hdone, cancelDrawOn, withdrawLine_waiting ha hd hk, cancelled_direct (t := leaveWaiters l k s) hd ho]
        rfl

end Sys2Proof.Machine
end

section
/-!
PROOFS. The modes and the exec of a line: how each request is taken, and how OFF is entered; the statements
SetLineModeEntersModes and SetLineExecAndStepBegin.
-/

namespace Sys2Proof.Machine

variable {s : State} {k : StackId} {l : Line} {p : Port} {code tag : Byte} {body : List Byte}

/-! ## Modes (R141, R142) -/

theorem lineModeOf_b8 (m : LineMode) : lineModeOf (b8 m.code).toNat = some m := by cases m <;> rfl

theorem lineModeOf_eq_none {n : Nat} (h : 3 < n) : lineModeOf n = none := by
  unfold lineModeOf
  split <;> first | omega | rfl

theorem execOf_b8 (e : Exec) : execOf (b8 e.code).toNat = some e := by cases e <;> rfl

theorem execOf_eq_none {n : Nat} (h : 3 < n) : execOf n = none := by
  unfold execOf
  split <;> first | omega | rfl

theorem setLineMode_eq (l : Line) (m : LineMode) (s : State) : setLineMode [b8 (Line.code l), b8 m.code] s =
    if (s.line l).activity = .stopping then
      (if m = .off then okReply s [b8 (s.line l).mode.code] else refuse s .wrongState)
    else if m = (s.line l).mode then okReply s [b8 (s.line l).mode.code]
    else if modeTaken (s.line l).mode m (s.line l).activity then okReply (enterMode l m s) [b8 (s.line l).mode.code]
    else refuse s .wrongState := by
  simp only [setLineMode, byteAt_cons_succ, byteAt_cons_zero, lineOf_code, lineModeOf_b8]
  exact if_neg (by simp)

theorem setLineMode_badValue {b : Byte} (h : 3 < b.toNat) (l : Line) (s : State) :
    setLineMode [b8 (Line.code l), b] s = refuse s .badValue := by
  simp only [setLineMode, byteAt_cons_succ, byteAt_cons_zero, lineOf_code, lineModeOf_eq_none h]
  exact if_neg (by simp)

theorem goOff_picking (h : (s.line l).activity = .picking) :
    goOff l s = s.setLine l { s.line l with activity := .stopping, exec := .hold, step := none } := by
  simp only [goOff, h]

theorem goOff_other (h : (s.line l).activity ≠ .picking) :
    goOff l s = enterOff l (reportDraw l .cancelled (withdrawLine l s)) := by
  unfold goOff
  split
  · next hp => exact absurd hp h
  · rfl

theorem goOff_hunt (s : State) (p : Port) (l : Line) : goOff l (s.hunt p) = (goOff l s).hunt p := by
  by_cases h : (s.line l).activity = .picking
  · rw [goOff_picking h, goOff_picking (s := s.hunt p) h]
    rfl
  · rw [goOff_other h, goOff_other (s := s.hunt p) h, withdrawLine_hunt, reportDraw_hunt, enterOff_hunt]

theorem enterMode_hunt (s : State) (p : Port) (l : Line) (m : LineMode) :
    enterMode l m (s.hunt p) = (enterMode l m s).hunt p := by
  cases m with
  | off => exact goOff_hunt s p l
  | load => rfl
  | run => rfl
  | direct => rfl

theorem enterOff_empty (h : (s.line l).openPanel = []) : enterOff l s = s.setLine l (s.line l).turnedOff :=
  closePanelRecord_empty (s := s.setLine l (s.line l).turnedOff) (by rw [State.line_setLine_same]; exact h) _ _

theorem enterOff_queued (h : (s.line l).openPanel ≠ []) (hq : (s.line l).panelQueue.length < 4) :
    enterOff l s = (s.setLine l ((s.line l).turnedOff.panelQueued l .abandoned)).raise (.panelReady l) := by
  have hc := closePanelRecord_queued (s := s.setLine l (s.line l).turnedOff) (l := l)
    (by rw [State.line_setLine_same]; exact h) (by rw [State.line_setLine_same]; exact hq) .abandoned true
  rw [State.line_setLine_same, setLine_setLine] at hc
  exact hc

theorem enterOff_dropped (h : (s.line l).openPanel ≠ []) (hq : 4 ≤ (s.line l).panelQueue.length) :
    enterOff l s = ((s.abandonAll ((s.line l).openPanel.map (·.sheet))).setLine l
      (s.line l).turnedOff.panelDropped).raise (.panelDropped l) := by
  have hc := closePanelRecord_dropped (s := s.setLine l (s.line l).turnedOff) (l := l)
    (by rw [State.line_setLine_same]; exact h) (by rw [State.line_setLine_same]; exact hq) .abandoned true
  rw [State.line_setLine_same, abandonAll_setLine, setLine_setLine] at hc
  exact hc

/-- Settles O51: by the table of modes, and the ways into OFF by the open panel. -/
theorem setLineModeEntersModes : Obligations.SetLineModeEntersModes := by
  intro s l tag m h x run refused taken fresh still off next closed
  have hb := setLineMode_eq l m (s.hunt (ownPort l))
  rw [enterMode_hunt] at hb
  have hrun : run = serveLine Code.setLineMode (ownPort l) tag [b8 (Line.code l), b8 m.code]
      (setLineMode [b8 (Line.code l), b8 m.code]) s := receiveRequest_whole _ h.whole
  have refuses (hs : x.activity = .stopping → m ≠ .off)
      (ht : m ≠ x.mode ∧ modeTaken x.mode m x.activity = false) : refused := by
    by_cases hst : x.activity = .stopping
    · exact hrun.trans (line_refuse h (own_notOwner ..) ((hb.trans (if_pos hst)).trans (if_neg (hs hst))))
    · exact hrun.trans (line_refuse h (own_notOwner ..) ((hb.trans (if_neg hst)).trans ((if_neg ht.1).trans
        (if_neg (Bool.eq_false_iff.mp ht.2)))))
  have enters (hst : x.activity ≠ .stopping) (hm : m ≠ x.mode) (ht : modeTaken x.mode m x.activity = true) :
      taken (enterMode l m s) :=
    hrun.trans (line_done h (own_notOwner ..) ((hb.trans (if_neg hst)).trans ((if_neg hm).trans (if_pos ht))))
  refine ⟨fun hst hm => ?_, fun hst hm => ?_, fun hst hm => ?_, fun hx hm => ?_, fun hx hm hn => ?_, fun hst hm hx => ?_,
    fun hm hx ha => ?_, fun hm hx ha hst => ?_, enterOff_empty, enterOff_queued, enterOff_dropped,
    fun d k ha hd hk => withdrawLine_waiting ha hd hk, withdrawLine_other,
    fun d result hd ho => reportDraw_direct hd ho result, fun result hp => reportDraw_ply hp result, fun b hbv => ?_⟩
  · exact hrun.trans (line_done h (own_notOwner ..) ((hb.trans (if_pos hst)).trans (if_pos hm)))
  · exact hrun.trans (line_refuse h (own_notOwner ..) ((hb.trans (if_pos hst)).trans (if_neg hm)))
  · exact hrun.trans (line_done h (own_notOwner ..) ((hb.trans (if_neg hst)).trans (if_pos hm)))
  · refine refuses (fun _ => ?_) ?_
    · rcases hm with rfl | rfl <;> nofun
    · rw [hx]
      rcases hm with rfl | rfl <;> exact ⟨nofun, rfl⟩
  · have hstill : (decide (x.activity = .idle) || decide (x.activity = .fault)) = false := by
      simpa [still, not_or] using hn
    refine refuses (fun _ => ?_) ?_
    · rcases hm with rfl | rfl <;> nofun
    · rw [hx]
      rcases hm with rfl | rfl <;> exact ⟨nofun, hstill⟩
  · have ht : modeTaken x.mode m x.activity = true := by
      rcases hx with hx | hx | ⟨hx, hs⟩
      · rw [hx]
        rfl
      · rw [hx]
        rfl
      · rw [hx] at hm ⊢
        have hstill : (decide (x.activity = .idle) || decide (x.activity = .fault)) = true := by
          simpa [still] using hs
        cases m with
        | off => rfl
        | direct => exact absurd rfl hm
        | _ => exact hstill
    have he := enters hst hm ht
    refine ⟨fun hm' => ?_, fun hm' => ?_⟩
    · rcases hm' with rfl | rfl <;> exact he
    · subst hm'
      exact he
  · subst hm
    have he := enters (by rw [ha]; nofun) (Ne.symm hx) (by cases x.mode <;> rfl)
    change taken (goOff l s) at he
    rwa [goOff_picking ha] at he
  · subst hm
    have he := enters hst (Ne.symm hx) (by cases x.mode <;> rfl)
    change taken (goOff l s) at he
    rwa [goOff_other ha] at he
  · exact (receiveRequest_whole _ h.whole).trans (line_refuse h (own_notOwner ..) (setLineMode_badValue hbv l _))

/-! ## Exec (R144, R145) and STEP BEGIN (R143) -/

theorem setLineExec_eq (l : Line) (e : Exec) (s : State) : setLineExec [b8 (Line.code l), b8 e.code] s =
    if (s.line l).mode ≠ .run then refuse s .wrongState
    else if execTaken (s.line l) s.estop e then okReply (setExec l e s) [b8 (s.line l).exec.code]
    else refuse s .wrongState := by
  simp only [setLineExec, byteAt_cons_succ, byteAt_cons_zero, lineOf_code, execOf_b8]
  exact if_neg (by simp)

theorem setLineExec_badValue {b : Byte} (h : 3 < b.toNat) (l : Line) (s : State) :
    setLineExec [b8 (Line.code l), b] s = refuse s .badValue := by
  simp only [setLineExec, byteAt_cons_succ, byteAt_cons_zero, lineOf_code, execOf_eq_none h]
  exact if_neg (by simp)

theorem execTaken_run_iff (x : LineState) (estop : Bool) : execTaken x estop .run = true ↔
    estop = false ∧ x.activity ≠ .fault ∧ x.activity ≠ .stopping ∧ (x.exec = .run ∨ x.exec = .hold) := by
  simp [execTaken, and_assoc]

/-- STEP and ONCE are taken on a line that stands (R144). -/
theorem execTaken_single_iff (x : LineState) (estop : Bool) {e : Exec} (he : e = .step ∨ e = .once) :
    execTaken x estop e = true ↔ estop = false ∧ x.exec = .hold ∧ x.activity = .idle ∧ x.step = none := by
  rcases he with rfl | rfl <;> simp [execTaken, and_assoc]

theorem holdLine_standing (h : (s.line l).activity = .idle ∨ (s.line l).activity = .picking ∨
    (s.line l).activity = .stopping ∨ (s.line l).activity = .fault) :
    holdLine l s = s.setLine l { s.line l with exec := .hold } := by
  rcases h with h | h | h | h <;> simp only [holdLine, h]

theorem holdLine_waits (h : (s.line l).activity = .starved ∨ (s.line l).activity = .awaiting ∨
    (s.line l).activity = .waitRecord) : holdLine l s = s.setLine l { (s.line l).stood with exec := .hold } := by
  have hw : withdrawLine l s = s := withdrawLine_other (by rcases h with h | h | h <;> rw [h] <;> nofun)
  rcases h with h | h | h <;> simp only [holdLine, h, stopWait, hw]

theorem holdLine_waitingTop {d : Draw} (h : (s.line l).activity = .waitingTop) (hd : (s.line l).draw = some d)
    (hk : d.stack = some k) :
    holdLine l s = (leaveWaiters l k s).setLine l { (s.line l).stood with exec := .hold } := by
  simp only [holdLine, h, stopWait, withdrawLine_waiting h hd hk]
  rfl

theorem runLine_running (h : (s.line l).exec = .run) : runLine l s = s := by
  simp only [runLine, h]

theorem runLine_held (h : (s.line l).exec = .hold) : runLine l s =
    if (s.line l).step.isNone then beginStep l .walk (s.setLine l { s.line l with exec := .run })
    else s.setLine l { s.line l with exec := .run } := by
  simp only [runLine, h]

theorem stepDue_iff (l : Line) (s : State) : stepDue l s = true ↔ (s.line l).mode = .run ∧ (s.line l).activity = .idle ∧
    (s.line l).step = none ∧ (s.line l).exec = .run ∧ s.estop = false := by
  simp [stepDue, and_assoc]

/-- Settles O52: by the table of exec, and STEP BEGIN by whether a step is due. -/
theorem setLineExecAndStepBegin : Obligations.SetLineExecAndStepBegin := by
  intro s l x
  refine ⟨fun tag e h => ?_, fun tag b h hb => ?_, fun hr => ?_⟩
  · intro run refused taken began standing
    have hb := setLineExec_eq l e (s.hunt (ownPort l))
    have hrun : run = serveLine Code.setLineExec (ownPort l) tag [b8 (Line.code l), b8 e.code]
        (setLineExec [b8 (Line.code l), b8 e.code]) s := receiveRequest_whole _ h.whole
    have refuses (hm : x.mode = .run) (ht : execTaken x s.estop e = false) : refused :=
      hrun.trans (line_refuse h (own_notOwner ..) ((hb.trans (if_neg (not_not.mpr hm))).trans
        (if_neg (Bool.eq_false_iff.mp ht))))
    have takes (hm : x.mode = .run) (ht : execTaken x s.estop e = true) {t : State}
        (hs : setExec l e (s.hunt (ownPort l)) = t) : run = .next (t.answer (ownPort l) Code.setLineExec tag .ok
          [b8 x.exec.code]) := by
      rw [hrun, serveLine_owned _ (own_notOwner ..)]
      exact serve_ok h (((hb.trans (if_neg (not_not.mpr hm))).trans (if_pos ht)).trans (by rw [hs]; rfl))
    refine ⟨fun hm => ?_, fun hm => ⟨fun he hx => ?_, fun he h1 h2 h3 => ?_, fun he => ?_, fun he => ?_, fun he => ?_⟩⟩
    · exact hrun.trans (line_refuse h (own_notOwner ..) (hb.trans (if_pos hm)))
    · subst he
      refine refuses hm (Bool.eq_false_iff.mpr fun hc => ?_)
      obtain ⟨c1, c2, c3, c4⟩ := (execTaken_run_iff x s.estop).mp hc
      rcases hx with hx | hx | hx | hx | hx
      · rw [hx] at c1
        cases c1
      · exact c2 hx
      · exact c3 hx
      · rw [hx] at c4
        exact c4.elim nofun nofun
      · rw [hx] at c4
        exact c4.elim nofun nofun
    · subst he
      have ht (hx : x.exec = .run ∨ x.exec = .hold) : execTaken x s.estop .run = true :=
        (execTaken_run_iff x s.estop).mpr ⟨h1, h2, h3, hx⟩
      refine ⟨fun hx => ?_, fun hx hn => ?_, fun hx hn => ?_⟩
      · exact takes hm (ht (.inl hx)) (runLine_running (s := s.hunt (ownPort l)) hx)
      · refine takes hm (ht (.inr hx)) ((runLine_held (s := s.hunt (ownPort l)) hx).trans (if_neg fun hc => hn ?_))
        exact Option.isNone_iff_eq_none.mp hc
      · exact takes hm (ht (.inr hx)) ((runLine_held (s := s.hunt (ownPort l)) hx).trans
          (if_pos (Option.isNone_iff_eq_none.mpr hn)))
    · subst he
      have hiff := execTaken_single_iff x s.estop (e := .step) (.inl rfl)
      exact ⟨fun hs => takes hm (hiff.mpr hs) rfl, fun hs => refuses hm (Bool.eq_false_iff.mpr fun hc => hs (hiff.mp hc))⟩
    · subst he
      have hiff := execTaken_single_iff x s.estop (e := .once) (.inr rfl)
      exact ⟨fun hs => takes hm (hiff.mpr hs) rfl, fun hs => refuses hm (Bool.eq_false_iff.mpr fun hc => hs (hiff.mp hc))⟩
    · subst he
      refine ⟨fun hx => ?_, fun hx => ?_, fun d k hx hd hk => ?_⟩
      · exact takes hm rfl (holdLine_standing (s := s.hunt (ownPort l)) hx)
      · exact takes hm rfl (holdLine_waits (s := s.hunt (ownPort l)) hx)
      · exact takes hm rfl (holdLine_waitingTop (s := s.hunt (ownPort l)) hx hd hk)
  · exact (receiveRequest_whole _ h.whole).trans (line_refuse h (own_notOwner ..) (setLineExec_badValue hb l _))
  · intro due
    refine ⟨fun hd => ?_, fun hd => ?_⟩
    · rw [EventOf.taken (.stepBegin l) hr, if_pos ((stepDue_iff l s).mpr hd)]
    · rw [EventOf.taken (.stepBegin l) hr, if_neg (fun hc => hd ((stepDue_iff l s).mp hc))]

end Sys2Proof.Machine
end

section
/-!
PROOFS. Ends of picks: with a sheet, empty-handed and by time; the statements PickDoneMovesTopRecord and
PicksEndWithoutSheet.
-/

namespace Sys2Proof.Machine

variable {s t : State} {k : StackId} {l : Line} {d : Draw} {r : SheetRecord} {rest : List SheetRecord}

/-! ## The sheet moved and the draw ended (R134, R162) -/

/-- A line whose pick has ended with a sheet: it is the newest ply of its open panel. -/
def LineState.plied (x : LineState) (r : SheetRecord) (k : StackId) (role : Role) : LineState :=
  { x.unpicked with openPanel := x.openPanel ++ [{ sheet := r, stack := k, role := role }] }

theorem movePly_clearPick (hd : (s.line l).draw = some d) (hi : (s.stack k).inventory = r :: rest) :
    movePly l k (clearPick l k s) = (s.setStack k { s.stack k with inventory := rest, holder := none }).setLine l
      ((s.line l).plied r k d.role) := by
  have hd' : (s.line l).unpicked.draw = some d := hd
  have hs : (clearPick l k s).stack k = { s.stack k with holder := none } := by simp [clearPick]
  simp only [movePly, hs, hi, clearPick_line, hd']
  change (((s.setStack k _).setStack k _).setLine l _).setLine l _ = _
  rw [setStack_setStack, setLine_setLine, ← hd']
  rfl

theorem finishDraw_ply (ha : (s.line l).activity = .picking) (hd : (s.line l).draw = some d) (ho : d.origin = .ply) :
    finishDraw l s = completeStep l ((s.line l).pointer + 1) false s := by
  simp only [finishDraw, ha, hd, Option.map_some, ho]

theorem finishDraw_direct (ha : (s.line l).activity = .picking) (hd : (s.line l).draw = some d)
    (ho : d.origin = .direct) :
    finishDraw l s = (s.setLine l { (s.line l).stood with lastDraw := some .done }).raise (.drawDone l) := by
  simp only [finishDraw, ha, hd, Option.map_some, ho]
  rw [reportDraw_direct hd ho, State.line_raise, State.line_setLine_same]
  exact congrArg (State.raise · (.drawDone l)) (setLine_setLine s l _ _)

theorem finishDraw_stopping (ha : (s.line l).activity = .stopping) :
    finishDraw l s = enterOff l (reportDraw l .done s) := by
  simp only [finishDraw, ha]

/-! ## The event that a pick's end makes at its stack (R118, R125) -/

/-- A stack in DRAIN with nothing in it closed. -/
def drainClosed (k : StackId) (t : State) : State :=
  if (t.stack k).state = .drain ∧ (t.stack k).inventory = [] ∧ (t.stack k).allocated = 0 then
    (t.setStack k { t.stack k with state := .closed }).raise .stackEmpty
  else t

/-- The DRAIN close, the grant check and the selections that follow a change announced to lines `m`. -/
def eventEnd (m : PerLine Bool) (k : StackId) (t : State) : State :=
  ((((StackEvent.of t).announceTo m).drainClose k).grantCheck k).settle

theorem eventEnd_selectsOnly (m : PerLine Bool) (k : StackId) (t : State) :
    SelectsOnly (drainClosed k t) (eventEnd m k t) := by
  unfold drainClosed
  split
  · next h => exact (drained_settles (e := (StackEvent.of t).announceTo m) h).1
  · next h => exact not_drained_settles (e := (StackEvent.of t).announceTo m) h

/-- A line that does not wait at the stack and is not starved is left as it stands. -/
theorem eventEnd_line (m : PerLine Bool) (hw : (t.stack k).waiters.get l = none)
    (ha : (t.line l).activity ≠ .starved) : (eventEnd m k t).line l = t.line l := by
  obtain ⟨h1, h2, h3⟩ := StackEvent.drainClose_line (e := (StackEvent.of t).announceTo m) hw
  obtain ⟨g1, g2⟩ := StackEvent.grantCheck_line h3
  have hl := g1.trans h1
  have htold : (((StackEvent.of t).announceTo m).drainClose k |>.grantCheck k).told.get l = false := by
    rw [g2, h2]
    cases l <;> rfl
  exact (StackEvent.settle_line (StackEvent.selects_eq_false htold (by rw [hl]; exact ha))).trans hl

theorem eventEnd_unwatched (m : PerLine Bool) (h : Unwatched t) : eventEnd m k t = drainClosed k t := by
  have he := (StackEvent.Unwatched.of h).announceTo m
  rw [eventEnd, he.drainGrantSettle, drainClosed]
  split
  · next hd => exact (he.drainClose k).2 hd
  · next hd => exact congrArg StackEvent.st (StackEvent.drainClose_other (e := (StackEvent.of t).announceTo m) hd)

theorem pickDoneOn_eq (l : Line) (k : StackId) (s : State) : pickDoneOn l k s =
    eventEnd ((finishDraw l (movePly l k (clearPick l k s))).stack k).access k
      (finishDraw l (movePly l k (clearPick l k s))) := rfl

theorem exec_pickDone (hr : s.pins.resetHeld = false) (hk : heldStack (s.line l) = some k)
    (he : (s.line l).emptied = false) : exec (.pickDone l) s = .next (pickDoneOn l k s) := by
  rw [EventOf.taken (.pickDone l) hr]
  simp only [hk, he, Bool.false_eq_true, if_false]

theorem Unwatched.setLine (h : Unwatched s) {x : LineState} (hx : x.activity ≠ .starved) : Unwatched (s.setLine l x) := by
  refine ⟨h.1, fun m => ?_⟩
  rw [line_setLine]
  split
  · exact hx
  · exact h.2 m

/-- Settles O49: the sheet is moved, the draw ends by its kind, and the event at the stack follows. -/
theorem pickDoneMovesTopRecord : Obligations.PickDoneMovesTopRecord := by
  intro s l k d r rest hr he hd hk hi x y panel left idle closed ends
  let moved := (s.setStack k left).setLine l (x.plied r k d.role)
  have hmoved : movePly l k (clearPick l k s) = moved := movePly_clearPick hd hi
  have hline : moved.line l = x.plied r k d.role := State.line_setLine_same ..
  have hclosed {u : State} (hu : u.stack k = left) : drainClosed k u = closed u := by
    simp only [drainClosed, hu]
    rfl
  have hexec {u : State} (ha : x.activity = .picking ∨ x.activity = .stopping) (hf : finishDraw l moved = u) :
      exec (.pickDone l) s = .next (eventEnd (u.stack k).access k u) := by
    rw [exec_pickDone hr (heldStack_eq_some.mpr ⟨ha, d, hd, hk⟩) he, pickDoneOn_eq, hmoved, hf]
  have hends {after : LineState} {u : State} (ha : x.activity = .picking) (hf : finishDraw l moved = u)
      (hs : u.sk = (s.setStack k left).sk) (hl : u.line l = after) (hidle : after.activity = .idle)
      (hu : Unwatched s → Unwatched u) : ends after u := by
    have hst : u.stack k = left := by
      rw [State.stack, hs]
      exact State.stack_setStack_same ..
    refine ⟨_, hexec (.inl ha) hf, ?_, fun hw => ?_, fun hun => ?_⟩
    · rw [← hclosed hst]
      exact eventEnd_selectsOnly ..
    · rw [eventEnd_line _ (by rw [hst]; exact hw) (by rw [hl, hidle]; nofun), hl]
    · rw [eventEnd_unwatched _ (hu hun), hclosed hst]
  have hstack (h : Unwatched s) : Unwatched (s.setStack k left) := StackEvent.Unwatched.setStack h left (h.1 k)
  refine ⟨fun ha ho => ?_, fun ha ho => ?_, fun ha => ?_⟩
  · intro m after
    have hafter : (x.plied r k d.role).completed m (x.pointer + 1) false = after := by
      simp [after, idle, LineState.completed, LineState.plied, LineState.unpicked, LineState.stood, he, x, panel]
    have hf : finishDraw l moved = (s.setStack k left).setLine l after := by
      rw [finishDraw_ply (by rw [hline]; exact ha) (by rw [hline]; exact hd) ho, completeStep_next, hline, setLine_setLine]
      exact congrArg _ hafter
    exact hends ha hf rfl (State.line_setLine_same ..) rfl fun h => (hstack h).setLine nofun
  · intro after
    have hafter : { (x.plied r k d.role).stood with lastDraw := some .done } = after := by
      simp [after, idle, LineState.plied, LineState.unpicked, LineState.stood, he, x, panel]
    have hf : finishDraw l moved = ((s.setStack k left).setLine l after).raise (.drawDone l) := by
      rw [finishDraw_direct (by rw [hline]; exact ha) (by rw [hline]; exact hd) ho, hline, setLine_setLine, hafter]
    exact hends ha hf rfl (State.line_setLine_same ..) rfl fun h => (hstack h).setLine nofun
  · have hafter : x.plied r k d.role = { x with openPanel := panel, pickTimer := none, pickReq := none } := by
      simp [LineState.plied, LineState.unpicked, he, x, panel]
    have hf : finishDraw l moved = enterOff l (reportDraw l .done moved) := finishDraw_stopping (by rw [hline]; exact ha)
    refine ⟨_, hexec (.inr ha) hf, ?_⟩
    rw [← hafter, ← hclosed]
    · exact eventEnd_selectsOnly ..
    · rw [State.stack, enterOff_sk, reportDraw_sk]
      exact State.stack_setStack_same s k left

/-! ## Selections and the mark of an empty pick (assumption 30) -/

theorem reselect_emptied (m : Line) (h : (s.line l).emptied = false) : ((reselect m s).line l).emptied = false := by
  by_cases hlm : l = m
  · subst hlm
    unfold reselect
    split
    · rw [State.line_setLine_same]
      rfl
    · unfold select
      split
      · exact h
      · split
        · simp only [ask]
          split
          · exact h
          · split
            · split
              · simpa [beginPick] using h
              · exact h
            · simpa [joinWaiters] using h
        · by_cases ha : (s.line l).activity = .starved
          · rw [starve_starved ha]
            exact h
          · rw [starve_begins ha, State.line_setLine_same]
            exact h
  · rw [reselect_line_other s hlm]
    exact h

theorem StackEvent.settle_emptied {e : StackEvent} (h : (e.st.line l).emptied = false) :
    (e.settle.line l).emptied = false := by
  have h' : ((State.line { e.st with choices := e.st.choices + 1 } l)).emptied = false := h
  simp only [StackEvent.settle]
  split
  · exact h
  · exact reselect_emptied .a h
  · exact reselect_emptied .b h
  · split
    · exact reselect_emptied .b (reselect_emptied .a h')
    · exact reselect_emptied .a (reselect_emptied .b h')

/-- A line that selects again at the end of an event does so from the line it was. -/
theorem StackEvent.settle_selects {e : StackEvent} (h : e.selects l = true) :
    ∃ u : State, u.line l = e.st.line l ∧ e.settle.line l = (reselect l u).line l := by
  cases l with
  | a =>
    cases hb : e.selects .b with
    | false => exact ⟨e.st, rfl, by simp only [StackEvent.settle, h, hb]⟩
    | true =>
      simp only [StackEvent.settle, h, hb]
      split
      · exact ⟨{ e.st with choices := e.st.choices + 1 }, rfl, reselect_line_other (l := .b) (m := .a) _ nofun⟩
      · exact ⟨reselect .b { e.st with choices := e.st.choices + 1 },
          reselect_line_other (l := .b) (m := .a) _ nofun, rfl⟩
  | b =>
    cases ha : e.selects .a with
    | false => exact ⟨e.st, rfl, by simp only [StackEvent.settle, h, ha]⟩
    | true =>
      simp only [StackEvent.settle, h, ha]
      split
      · exact ⟨reselect .a { e.st with choices := e.st.choices + 1 },
          reselect_line_other (l := .a) (m := .b) _ nofun, rfl⟩
      · exact ⟨{ e.st with choices := e.st.choices + 1 }, rfl, reselect_line_other (l := .a) (m := .b) _ nofun⟩

theorem markEmptied_picking (h : (s.line l).activity = .picking) :
    markEmptied l s = s.setLine l { s.line l with emptied := true } := by
  simp only [markEmptied, h]

theorem markEmptied_other (h : (s.line l).activity ≠ .picking) : markEmptied l s = s := by
  unfold markEmptied
  split
  · next hp => exact absurd hp h
  · rfl

theorem markEmptied_selectsOnly (l : Line) (s : State) : SelectsOnly s (markEmptied l s) := by
  by_cases h : (s.line l).activity = .picking
  · rw [markEmptied_picking h]
    exact SelectsOnly.setLine ⟨rfl, rfl, rfl, rfl, rfl, rfl, rfl, rfl, rfl, rfl, rfl⟩
  · rw [markEmptied_other h]
    exact .refl s

theorem markEmptied_sk (l : Line) (s : State) : (markEmptied l s).sk = s.sk := by
  unfold markEmptied
  split <;> rfl

theorem markEmptied_line (h : (s.line l).emptied = false) :
    ((markEmptied l s).line l).emptied = true ↔ ((markEmptied l s).line l).activity = .picking := by
  by_cases ha : (s.line l).activity = .picking
  · rw [markEmptied_picking ha, State.line_setLine_same]
    exact ⟨fun _ => ha, fun _ => rfl⟩
  · rw [markEmptied_other ha, h]
    exact ⟨nofun, fun hc => absurd hc ha⟩

/-! ## PICK EMPTY (R134, R163) -/

/-- A stack closed or faulted, with whoever waits there. -/
theorem StackEvent.setState_shut_st {new : StackState} (hn : new = .closed ∨ new = .faulted) (e : StackEvent)
    (k : StackId) : ∃ w, (e.setState k new).st = e.st.setStack k { e.st.stack k with state := new, waiters := w } := by
  by_cases h : (e.st.stack k).state = new
  · rw [StackEvent.setState_same h, ← h]
    exact ⟨_, (setStack_self e.st k).symm⟩
  · rw [StackEvent.setState_shut h hn]
    exact ⟨_, rfl⟩

/-- The state of a pick ended empty, before the line's own outcome: the stack is faulted and its top free (R163). -/
def emptyState (l : Line) (k : StackId) (s : State) : State :=
  ((s.setLine l (s.line l).unpicked).setStack k { s.stack k with state := .faulted, holder := none }).raise .stackFault

/-- The event of that stack's fault. -/
def emptyEvent (l : Line) (k : StackId) (s : State) : StackEvent :=
  (StackEvent.of ((clearPick l k s).raise .stackFault)).setState k .faulted

theorem pickEmptyOn_eq (l : Line) (k : StackId) (s : State) :
    pickEmptyOn l k s = markEmptied l (emptyHanded l (emptyEvent l k s)).settle := rfl

theorem emptyEvent_st (l : Line) (k : StackId) (s : State) : ∃ w, (emptyEvent l k s).st =
    (emptyState l k s).setStack k { s.stack k with state := .faulted, holder := none, waiters := w } := by
  obtain ⟨w, hw⟩ := StackEvent.setState_shut_st (.inr rfl) (StackEvent.of ((clearPick l k s).raise .stackFault)) k
  refine ⟨w, hw.trans ?_⟩
  have hs : ((clearPick l k s).raise .stackFault).stack k = { s.stack k with holder := none } := by simp [clearPick]
  change ((clearPick l k s).raise .stackFault).setStack k
    { ((clearPick l k s).raise .stackFault).stack k with state := .faulted, waiters := w } = _
  rw [hs]
  change (((s.setStack k _).setStack k _).setLine l _).raise _ = (((s.setStack k _).setStack k _).setLine l _).raise _
  rw [setStack_setStack, setStack_setStack]

theorem emptyEvent_line (l : Line) (k : StackId) (s : State) : (emptyEvent l k s).st.line l = (s.line l).unpicked := by
  obtain ⟨w, hw⟩ := emptyEvent_st l k s
  rw [hw]
  exact State.line_setLine_same s l _

theorem emptyHanded_stopping {e : StackEvent} (h : (e.st.line l).activity = .stopping) :
    emptyHanded l e = { e with st := enterOff l (reportDraw l .aborted e.st) } := by
  simp only [emptyHanded, h]

theorem emptyHanded_other {e : StackEvent} (h : (e.st.line l).activity ≠ .stopping) :
    emptyHanded l e = { e with told := e.told.set l true } := by
  unfold emptyHanded
  split
  · next hs => exact absurd hs h
  · rfl

theorem enterOff_emptied (l : Line) (s : State) : ((enterOff l s).line l).emptied = false := by
  obtain ⟨q, n, h⟩ := LineNow.enterOff l s
  rw [h.line]
  rfl

/-- The stack whose pick has ended empty stands faulted with no holder, whatever the lines select. -/
theorem pickEmptyOn_stack (l : Line) (k : StackId) (s : State) : ((pickEmptyOn l k s).stack k).holder = none := by
  obtain ⟨w, hw⟩ := emptyEvent_st l k s
  have hst : (emptyHanded l (emptyEvent l k s)).st.sk = (emptyEvent l k s).st.sk := by
    unfold emptyHanded
    split
    · rw [enterOff_sk, reportDraw_sk]
    · rfl
  have hk : (emptyHanded l (emptyEvent l k s)).st.stack k =
      { s.stack k with state := .faulted, holder := none, waiters := w } := by
    rw [State.stack, hst, hw]
    exact State.stack_setStack_same ..
  have hm : (pickEmptyOn l k s).stack k = (emptyHanded l (emptyEvent l k s)).settle.stack k := by
    rw [pickEmptyOn_eq, State.stack, State.stack, markEmptied_sk]
  rw [hm, StackEvent.settle_stack_shut (by rw [hk]; rfl), hk]

theorem pickEmptyOn_line (l : Line) (k : StackId) (s : State) :
    ((pickEmptyOn l k s).line l).emptied = true ↔ ((pickEmptyOn l k s).line l).activity = .picking := by
  refine markEmptied_line (StackEvent.settle_emptied ?_)
  unfold emptyHanded
  split
  · exact enterOff_emptied ..
  · change ((emptyEvent l k s).st.line l).emptied = false
    rw [emptyEvent_line]
    rfl

theorem pickEmptyOn_picking (h : (s.line l).activity = .picking) (k : StackId) :
    SelectsOnly (emptyState l k s) (pickEmptyOn l k s) ∧
    ((s.line l).mode = .run → (s.line l).exec = .hold → (pickEmptyOn l k s).line l = (s.line l).stood) := by
  obtain ⟨w, hw⟩ := emptyEvent_st l k s
  have hl := emptyEvent_line l k s
  have hstack : (emptyState l k s).stack k = { s.stack k with state := .faulted, holder := none } :=
    State.stack_setStack_same ..
  have he := emptyHanded_other (l := l) (e := emptyEvent l k s) (by rw [hl]; exact fun hc => by cases h.symm.trans hc)
  rw [pickEmptyOn_eq, he]
  refine ⟨?_, fun hm hx => ?_⟩
  · have h0 : SelectsOnly (emptyState l k s) (emptyEvent l k s).st := by
      rw [hw]
      exact .setStack (by rw [hstack]; exact ⟨rfl, rfl, rfl, rfl, rfl, rfl, rfl⟩)
    exact (h0.trans (StackEvent.settle_selectsOnly { emptyEvent l k s with told := (emptyEvent l k s).told.set l true })).trans
      (markEmptied_selectsOnly l _)
  · obtain ⟨u, hu, hset⟩ := StackEvent.settle_selects (l := l)
      (e := { emptyEvent l k s with told := (emptyEvent l k s).told.set l true }) (StackEvent.selects_told (by simp))
    have hul : u.line l = (s.line l).unpicked := hu.trans hl
    rw [reselect_stands (by rw [hul]; exact hm) (by rw [hul]; exact hx), State.line_setLine_same, hul] at hset
    rw [markEmptied_other (by rw [hset]; nofun), hset]
    rfl

theorem pickEmptyOn_stopping (h : (s.line l).activity = .stopping) (k : StackId) :
    SelectsOnly (enterOff l (reportDraw l .aborted (emptyState l k s))) (pickEmptyOn l k s) := by
  obtain ⟨w, hw⟩ := emptyEvent_st l k s
  have he := emptyHanded_stopping (l := l) (e := emptyEvent l k s) (by rw [emptyEvent_line]; exact h)
  have hstack : (enterOff l (reportDraw l .aborted (emptyState l k s))).stack k =
      { s.stack k with state := .faulted, holder := none } := by
    rw [State.stack, enterOff_sk, reportDraw_sk]
    exact State.stack_setStack_same (s.setLine l (s.line l).unpicked) k _
  rw [pickEmptyOn_eq, he, hw, reportDraw_setStack, enterOff_setStack]
  have hwait : SelectsOnly (enterOff l (reportDraw l .aborted (emptyState l k s)))
      ((enterOff l (reportDraw l .aborted (emptyState l k s))).setStack k
        { s.stack k with state := .faulted, holder := none, waiters := w }) := by
    refine .setStack ?_
    rw [hstack]
    exact ⟨rfl, rfl, rfl, rfl, rfl, rfl, rfl⟩
  exact hwait.trans ((StackEvent.settle_selectsOnly { emptyEvent l k s with st := _ }).trans
    (markEmptied_selectsOnly l _))

/-! ## Pick timeouts, stray signals and starvations (R160, R164, R165) -/

theorem exec_pickDone_stray (hr : s.pins.resetHeld = false) (h : heldStack (s.line l) = none) :
    exec (.pickDone l) s = .next (s.raise (.feederFault l)) := by
  rw [EventOf.taken (.pickDone l) hr]
  simp only [h]
  rfl

theorem exec_pickEmpty_stray (hr : s.pins.resetHeld = false) (h : heldStack (s.line l) = none) :
    exec (.pickEmpty l) s = .next (s.raise (.feederFault l)) := by
  rw [EventOf.taken (.pickEmpty l) hr]
  simp only [h]
  rfl

theorem exec_pickEmpty (hr : s.pins.resetHeld = false) (h : heldStack (s.line l) = some k) :
    exec (.pickEmpty l) s = .next (pickEmptyOn l k s) := by
  rw [EventOf.taken (.pickEmpty l) hr]
  simp only [h]

theorem pickTimeoutDue_iff (l : Line) (s : State) :
    pickTimeoutDue l s = true ↔ ∃ n, (s.line l).pickTimer = some n ∧ s.lines.pickLimit ≤ n := by
  simp [pickTimeoutDue, Option.any_eq_true]

theorem timeOutPick_idle (h : heldStack (s.line l) = none) : timeOutPick l s = s := by
  simp only [timeOutPick, h]

theorem timeOutPick_early (h : pickTimeoutDue l s = false) : timeOutPick l s = s := by
  unfold timeOutPick
  split
  · rfl
  · simp [h]

theorem timeOutPick_due (hk : heldStack (s.line l) = some k) (h : pickTimeoutDue l s = true) :
    timeOutPick l s = pickTimeoutOn l k s := by
  simp only [timeOutPick, hk, h, if_true]

theorem starveDue_iff (l : Line) (s : State) : starveDue l s = true ↔ (s.line l).activity = .starved ∧
    (s.line l).starveNoted = false ∧ s.lines.starveLimit ≠ 0 ∧
      ∃ n, (s.line l).starveTimer = some n ∧ s.lines.starveLimit ≤ n := by
  simp [starveDue, Option.any_eq_true, and_assoc]

/-- The state of a pick that has timed out, before the line's own outcome (R164). -/
def timedOutState (l : Line) (k : StackId) (s : State) : State :=
  ((s.setLine l (s.line l).unpicked).setStack k { s.stack k with holder := none }).raise (.feederFault l)

theorem pickTimeoutOn_eq (l : Line) (k : StackId) (s : State) : pickTimeoutOn l k s =
    ((StackEvent.of (timedOutLine l (timedOutState l k s))).grantCheck k).settle := rfl

theorem pickTimeoutOn_selectsOnly (l : Line) (k : StackId) (s : State) :
    SelectsOnly (timedOutLine l (timedOutState l k s)) (pickTimeoutOn l k s) :=
  ((StackEvent.of (timedOutLine l (timedOutState l k s))).grantCheck_selectsOnly k).trans
    (StackEvent.settle_selectsOnly _)

/-- A line faulted by a pick's timeout, with the result of its DIRECT draw (R164). -/
def LineState.timedOut (x : LineState) (o : Origin) : LineState :=
  { x.stood with
    activity := .fault, fault := some .feederTimeout, exec := .hold,
    lastDraw := if o = .direct then some .aborted else x.lastDraw }

theorem timedOutLine_picking {u : State} (ha : (u.line l).activity = .picking) (hd : (u.line l).draw = some d) :
    timedOutLine l u = ((if d.origin = .direct then u.raise (.drawDone l) else u).setLine l
      ((u.line l).timedOut d.origin)).raise (.lineStopped l) := by
  have hline : timedOutLine l u = faultLine l .feederTimeout (reportDraw l .aborted u) := by
    simp only [timedOutLine, ha]
  cases ho : d.origin with
  | direct =>
    rw [hline, reportDraw_direct hd ho, faultLine, State.line_raise, State.line_setLine_same]
    exact congrArg (fun t => (State.raise t (.drawDone l)).raise (.lineStopped l)) (setLine_setLine u l _ _)
  | ply =>
    rw [hline, reportDraw_ply fun d' hd' => ?_]
    · rfl
    · obtain rfl := Option.some.inj (hd.symm.trans hd')
      exact ho

theorem timedOutLine_stopping {u : State} (ha : (u.line l).activity = .stopping) :
    timedOutLine l u = enterOff l (reportDraw l .aborted u) := by
  simp only [timedOutLine, ha]

/-- Settles O50: each end of a pick by what the line was doing with it. -/
theorem picksEndWithoutSheet : Obligations.PicksEndWithoutSheet := by
  intro s l hr x
  refine ⟨fun hp hs => ?_, fun hn => ?_, fun d k hd hk ha => ?_, ?_⟩
  · have hk := heldStack_none hp hs
    refine ⟨exec_pickDone_stray hr hk, exec_pickEmpty_stray hr hk, ?_⟩
    rw [EventOf.taken (.pickTimeout l) hr, timeOutPick_idle hk]
  · rw [EventOf.taken (.pickTimeout l) hr, timeOutPick_early (Bool.eq_false_iff.mpr fun hc => ?_)]
    obtain ⟨n, hn', hle⟩ := (pickTimeoutDue_iff l s).mp hc
    exact absurd hle (Nat.not_le.mpr (hn n hn'))
  · intro y ended alone
    have hheld : heldStack x = some k := heldStack_eq_some.mpr ⟨ha, d, hd, hk⟩
    refine ⟨fun he => ?_, ?_⟩
    · have hline : alone.line l = { x with emptied := false } := State.line_setLine_same ..
      have hra : alone.pins.resetHeld = false := hr
      rw [exec_pickDone (s := alone) (k := k) hra (by rw [hline]; exact hheld) (by rw [hline]),
        EventOf.taken (.pickDone l) hr]
      simp only [show heldStack (s.line l) = some k from hheld, show (s.line l).emptied = true from he, if_true,
        pickDoneAfterEmpty]
      split <;> rfl
    · intro faulted timedOut
      refine ⟨⟨pickEmptyOn l k s, exec_pickEmpty hr hheld, pickEmptyOn_stack l k s, pickEmptyOn_line l k s,
        fun hp => pickEmptyOn_picking hp k, fun hs => pickEmptyOn_stopping hs k⟩, fun n hn hle => ?_⟩
      have hline : (timedOutState l k s).line l = x.unpicked := State.line_setLine_same s l _
      have hstack : (timedOutState l k s).stack k = { y with holder := none } :=
        State.stack_setStack_same (s.setLine l x.unpicked) k _
      refine ⟨pickTimeoutOn l k s, ?_, fun hs => ?_, fun hp => ?_⟩
      · rw [EventOf.taken (.pickTimeout l) hr, timeOutPick_due hheld ((pickTimeoutDue_iff l s).mpr ⟨n, hn, hle⟩)]
      · have h := pickTimeoutOn_selectsOnly l k s
        rwa [timedOutLine_stopping (by rw [hline]; exact hs)] at h
      · intro after told u
        have hu : timedOutLine l (timedOutState l k s) = u := by
          rw [timedOutLine_picking (d := d) (by rw [hline]; exact hp) (by rw [hline]; exact hd), hline]
          rfl
        have hul : u.line l = after := State.line_setLine_same told l after
        have hust : u.stack k = { y with holder := none } := by
          have : told.sk = (timedOutState l k s).sk := by
            change State.sk (if d.origin = .direct then _ else _) = _
            split <;> rfl
          change State.stack (told.setLine l after) k = _
          rw [State.stack_setLine, State.stack, this]
          exact hstack
        have hend : pickTimeoutOn l k s = ((StackEvent.of u).grantCheck k).settle := by
          rw [pickTimeoutOn_eq, hu]
        refine ⟨?_, fun hw => ?_, fun hun => ?_⟩
        · rw [← hu]
          exact pickTimeoutOn_selectsOnly l k s
        · obtain ⟨g1, g2⟩ := StackEvent.grantCheck_line (e := .of u) (k := k) (l := l)
            (by change (u.stack k).waiters.get l = none; rw [hust]; exact hw)
          have hl : ((StackEvent.of u).grantCheck k).st.line l = after := g1.trans hul
          have ht : ((StackEvent.of u).grantCheck k).told.get l = false := g2.trans (by cases l <;> rfl)
          rw [hend, StackEvent.settle_line (StackEvent.selects_eq_false ht (by rw [hl]; nofun)), hl]
        · have hunu : Unwatched u := by
            have hst : Unwatched ((s.setLine l x.unpicked).setStack k { y with holder := none }) :=
              StackEvent.Unwatched.setStack (hun.setLine (x := x.unpicked) (hun.2 l)) { y with holder := none } (hun.1 k)
            have htold : Unwatched told := by
              change Unwatched (if d.origin = .direct then _ else _)
              split
              · exact hst
              · exact hst
            exact htold.setLine (l := l) (x := after) nofun
          have he := StackEvent.Unwatched.of hunu
          rw [hend, he.grantCheck, he.settle]
          rfl
  · intro due
    refine ⟨fun hd => ?_, fun hd => ?_⟩
    · rw [EventOf.taken (.lineStarved l) hr, noticeStarved, if_pos ((starveDue_iff l s).mpr hd)]
    · rw [EventOf.taken (.lineStarved l) hr, noticeStarved, if_neg (fun hc => hd ((starveDue_iff l s).mp hc))]

end Sys2Proof.Machine
end

section
/-!
PROOFS. Lines that select again: what each makes of the stacks, which of them an event calls, and the events a starved line
hears; the statement WithdrawnAndStarvedLinesSelectAgain.
-/

namespace Sys2Proof.Machine

variable {s t : State} {e : StackEvent} {k : StackId} {l : Line} {d : Draw} {p : Port} {tag : Byte}

/-! ## The lines an event calls (R159, R160) -/

theorem StackEvent.selects_iff (e : StackEvent) (l : Line) : e.selects l = true ↔
    e.told.get l = true ∨ (e.heard.get l = true ∧ (e.st.line l).activity = .starved) := by
  simp [StackEvent.selects]

theorem StackEvent.settle_one (h : e.selects l = true) (ho : e.selects (otherLine l) = false) :
    e.settle = reselect l e.st := by
  cases l with
  | a =>
    have hb : e.selects .b = false := ho
    simp only [StackEvent.settle, h, hb]
  | b =>
    have ha : e.selects .a = false := ho
    simp only [StackEvent.settle, h, ha]

theorem StackEvent.settle_none (h : ∀ l, e.selects l = false) : e.settle = e.st := by
  simp only [StackEvent.settle, h]

theorem StackEvent.settle_both (h : ∀ l, e.selects l = true) : ∃ first,
    e.settle = reselect (otherLine first) (reselect first { e.st with choices := e.st.choices + 1 }) := by
  simp only [StackEvent.settle, h]
  split
  · exact ⟨.a, rfl⟩
  · exact ⟨.b, rfl⟩

/-- An event that has told nobody calls the one line that is starved, if it hears of it. -/
theorem StackEvent.settle_heard (ht : e.told = ⟨false, false⟩) (hs : (e.st.line l).activity = .starved)
    (ho : (e.st.line (otherLine l)).activity ≠ .starved) :
    e.settle = if e.heard.get l then reselect l e.st else e.st := by
  have htold (m : Line) : e.told.get m = false := by rw [ht]; cases m <;> rfl
  have hother : e.selects (otherLine l) = false := StackEvent.selects_eq_false (htold _) ho
  by_cases hh : e.heard.get l = true
  · rw [if_pos hh, StackEvent.settle_one ((e.selects_iff l).mpr (.inr ⟨hh, hs⟩)) hother]
  · rw [if_neg hh, StackEvent.settle_none fun m => ?_]
    by_cases hm : m = l
    · subst hm
      exact Bool.eq_false_iff.mpr fun hc => by
        rcases (e.selects_iff m).mp hc with hc | hc
        · rw [htold] at hc
          cases hc
        · exact hh hc.1
    · have hml : m = otherLine l := by cases m <;> cases l <;> first | rfl | exact absurd rfl hm
      rw [hml]
      exact hother

/-! ## Events a starved line hears, where nobody waits -/

section Heard

variable (hw : ∀ k, (s.stack k).waiters = ⟨none, none⟩) (hs : (s.line l).activity = .starved)
  (ho : (s.line (otherLine l)).activity ≠ .starved)

include hw hs ho

theorem landOn_heard (k : StackId) : landOn k s =
    if (s.stack k).access.get l then reselect l (pushFalling k false s) else pushFalling k false s := by
  let e : StackEvent := (StackEvent.of (pushFalling k false s)).announceTo (s.stack k).access
  have hpush : ((pushFalling k false s).stack k).waiters = ⟨none, none⟩ ∧
      ∀ m, (pushFalling k false s).line m = s.line m := by
    cases hf : (s.stack k).falling with
    | nil => rw [pushFalling_none hf]; exact ⟨hw k, fun _ => rfl⟩
    | cons f rest => rw [pushFalling_confirmed hf, State.stack_setStack_same]; exact ⟨hw k, fun _ => rfl⟩
  have he : e.grantCheck k = e := StackEvent.grantCheck_unwaited hpush.1
  have hheard : e.heard.get l = (s.stack k).access.get l := by
    cases l <;> exact Bool.false_or _
  change (e.grantCheck k).settle = _
  rw [he, StackEvent.settle_heard rfl ((hpush.2 l).symm ▸ hs) ((hpush.2 _).symm ▸ ho), hheard]
  rfl

theorem setState_heard {new : StackState} (hn : (s.stack k).state ≠ new) :
    ((StackEvent.of s).setState k new).settle =
      reselect l (s.setStack k { s.stack k with state := new }) := by
  rw [StackEvent.setState_unwaited (e := .of s) (hw k) hn, StackEvent.settle_heard rfl hs ho]
  cases l <;> rfl

theorem changeAccess_heard (k : StackId) (m : PerLine Bool) :
    changeAccess k m s = reselect l (s.setStack k { s.stack k with access := m }) := by
  have hwait : ((accessEvent k m s).st.stack k).waiters = ⟨none, none⟩ := by
    rw [accessEvent_stack]
    exact hw k
  rw [changeAccess_eq, removeLine_unwaited hwait, removeLine_unwaited hwait, StackEvent.settle_heard rfl hs ho]
  cases l <;> rfl

end Heard

/-! ## What a selection makes of the line (R158, R160) -/

theorem beginPick_eq (hd : (s.line l).draw = some d) (k : StackId) : beginPick l k s =
    (s.setStack k { s.stack k with
      holder := some l, lastGrant := some l, waiters := (s.stack k).waiters.set l none }).setLine l
      { s.line l with
        activity := .picking, draw := some { d with stack := some k }, pickReq := some k, pickTimer := some 0,
        starveTimer := none, starveNoted := false } := by
  simp only [beginPick, hd, Option.map_some]

theorem joinWaiters_eq (hd : (s.line l).draw = some d) (k : StackId) (g : GradeSet) : joinWaiters l k g s =
    (s.setStack k { s.stack k with waiters := (s.stack k).waiters.set l (some g) }).setLine l
      { s.line l with
        activity := .waitingTop, draw := some { d with stack := some k }, starveTimer := none, starveNoted := false } := by
  simp only [joinWaiters, hd, Option.map_some]

/-- Settles O48: a selection by its outcome, and the end of an event by which of the lines select. -/
theorem withdrawnAndStarvedLinesSelectAgain : Obligations.WithdrawnAndStarvedLinesSelectAgain := by
  refine ⟨fun s l => ?_, fun e => ?_, fun s l hr hw hs ho => ⟨fun k => ?_, fun k d r rest => ?_, fun p tag k h => ?_⟩⟩
  · intro y ends
    refine ⟨reselect_stands, fun hn => ?_⟩
    have hends : ends = select l s := reselect_selects hn
    refine ⟨fun hd => hends.trans (select_none hd), fun d hd => ?_⟩
    intro grade candidate free before placed
    have hc (k : StackId) : candidate k ↔ Offered s l d.grades k := and_assoc.symm
    refine ⟨fun k hk hf hb => ?_, fun k hk hf hb => ?_, fun hno => ?_⟩
    · rw [hends, select_free hd ((hc k).mp hk) hf fun j hj => hb j ((hc j).mpr hj), beginPick_eq hd]
    · rw [hends, select_waits hd ((hc k).mp hk) (fun j hj => hf j ((hc j).mpr hj)) fun j hj => hb j ((hc j).mpr hj),
        joinWaiters_eq hd]
    · have hst : ends = starve l s := hends.trans (select_starves hd fun k hk => hno k ((hc k).mpr hk))
      refine ⟨fun ha => hst.trans (starve_starved ha), fun ha => ?_⟩
      rw [hst, starve_begins ha, hd]
      rfl
  · intro again
    have ha (l : Line) : again l ↔ e.selects l = true := (e.selects_iff l).symm
    have hn {l : Line} (h : ¬ again l) : e.selects l = false := Bool.eq_false_iff.mpr fun hc => h ((ha l).mpr hc)
    exact ⟨fun l h ho => StackEvent.settle_one ((ha l).mp h) (hn ho), fun h => StackEvent.settle_none fun l => hn (h l),
      fun h => StackEvent.settle_both fun l => (ha l).mp (h l)⟩
  · intro x landed
    have hl : pushFalling k false s = landed := by
      cases hf : (s.stack k).falling with
      | nil => simp only [landed, x, hf, pushFalling_none hf]
      | cons f rest => simp only [landed, x, hf, pushFalling_confirmed hf]
    rw [EventOf.taken (.landing k) hr, landOn_heard hw hs ho, hl]
  · intro m z x ha he hd hk hor hi hdr manner done
    have hml : l ≠ m := otherLine_ne l
    have hheld : heldStack z = some k := heldStack_eq_some.mpr ⟨.inl ha, d, hd, hk⟩
    have hline : ((s.setStack k { x with inventory := rest, holder := none }).setLine m (z.plied r k d.role)).line m =
        z.plied r k d.role := State.line_setLine_same ..
    have hdone : finishDraw m (movePly m k (clearPick m k s)) = done := by
      rw [movePly_clearPick hd hi, finishDraw_ply (by rw [hline]; exact ha) (by rw [hline]; exact hd) hor,
        completeStep_next, hline, setLine_setLine]
      rfl
    have hst : done.stack k = { x with inventory := rest, holder := none } := State.stack_setStack_same s k _
    let e : StackEvent := (StackEvent.of done).announceTo (done.stack k).access
    have hclose : e.drainClose k = e := by
      refine StackEvent.drainClose_other fun hc => hdr ?_
      have : (done.stack k).Drained := hc
      rw [hst] at this
      exact this
    have hgrant : e.grantCheck k = e := by
      refine StackEvent.grantCheck_unwaited ?_
      change (done.stack k).waiters = _
      rw [hst]
      exact hw k
    have hl : done.line l = s.line l := State.line_setLine_other _ _ hml
    have hm : (done.line m).activity = .idle := congrArg LineState.activity (State.line_setLine_same ..)
    have hheard : e.heard.get l = x.access.get l := by
      have : e.heard.get l = (done.stack k).access.get l := by cases l <;> exact Bool.false_or _
      rw [this, hst]
    rw [exec_pickDone hr hheld he, pickDoneOn_eq, hdone]
    change Host.Outcome.next ((e.drainClose k).grantCheck k).settle = _
    rw [hclose, hgrant, StackEvent.settle_heard rfl (hl.symm ▸ hs) (by
      change (done.line m).activity ≠ _
      rw [hm]
      nofun), hheard]
    rfl
  · intro hunt x answers
    have hx {new : StackState} (hn : x.state ≠ new) : ((StackEvent.of hunt).setState k new).settle =
        reselect l (hunt.setStack k { x with state := new }) := setState_heard (s := hunt) hw hs ho hn
    refine ⟨fun hst => ?_, fun hst => ?_, fun a b => ?_⟩
    · have h1 : x.state ≠ .faulted := by rcases hst with hst | hst <;> rw [hst] <;> nofun
      have h2 : x.state ≠ .opened := by rcases hst with hst | hst <;> rw [hst] <;> nofun
      refine (receiveRequest_whole (serveOpenStack p tag _) h.whole).trans (serve_ok h ?_)
      exact (openStack_eq (stackOf_b8 k) hunt).trans ((stateReply_ok (s := hunt) h1 _).trans (by rw [hx h2]; rfl))
    · have h1 : x.state ≠ .faulted := by rcases hst with hst | hst <;> rw [hst] <;> nofun
      have h2 : x.state ≠ .closed := by rcases hst with hst | hst <;> rw [hst] <;> nofun
      refine (receiveRequest_whole (serveCloseStack p tag _) h.whole).trans (serve_ok h ?_)
      exact (closeStack_eq (stackOf_b8 k) hunt).trans ((stateReply_ok (s := hunt) h1 _).trans (by rw [hx h2]; rfl))
    · refine (receiveRequest_whole (serveSetStackAccess p tag _) h.whole).trans (serve_ok h ?_)
      rw [setStackAccess_eq, changeAccess_heard (s := hunt) hw hs ho]
      rfl

end Sys2Proof.Machine
end

section
/-!
PROOFS. The emergency stop: what one line's stop leaves unchanged, and each line's stop by its mode and activity; the
statement EmergencyStopStopsBothLines.
-/

namespace Sys2Proof.Machine

variable {s t u : State} {k : StackId} {l m : Line} {p : Port} {d : Draw}

/-! ## What the stop of a line leaves unchanged -/

/-- Whatever line `l` does as it stops: every block but the stacks, the gradings and `l` itself stands, no FEEDER_FAULT is
raised, no top is given to a line, and the other line waits where it did. -/
structure EstopKept (l : Line) (s t : State) : Prop where
  pins     : t.pins = s.pins
  intake   : t.intake = s.intake
  tables   : t.tables = s.tables
  caches   : t.caches = s.caches
  tracking : t.tracking = s.tracking
  routing  : t.routing = s.routing
  pending  : t.pending = s.pending
  choices  : t.choices = s.choices
  port     : ∀ p, ∃ n : BitVec 32, t.port p = { s.port p with notices := (s.port p).notices ||| n } ∧
    ∀ m, n.getLsbD (Notice.feederFault m).number = false
  stack    : ∀ k, ∃ holder waiters, t.stack k = { s.stack k with holder := holder, waiters := waiters } ∧
    (holder = none ∨ holder = (s.stack k).holder) ∧ ∀ m, m ≠ l → waiters.get m = (s.stack k).waiters.get m
  line     : ∀ m, m ≠ l → t.line m = s.line m

namespace EstopKept

theorem refl (l : Line) (s : State) : EstopKept l s s where
  pins := rfl
  intake := rfl
  tables := rfl
  caches := rfl
  tracking := rfl
  routing := rfl
  pending := rfl
  choices := rfl
  port p := ⟨0, by simp, by simp⟩
  stack k := ⟨_, _, rfl, .inr rfl, fun _ _ => rfl⟩
  line _ _ := rfl

theorem setLine (h : EstopKept l s t) (x : LineState) : EstopKept l s (t.setLine l x) :=
  { h with line := fun m hm => (State.line_setLine_other _ _ hm).trans (h.line m hm) }

theorem raise (h : EstopKept l s t) {n : Notice} (hn : ∀ m, n ≠ .feederFault m) : EstopKept l s (t.raise n) :=
  { h with
    port := fun p => by
      obtain ⟨b, hp, hb⟩ := h.port p
      refine ⟨b ||| n.bit, ?_, fun m => ?_⟩
      · rw [← BitVec.or_assoc, show (s.port p).notices ||| b = (t.port p).notices by rw [hp], ← raise_notices]
        cases p <;> simp only [State.raise, State.port, PerPort.get] at hp ⊢ <;> rw [hp]
      · rw [BitVec.getLsbD_or, hb, n.getLsbD_bit]
        simpa using fun e => hn m (Notice.number_injective e).symm }

theorem abandonAll (h : EstopKept l s t) (rs : List SheetRecord) : EstopKept l s (t.abandonAll rs) := by
  rw [abandonAll_eq]
  exact { h with }

/-- A top given up by its holder. -/
theorem unheld (h : EstopKept l s t) (k : StackId) : EstopKept l s (t.setStack k { t.stack k with holder := none }) :=
  { h with
    stack := fun j => by
      obtain ⟨holder, waiters, hj, hh, hw⟩ := h.stack j
      by_cases e : j = k
      · subst e
        exact ⟨none, waiters, by rw [State.stack_setStack_same, hj], .inl rfl, hw⟩
      · exact ⟨holder, waiters, (State.stack_setStack_other _ _ e).trans hj, hh, hw⟩ }

theorem leaveWaiters (h : EstopKept l s t) (k : StackId) : EstopKept l s (leaveWaiters l k t) :=
  { h with
    stack := fun j => by
      obtain ⟨holder, waiters, hj, hh, hw⟩ := h.stack j
      by_cases e : j = k
      · subst e
        exact ⟨holder, waiters.set l none, by rw [Machine.leaveWaiters, State.stack_setStack_same, hj], hh,
          fun m hm => (PerLine.get_set_other _ _ hm).trans (hw m hm)⟩
      · exact ⟨holder, waiters, (State.stack_setStack_other _ _ e).trans hj, hh, hw⟩ }

theorem reportDraw (h : EstopKept l s t) (r : DrawResult) : EstopKept l s (reportDraw l r t) := by
  rcases reportDraw_cases l r t with e | e
  · rw [e]
    exact h
  · rw [e]
    exact (h.setLine _).raise (by simp)

theorem enterOff (h : EstopKept l s t) : EstopKept l s (enterOff l t) := by
  by_cases hp : (t.line l).openPanel = []
  · rw [enterOff_empty hp]
    exact h.setLine _
  · by_cases hq : (t.line l).panelQueue.length < 4
    · rw [enterOff_queued hp hq]
      exact (h.setLine _).raise (by simp)
    · rw [enterOff_dropped hp (Nat.not_lt.mp hq)]
      exact ((h.abandonAll _).setLine _).raise (by simp)

/-- A notice raised stays raised. -/
theorem told (h : EstopKept l s t) {i : Nat} (hi : (s.port p).notices.getLsbD i = true) :
    (t.port p).notices.getLsbD i = true := by
  obtain ⟨n, hp, -⟩ := h.port p
  rw [hp, BitVec.getLsbD_or, hi, Bool.true_or]

theorem feederFault (h : EstopKept l s t) (p : Port) (m : Line) :
    (t.port p).notices.getLsbD (Notice.feederFault m).number = (s.port p).notices.getLsbD (Notice.feederFault m).number := by
  obtain ⟨n, hp, hn⟩ := h.port p
  rw [hp, BitVec.getLsbD_or, hn, Bool.or_false]

theorem waiters (h : EstopKept l s t) (hm : m ≠ l) (k : StackId) :
    (t.stack k).waiters.get m = (s.stack k).waiters.get m := by
  obtain ⟨_, w, hk, -, hw⟩ := h.stack k
  rw [hk]
  exact hw m hm

theorem holder_none (h : EstopKept l s t) (hk : (s.stack k).holder = none) : (t.stack k).holder = none := by
  obtain ⟨_, w, ht, hh, -⟩ := h.stack k
  rw [ht]
  exact hh.elim id (·.trans hk)

end EstopKept

/-! ## A line taken off its stack top -/

/-- A line that holds a top gives it up, and one that waits at a top leaves its waiters (R135, R165). -/
def takenOff (l : Line) (s : State) : State := withdrawLine l (abortPick l s)

theorem takenOff_holding (h : heldStack (s.line l) = some k) : takenOff l s = clearPick l k s := by
  rw [takenOff, abortPick, h]
  refine withdrawLine_other ?_
  rw [clearPick_line]
  change (s.line l).activity ≠ .waitingTop
  rcases (heldStack_eq_some.mp h).1 with e | e <;> rw [e] <;> nofun

theorem takenOff_unheld (h : heldStack (s.line l) = none) : takenOff l s = withdrawLine l s := by
  rw [takenOff, abortPick, h]

theorem heldStack_eq_none (hp : (s.line l).activity ≠ .picking) (hs : (s.line l).activity ≠ .stopping) :
    heldStack (s.line l) = none :=
  Option.eq_none_iff_forall_ne_some.mpr fun _ h => (heldStack_eq_some.mp h).1.elim hp hs

theorem takenOff_waiting (ha : (s.line l).activity = .waitingTop) (hd : (s.line l).draw = some d) (hk : d.stack = some k) :
    takenOff l s = leaveWaiters l k s :=
  (takenOff_unheld (heldStack_eq_none (by rw [ha]; nofun) (by rw [ha]; nofun))).trans (withdrawLine_waiting ha hd hk)

/-- A line neither holds a top nor waits at one. -/
theorem takenOff_apart (h : heldStack (s.line l) = none)
    (hw : ∀ d k, (s.line l).activity = .waitingTop → (s.line l).draw = some d → d.stack ≠ some k) : takenOff l s = s := by
  rw [takenOff_unheld h, withdrawLine]
  split
  · next k ha hk =>
    obtain ⟨d, hd, hk⟩ := Option.bind_eq_some_iff.mp hk
    exact absurd hk (hw d k ha hd)
  · rfl

theorem takenOff_cases (l : Line) (s : State) :
    (∃ k, heldStack (s.line l) = some k ∧ takenOff l s = clearPick l k s) ∨
    (∃ d k, (s.line l).activity = .waitingTop ∧ (s.line l).draw = some d ∧ d.stack = some k ∧
      takenOff l s = leaveWaiters l k s) ∨
    (heldStack (s.line l) = none ∧
      (∀ d k, (s.line l).activity = .waitingTop → (s.line l).draw = some d → d.stack ≠ some k) ∧ takenOff l s = s) := by
  cases hk : heldStack (s.line l) with
  | some k => exact .inl ⟨k, rfl, takenOff_holding hk⟩
  | none =>
    by_cases hw : ∀ d k, (s.line l).activity = .waitingTop → (s.line l).draw = some d → d.stack ≠ some k
    · exact .inr (.inr ⟨rfl, hw, takenOff_apart hk hw⟩)
    · push Not at hw
      obtain ⟨d, k, ha, hd, hk⟩ := hw
      exact .inr (.inl ⟨d, k, ha, hd, hk, takenOff_waiting ha hd hk⟩)

theorem takenOff_kept (l : Line) (s : State) : EstopKept l s (takenOff l s) := by
  rcases takenOff_cases l s with ⟨k, -, e⟩ | ⟨d, k, -, -, -, e⟩ | ⟨-, -, e⟩
  · rw [e]
    exact ((EstopKept.refl l s).unheld k).setLine _
  · rw [e]
    exact (EstopKept.refl l s).leaveWaiters k
  · rw [e]
    exact .refl l s

theorem takenOff_grading (l : Line) (s : State) : (takenOff l s).grading = s.grading := by
  rcases takenOff_cases l s with ⟨k, -, e⟩ | ⟨d, k, -, -, -, e⟩ | ⟨-, -, e⟩ <;> rw [e] <;> rfl

theorem takenOff_line (l : Line) (s : State) :
    ∃ r i e, (takenOff l s).line l = { s.line l with pickReq := r, pickTimer := i, emptied := e } := by
  rw [takenOff, withdrawLine_line]
  exact abortPick_line l s

theorem takenOff_holder (h : heldStack (s.line l) = some k) : ((takenOff l s).stack k).holder = none := by
  rw [takenOff_holding h, clearPick, State.stack_setLine, State.stack_setStack_same]

theorem takenOff_left (ha : (s.line l).activity = .waitingTop) (hd : (s.line l).draw = some d) (hk : d.stack = some k) :
    ((takenOff l s).stack k).waiters.get l = none := by
  rw [takenOff_waiting ha hd hk, leaveWaiters, State.stack_setStack_same]
  exact PerLine.get_set_same ..

/-- Only a line that waits at the top leaves its waiters. -/
theorem takenOff_stays (h : ¬ ((s.line l).activity = .waitingTop ∧ ∃ d, (s.line l).draw = some d ∧ d.stack = some k)) :
    ((takenOff l s).stack k).waiters.get l = (s.stack k).waiters.get l := by
  rcases takenOff_cases l s with ⟨j, -, e⟩ | ⟨d, j, ha, hd, hj, e⟩ | ⟨-, -, e⟩
  · rw [e, clearPick, State.stack_setLine]
    by_cases ek : k = j
    · subst ek
      rw [State.stack_setStack_same]
    · rw [State.stack_setStack_other _ _ ek]
  · have ek : k ≠ j := fun ek => h ⟨ha, d, hd, ek ▸ hj⟩
    rw [e, leaveWaiters, State.stack_setStack_other _ _ ek]
  · rw [e]

/-! ## A line's stop by its mode and activity (R155, R165) -/

theorem estopLine_fault (h : (s.line l).activity = .fault) : estopLine l s = s := by
  simp only [estopLine, h]

theorem estopLine_stopping (h : (s.line l).activity = .stopping) :
    estopLine l s = enterOff l (reportDraw l .aborted (takenOff l s)) := by
  simp only [estopLine, h]
  rfl

theorem estopLine_run (hf : (s.line l).activity ≠ .fault) (hs : (s.line l).activity ≠ .stopping)
    (hm : (s.line l).mode = .run) :
    estopLine l s = (takenOff l s).setLine l { (s.line l).stood with exec := .hold } := by
  obtain ⟨r, i, e, hl⟩ := takenOff_line l s
  have hstood : ((takenOff l s).line l).stood = (s.line l).stood := by rw [hl]; rfl
  rw [← hstood, estopLine]
  split
  · next ha => exact absurd ha hf
  · next ha => exact absurd ha hs
  · rfl
  · next hd _ _ => rw [hm] at hd; cases hd
  · next ho _ _ => rw [hm] at ho; cases ho
  · next hl _ _ => rw [hm] at hl; cases hl

theorem estopLine_direct (hf : (s.line l).activity ≠ .fault) (hs : (s.line l).activity ≠ .stopping)
    (hm : (s.line l).mode = .direct) : estopLine l s = if (s.line l).draw.isSome then
      (reportDraw l .aborted (takenOff l s)).setLine l ((reportDraw l .aborted (takenOff l s)).line l).stood else s := by
  rw [estopLine]
  split
  · next ha => exact absurd ha hf
  · next ha => exact absurd ha hs
  · next hr _ _ => rw [hm] at hr; cases hr
  · rfl
  · next ho _ _ => rw [hm] at ho; cases ho
  · next hl _ _ => rw [hm] at hl; cases hl

theorem estopLine_still (hs : (s.line l).activity ≠ .stopping) (hm : (s.line l).mode = .off ∨ (s.line l).mode = .load) :
    estopLine l s = s := by
  unfold estopLine
  split
  · rfl
  · next ha => exact absurd ha hs
  · next hr _ _ => rw [hr] at hm; exact hm.elim nofun nofun
  · next hd _ _ => rw [hd] at hm; exact hm.elim nofun nofun
  · rfl
  · rfl

/-- The line in DIRECT with its draw ABORTED (R155, R167). -/
theorem estopLine_drawing (hf : (s.line l).activity ≠ .fault) (hs : (s.line l).activity ≠ .stopping)
    (hm : (s.line l).mode = .direct) (hd : (s.line l).draw = some d) (ho : d.origin = .direct) :
    estopLine l s =
      ((takenOff l s).setLine l { (s.line l).stood with lastDraw := some .aborted }).raise (.drawDone l) := by
  obtain ⟨r, i, e, hl⟩ := takenOff_line l s
  have hd' : ((takenOff l s).line l).draw = some d := by rw [hl]; exact hd
  rw [estopLine_direct hf hs hm, if_pos (by rw [hd]; rfl), reportDraw_direct hd' ho, State.line_raise,
    State.line_setLine_same, hl]
  exact congrArg (State.raise · _) (setLine_setLine (takenOff l s) l _ _)

/-- Every way a line stops. -/
theorem estopLine_cases (l : Line) (s : State) :
    estopLine l s = s ∨
    (s.line l).activity = .stopping ∧ estopLine l s = enterOff l (reportDraw l .aborted (takenOff l s)) ∨
    (s.line l).activity ≠ .stopping ∧
      ∃ u x, (u = takenOff l s ∨ u = reportDraw l .aborted (takenOff l s)) ∧ estopLine l s = u.setLine l x := by
  by_cases hf : (s.line l).activity = .fault
  · exact .inl (estopLine_fault hf)
  by_cases hs : (s.line l).activity = .stopping
  · exact .inr (.inl ⟨hs, estopLine_stopping hs⟩)
  cases hm : (s.line l).mode with
  | run => exact .inr (.inr ⟨hs, _, _, .inl rfl, estopLine_run hf hs hm⟩)
  | off => exact .inl (estopLine_still hs (.inl hm))
  | load => exact .inl (estopLine_still hs (.inr hm))
  | direct =>
    by_cases hd : (s.line l).draw.isSome
    · exact .inr (.inr ⟨hs, _, _, .inr rfl, (estopLine_direct hf hs hm).trans (if_pos hd)⟩)
    · exact .inl ((estopLine_direct hf hs hm).trans (if_neg hd))

theorem estopLine_kept (l : Line) (s : State) : EstopKept l s (estopLine l s) := by
  have ht := takenOff_kept l s
  rcases estopLine_cases l s with e | ⟨-, e⟩ | ⟨-, u, x, hu, e⟩
  · rw [e]
    exact .refl l s
  · rw [e]
    exact (ht.reportDraw _).enterOff
  · rw [e]
    rcases hu with rfl | rfl
    · exact ht.setLine _
    · exact (ht.reportDraw _).setLine _

/-- A line that stands off the stack tops stops as it is, one that stops there is taken off them. -/
theorem estopLine_sk (h : (s.line l).activity = .stopping ∨ (s.line l).activity ≠ .fault ∧
    ((s.line l).mode = .run ∨ (s.line l).mode = .direct ∧ (s.line l).draw.isSome = true)) :
    (estopLine l s).sk = (takenOff l s).sk := by
  by_cases hs : (s.line l).activity = .stopping
  · rw [estopLine_stopping hs, enterOff_sk, reportDraw_sk]
  · obtain ⟨hf, hm | ⟨hm, hd⟩⟩ := h.resolve_left hs
    · rw [estopLine_run hf hs hm]
      rfl
    · rw [estopLine_direct hf hs hm, if_pos hd]
      exact reportDraw_sk l .aborted _

theorem stack_of_sk (h : t.sk = s.sk) (k : StackId) : t.stack k = s.stack k := by
  simp only [State.stack, h]

/-! ## The clauses of the statement, line by line -/

section Clauses

theorem estopLine_holder (ha : (s.line l).activity = .picking ∨ (s.line l).activity = .stopping)
    (hd : (s.line l).draw = some d) (hk : d.stack = some k) (hm : (s.line l).mode = .run ∨ (s.line l).mode = .direct) :
    ((estopLine l s).stack k).holder = none := by
  have hsk : (estopLine l s).sk = (takenOff l s).sk := estopLine_sk (ha.symm.imp_right fun ha =>
    ⟨by rw [ha]; nofun, hm.imp_right fun hm => ⟨hm, by rw [hd]; rfl⟩⟩)
  rw [stack_of_sk hsk]
  exact takenOff_holder (heldStack_eq_some.mpr ⟨ha, d, hd, hk⟩)

theorem estopLine_left (ha : (s.line l).activity = .waitingTop) (hm : (s.line l).mode = .run ∨ (s.line l).mode = .direct)
    (hd : (s.line l).draw = some d) (hk : d.stack = some k) : ((estopLine l s).stack k).waiters.get l = none := by
  have hsk : (estopLine l s).sk = (takenOff l s).sk := estopLine_sk (.inr
    ⟨by rw [ha]; nofun, hm.imp_right fun hm => ⟨hm, by rw [hd]; rfl⟩⟩)
  rw [stack_of_sk hsk]
  exact takenOff_left ha hd hk

theorem estopLine_stays (h : ¬ ((s.line l).activity = .waitingTop ∧ ((s.line l).mode = .run ∨ (s.line l).mode = .direct) ∧
    ∃ d, (s.line l).draw = some d ∧ d.stack = some k)) :
    ((estopLine l s).stack k).waiters.get l = (s.stack k).waiters.get l := by
  by_cases hw : (s.line l).activity = .waitingTop ∧ ∃ d, (s.line l).draw = some d ∧ d.stack = some k
  · obtain ⟨ha, hd⟩ := hw
    have hm : (s.line l).mode = .off ∨ (s.line l).mode = .load := by
      cases hm : (s.line l).mode with
      | off => exact .inl rfl
      | load => exact .inr rfl
      | run => exact absurd ⟨ha, .inl hm, hd⟩ h
      | direct => exact absurd ⟨ha, .inr hm, hd⟩ h
    rw [estopLine_still (by rw [ha]; nofun) hm]
  · rcases estopLine_cases l s with e | ⟨-, e⟩ | ⟨-, u, x, hu, e⟩
    · rw [e]
    · rw [e, stack_of_sk (t := enterOff l (reportDraw l .aborted (takenOff l s))) (s := takenOff l s)
        ((enterOff_sk ..).trans (reportDraw_sk ..))]
      exact takenOff_stays hw
    · rw [e, State.stack_setLine]
      rcases hu with rfl | rfl
      · exact takenOff_stays hw
      · rw [stack_of_sk (reportDraw_sk l .aborted (takenOff l s))]
        exact takenOff_stays hw

/-- The records that the stop of a line takes out of the part: the plies of a panel dropped at a full queue (R169). -/
def estopDropped (l : Line) (s : State) : List SheetRecord :=
  if (s.line l).activity = .stopping ∧ 4 ≤ (s.line l).panelQueue.length then (s.line l).openPanel.map (·.sheet) else []

theorem reportDraw_panel (l : Line) (r : DrawResult) (s : State) :
    ∃ f, (reportDraw l r s).line l = { s.line l with lastDraw := f } ∧ (reportDraw l r s).grading = s.grading := by
  rcases reportDraw_cases l r s with e | e
  · exact ⟨(s.line l).lastDraw, by rw [e], by rw [e]⟩
  · exact ⟨some r, by rw [e, State.line_raise, State.line_setLine_same], by rw [e]; rfl⟩

theorem enterOff_grading (l : Line) (s : State) : (enterOff l s).grading =
    (s.abandonAll (if 4 ≤ (s.line l).panelQueue.length then (s.line l).openPanel.map (·.sheet) else [])).grading := by
  by_cases hp : (s.line l).openPanel = []
  · rw [enterOff_empty hp, hp, List.map_nil, ite_self]
    rfl
  · by_cases hq : 4 ≤ (s.line l).panelQueue.length
    · rw [enterOff_dropped hp hq, if_pos hq]
      rfl
    · rw [enterOff_queued hp (Nat.not_le.mp hq), if_neg hq]
      rfl

theorem estopLine_grading (l : Line) (s : State) :
    (estopLine l s).grading = (s.abandonAll (estopDropped l s)).grading := by
  obtain ⟨r, i, e, hl⟩ := takenOff_line l s
  obtain ⟨f, hr, hg⟩ := reportDraw_panel l .aborted (takenOff l s)
  rcases estopLine_cases l s with h | ⟨ha, h⟩ | ⟨ha, u, x, hu, h⟩
  · by_cases ha : (s.line l).activity = .stopping
    · rw [estopLine_stopping ha, enterOff_grading, hr, hl, abandonAll_grading_congr (hg.trans (takenOff_grading l s)),
        estopDropped]
      simp only [ha, true_and]
    · rw [h, estopDropped, if_neg (fun hc => ha hc.1)]
      rfl
  · rw [h, enterOff_grading, hr, hl, abandonAll_grading_congr (hg.trans (takenOff_grading l s)), estopDropped]
    simp only [ha, true_and]
  · rw [h, estopDropped, if_neg (fun hc => ha hc.1)]
    rcases hu with rfl | rfl
    · exact takenOff_grading l s
    · exact hg.trans (takenOff_grading l s)

/-- A notice just raised is told at every port. -/
theorem raise_told (s : State) (n : Notice) (p : Port) : ((s.raise n).port p).notices.getLsbD n.number = true := by
  rw [raise_notices, BitVec.getLsbD_or, n.getLsbD_bit]
  simp

theorem reportDraw_told (hd : (s.line l).draw = some d) (ho : d.origin = .direct) (r : DrawResult) (p : Port) :
    ((reportDraw l r s).port p).notices.getLsbD (Notice.drawDone l).number = true := by
  rw [reportDraw_direct hd ho]
  exact raise_told ..

/-! ### A line that enters OFF -/

theorem enterOff_line (l : Line) (s : State) : ∃ queue number,
    (enterOff l s).line l = { (s.line l).turnedOff with openPanel := [], panelQueue := queue, panelCounter := number } ∧
      ((s.line l).openPanel = [] → queue = (s.line l).panelQueue ∧ number = (s.line l).panelCounter) ∧
      ((s.line l).openPanel ≠ [] → (s.line l).panelQueue.length < 4 →
        queue = (s.line l).panelQueue ++ [closingRecord (s.line l) l .abandoned] ∧
        number = advanceCounter (s.line l).panelCounter ∧
        ∀ p, ((enterOff l s).port p).notices.getLsbD (Notice.panelReady l).number = true) ∧
      ((s.line l).openPanel ≠ [] → 4 ≤ (s.line l).panelQueue.length →
        queue = (s.line l).panelQueue ∧ number = advanceCounter (s.line l).panelCounter ∧
        ∀ p, ((enterOff l s).port p).notices.getLsbD (Notice.panelDropped l).number = true) := by
  by_cases hp : (s.line l).openPanel = []
  · refine ⟨(s.line l).panelQueue, (s.line l).panelCounter, ?_, fun _ => ⟨rfl, rfl⟩, fun h => absurd hp h, fun h => absurd hp h⟩
    rw [enterOff_empty hp, State.line_setLine_same, ← hp]
    rfl
  · by_cases hq : (s.line l).panelQueue.length < 4
    · refine ⟨_, _, ?_, fun h => absurd h hp, fun _ _ => ⟨rfl, rfl, ?_⟩, fun _ h => absurd hq (Nat.not_lt.mpr h)⟩
      · rw [enterOff_queued hp hq, State.line_raise, State.line_setLine_same]
        rfl
      · rw [enterOff_queued hp hq]
        exact fun p => raise_told ..
    · have hq := Nat.not_lt.mp hq
      refine ⟨_, _, ?_, fun h => absurd h hp, fun _ h => absurd hq (Nat.not_le.mpr h), fun _ _ => ⟨rfl, rfl, ?_⟩⟩
      · rw [enterOff_dropped hp hq, State.line_raise, State.line_setLine_same]
        rfl
      · rw [enterOff_dropped hp hq]
        exact fun p => raise_told ..

theorem enterOff_kept (l : Line) (s : State) : EstopKept l s (enterOff l s) := (EstopKept.refl l s).enterOff

/-- A line that stops in STOPPING: OFF, and its draw ABORTED if a DRAW began it (R142, R165, R167). -/
theorem estopLine_off (h : (s.line l).activity = .stopping) :
    ∃ w, estopLine l s = enterOff l w ∧
      (w.line l).openPanel = (s.line l).openPanel ∧ (w.line l).panelQueue = (s.line l).panelQueue ∧
      (w.line l).panelCounter = (s.line l).panelCounter ∧
      (∀ d, (s.line l).draw = some d → d.origin = .direct → (w.line l).lastDraw = some .aborted ∧
        ∀ p, (w.port p).notices.getLsbD (Notice.drawDone l).number = true) ∧
      ((∀ d, (s.line l).draw = some d → d.origin = .ply) → (w.line l).lastDraw = (s.line l).lastDraw) := by
  obtain ⟨r, i, e, hl⟩ := takenOff_line l s
  have hd : ((takenOff l s).line l).draw = (s.line l).draw := by rw [hl]
  obtain ⟨f, hr, -⟩ := reportDraw_panel l .aborted (takenOff l s)
  refine ⟨_, estopLine_stopping h, by rw [hr, hl], by rw [hr, hl], by rw [hr, hl], fun d hx ho => ⟨?_, fun p => ?_⟩,
    fun hx => ?_⟩
  · rw [reportDraw_direct (hd.trans hx) ho, State.line_raise, State.line_setLine_same]
  · exact reportDraw_told (hd.trans hx) ho ..
  · rw [reportDraw_ply (by rw [hd]; exact hx), hl]

end Clauses

theorem execEstopAssert_eq (he : s.pins.estop = false) (hr : s.pins.resetHeld = false) : exec .estopAssert s =
    .next (estopLine .b (estopLine .a ((s.setPins { s.pins with estop := true }).raise .estop))) := by
  have h : exec .estopAssert s = .next (if s.pins.estop then s else assertEstop s) := rfl
  rw [h, he]
  simp only [assertEstop, hr]
  rfl

/-- The stop of line `l` among the two: what comes before it and after it is the other line's. -/
theorem estopBoth_between (l : Line) (s : State) : ∃ u, EstopKept (otherLine l) s u ∧
    EstopKept (otherLine l) (estopLine l u) (estopLine .b (estopLine .a s)) := by
  cases l with
  | a => exact ⟨s, .refl _ s, estopLine_kept .b _⟩
  | b => exact ⟨estopLine .a s, estopLine_kept .a s, .refl _ _⟩

theorem estopBoth_grading (s : State) : GivesUp (estopDropped .a s ++ estopDropped .b s) s
    (estopLine .b (estopLine .a s)) := by
  have hb : estopDropped .b (estopLine .a s) = estopDropped .b s := by
    rw [estopDropped, (estopLine_kept .a s).line .b nofun]
    rfl
  have hg : (estopLine .b (estopLine .a s)).grading =
      (s.abandonAll (estopDropped .a s ++ estopDropped .b s)).grading := by
    rw [estopLine_grading, hb, abandonAll_grading_congr (estopLine_grading .a s)]
    simp only [State.abandonAll, List.foldl_append]
  intro u
  have hj : (estopLine .b (estopLine .a s)).job u = (s.abandonAll (estopDropped .a s ++ estopDropped .b s)).job u := by
    simp only [State.job, hg]
  rw [hj]
  exact givesUp_abandonAll s _ u

/-- Settles O58: the stop of each line, with the other line's before it and after it. -/
theorem emergencyStopStopsBothLines : Obligations.EmergencyStopStopsBothLines := by
  intro s
  refine ⟨rfl, fun he => ?_, fun he hr => ?_, fun he hr => ⟨_, execEstopAssert_eq he hr, ?_⟩⟩
  · change Host.Outcome.next (if s.pins.estop then s else assertEstop s) = _
    rw [he]
    rfl
  · change Host.Outcome.next (if s.pins.estop then s else assertEstop s) = _
    rw [he]
    simp only [assertEstop, hr]
    rfl
  set r := (s.setPins { s.pins with estop := true }).raise .estop
  have ha := estopLine_kept .a r
  have hb := estopLine_kept .b (estopLine .a r)
  have hport (p : Port) : r.port p = { s.port p with notices := (s.port p).notices ||| Notice.estop.bit } := by
    cases p <;> rfl
  refine ⟨hb.pins.trans ha.pins, hb.intake.trans ha.intake, hb.tables.trans ha.tables, hb.caches.trans ha.caches,
    hb.tracking.trans ha.tracking, hb.routing.trans ha.routing, hb.pending.trans ha.pending, hb.choices.trans ha.choices,
    estopBoth_grading r, fun p => ?_, fun k => ?_, fun l => ?_⟩
  · obtain ⟨m, hm, -⟩ := ha.port p
    obtain ⟨n, hn, -⟩ := hb.port p
    refine ⟨hb.told (ha.told (raise_told _ .estop p)), ?_⟩
    rw [hn, hm, hport]
    exact ⟨rfl, rfl, rfl, rfl, rfl⟩
  · obtain ⟨h1, w1, e1, hh1, -⟩ := ha.stack k
    obtain ⟨h2, w2, e2, hh2, -⟩ := hb.stack k
    refine ⟨h2, w2, by rw [e2, e1]; rfl, ?_⟩
    rw [e1] at hh2
    rcases hh2 with e | e
    · exact .inl e
    · rcases hh1 with e' | e'
      · exact .inl (e.trans e')
      · exact .inr (e.trans e')
  · obtain ⟨u, hu, ht⟩ := estopBoth_between l r
    have hne : l ≠ otherLine l := otherLine_ne l
    have hx : u.line l = s.line l := hu.line l hne
    rw [ht.line l hne, ← hx]
    generalize estopLine .b (estopLine .a r) = t at ht ⊢
    have told {n : Notice} (h : ∀ p, ((estopLine l u).port p).notices.getLsbD n.number = true) (p : Port) :
        (t.port p).notices.getLsbD n.number = true := ht.told (h p)
    intro x aborted
    refine ⟨fun hf => congrArg (State.line · l) (estopLine_fault hf), fun hf hs => ⟨fun hm => ?_, fun hm => ?_,
      fun hm hd => ?_, fun d hm hd ho => ?_⟩, fun hs => ?_, ?_, fun p => ?_, fun d k hp hd hk hm _ => ?_⟩
    · rw [estopLine_run hf hs hm, State.line_setLine_same]
    · rw [estopLine_still hs hm]
    · rw [estopLine_direct hf hs hm, if_neg (by rw [hd]; exact Bool.false_ne_true)]
    · have h := estopLine_drawing hf hs hm hd ho
      refine ⟨by rw [h, State.line_raise, State.line_setLine_same], told fun p => ?_⟩
      rw [h]
      exact raise_told ..
    · obtain ⟨w, hw, hop, hpq, hpc, hdirect, hply⟩ := estopLine_off hs
      obtain ⟨queue, number, hy, hempty, hqueued, hdropped⟩ := enterOff_line l w
      rw [hw] at told ⊢
      rw [closingRecord, hop, hpq, hpc] at hqueued
      rw [hop, hpq, hpc] at hempty hdropped
      rw [hy]
      refine ⟨rfl, rfl, rfl, rfl, rfl, fun d hd ho => ?_, hply, hempty, fun hp hq => ?_, fun hp hq => ?_⟩
      · obtain ⟨hl, hn⟩ := hdirect d hd ho
        exact ⟨hl, told fun p => (enterOff_kept l w).told (hn p)⟩
      · obtain ⟨hq, hn, hr⟩ := hqueued hp hq
        exact ⟨hq, hn, told hr⟩
      · obtain ⟨hq, hn, hr⟩ := hdropped hp hq
        exact ⟨hq, hn, told hr⟩
    · have hwait (k : StackId) : (t.stack k).waiters.get l = ((estopLine l u).stack k).waiters.get l := ht.waiters hne k
      have hwas (k : StackId) : (u.stack k).waiters.get l = (s.stack k).waiters.get l := hu.waiters hne k
      refine ⟨fun k h => ?_, fun k h => ?_⟩
      · obtain ⟨ha, hm, d, hd, hk⟩ := h
        exact (hwait k).trans (estopLine_left ha hm hd hk)
      · exact (hwait k).trans ((estopLine_stays h).trans (hwas k))
    · rw [ht.feederFault, (estopLine_kept l u).feederFault, hu.feederFault, hport, BitVec.getLsbD_or,
        Notice.getLsbD_bit, decide_eq_false fun h => Notice.noConfusion (Notice.number_injective h), Bool.or_false]
    · exact ht.holder_none (estopLine_holder hp hd hk hm)

end Sys2Proof.Machine
end

section
/-!
PROOFS. The passing of time: one millisecond for every timer, and the events then due; the statement
IdleStepPassesOneMillisecond.
-/

namespace Sys2Proof.Machine

variable {s : State} {i : Instr}

theorem exists_line {P : Line → Prop} : (∃ l, P l) ↔ P .a ∨ P .b :=
  ⟨fun ⟨l, h⟩ => by cases l <;> [exact .inl h; exact .inr h], fun h => h.elim (⟨_, ·⟩) (⟨_, ·⟩)⟩

theorem exists_port {P : Port → Prop} : (∃ p, P p) ↔ P .pg ∨ P .pa ∨ P .pb :=
  ⟨fun ⟨p, h⟩ => by cases p <;> [exact .inl h; exact .inr (.inl h); exact .inr (.inr h)],
    fun h => h.elim (⟨_, ·⟩) (·.elim (⟨_, ·⟩) (⟨_, ·⟩))⟩

/-! ## The events that are due -/

theorem mem_dueIf {c : Bool} {cs : List Instr} : i ∈ dueIf c cs ↔ c = true ∧ i ∈ cs := by
  cases c <;> simp [dueIf]

theorem mem_expiriesDue (l : Lane) (s : State) : i ∈ expiriesDue l s ↔
    i = .recordExpired l ∧ ∃ e, e ∈ (s.lane l).queue ∧ s.intake.ageLimit ≤ e.age := by
  rw [expiriesDue, List.mem_replicate, ← Nat.pos_iff_ne_zero, List.countP_pos_iff]
  simp [and_comm]

theorem mem_missesDue (k : StackId) (s : State) : i ∈ missesDue s k ↔
    i = .missedLanding k ∧ ∃ f, f ∈ (s.stack k).falling ∧ s.sk.landingLimit ≤ f.timer := by
  rw [missesDue, List.mem_replicate, ← Nat.pos_iff_ne_zero, List.countP_pos_iff]
  simp [and_comm]

theorem gapDue_iff (x : PortState) : gapDue x = true ↔ ∃ bytes gap, x.receiver = .receiving bytes gap ∧ 50 < gap := by
  cases h : x.receiver with
  | hunting => simp [gapDue, h]
  | receiving bytes gap => simp [gapDue, h, Config.byteGapLimit]

theorem mem_grantDue (s : State) : i ∈ grantDue s ↔
    (∃ v, i = .guWalkRead v ∧ arbiterNext s = some (unitRequester v)) ∨ (i = .portAccessGrant ∧ arbiterNext s = some .port) := by
  unfold grantDue
  split
  · next h => simp [h]
  · next h =>
    rw [h, List.mem_singleton]
    exact ⟨fun e => .inl ⟨.lane1, e, rfl⟩, fun e => e.elim (fun ⟨v, e, hv⟩ => by cases v <;> [exact e; cases hv]) (by simp)⟩
  · next h =>
    rw [h, List.mem_singleton]
    exact ⟨fun e => .inl ⟨.lane2, e, rfl⟩, fun e => e.elim (fun ⟨v, e, hv⟩ => by cases v <;> [cases hv; exact e]) (by simp)⟩
  · next h =>
    rw [h, List.mem_singleton]
    exact ⟨fun e => .inr ⟨e, rfl⟩, fun e => e.elim (fun ⟨v, _, hv⟩ => by cases v <;> cases hv) And.left⟩

theorem mem_beginsDue (s : State) : i ∈ beginsDue s ↔ ∃ l, i = .stepBegin l ∧ stepDue l s = true := by
  rw [exists_line, beginsDue]
  split
  · next ha hb => simp [ha, hb]
  · next ha hb => simp [ha, hb]
  · next ha hb => simp [ha, hb]
  · next ha hb =>
    split
    · simp [ha, hb]
    · simp [ha, hb, or_comm]

/-- Each event due, as its command. -/
theorem mem_dueCommands (s : State) : i ∈ dueCommands s ↔
    (∃ l, i = .recordExpired l ∧ ∃ e, e ∈ (s.lane l).queue ∧ s.intake.ageLimit ≤ e.age) ∨
    (i = .encoderStall ∧ stallDue s = true) ∨
    (∃ k, i = .missedLanding k ∧ ∃ f, f ∈ (s.stack k).falling ∧ s.sk.landingLimit ≤ f.timer) ∨
    (∃ l, i = .pickTimeout l ∧ pickTimeoutDue l s = true) ∨
    (∃ l, i = .lineStarved l ∧ starveDue l s = true) ∨
    (∃ p, i = .byteGapTimeout p ∧ gapDue (s.port p) = true) ∨
    i ∈ grantDue s ∨
    ∃ l, i = .stepBegin l ∧ stepDue l s = true := by
  have misses : i ∈ allStacks.flatMap (missesDue s) ↔
      ∃ k, i = .missedLanding k ∧ ∃ f, f ∈ (s.stack k).falling ∧ s.sk.landingLimit ≤ f.timer := by
    simp only [List.mem_flatMap, mem_allStacks, true_and, mem_missesDue]
  simp only [dueCommands, List.mem_append, mem_expiriesDue, mem_dueIf, misses, mem_beginsDue, List.mem_singleton]
  simp only [exists_lane, exists_line (P := fun l => i = .pickTimeout l ∧ _),
    exists_line (P := fun l => i = .lineStarved l ∧ _), exists_port]
  simp only [or_assoc, and_comm (a := i = _)]

section Due

variable (s : State)

theorem recordExpired_due (l : Lane) : .recordExpired l ∈ dueCommands s ↔
    ∃ e, e ∈ (s.lane l).queue ∧ s.intake.ageLimit ≤ e.age := by
  simp [mem_dueCommands, mem_grantDue]

theorem encoderStall_due : .encoderStall ∈ dueCommands s ↔ stallDue s = true := by
  simp [mem_dueCommands, mem_grantDue]

theorem missedLanding_due (k : StackId) : .missedLanding k ∈ dueCommands s ↔
    ∃ f, f ∈ (s.stack k).falling ∧ s.sk.landingLimit ≤ f.timer := by
  simp [mem_dueCommands, mem_grantDue]

theorem pickTimeout_due (l : Line) : .pickTimeout l ∈ dueCommands s ↔ pickTimeoutDue l s = true := by
  simp [mem_dueCommands, mem_grantDue]

theorem lineStarved_due (l : Line) : .lineStarved l ∈ dueCommands s ↔ starveDue l s = true := by
  simp [mem_dueCommands, mem_grantDue]

theorem byteGapTimeout_due (p : Port) : .byteGapTimeout p ∈ dueCommands s ↔ gapDue (s.port p) = true := by
  simp [mem_dueCommands, mem_grantDue]

theorem guWalkRead_due (v : Lane) : .guWalkRead v ∈ dueCommands s ↔ arbiterNext s = some (unitRequester v) := by
  simp [mem_dueCommands, mem_grantDue]

theorem portAccessGrant_due : .portAccessGrant ∈ dueCommands s ↔ arbiterNext s = some .port := by
  simp [mem_dueCommands, mem_grantDue]

theorem stepBegin_due (l : Line) : .stepBegin l ∈ dueCommands s ↔ stepDue l s = true := by
  simp [mem_dueCommands, mem_grantDue]

end Due

/-! ## The commands that wait, past the threshold events (assumption 2) -/

theorem abandon_pending (s : State) (r : SheetRecord) (d : Bool) : (s.abandon r d).pending = s.pending := by
  obtain ⟨g, hg⟩ := s.abandon_only_grading r d
  rw [hg]

theorem drainGrantSettle_pending (e : StackEvent) (k : StackId) :
    (((e.drainClose k).grantCheck k).settle).pending = e.st.pending := by
  by_cases h : (e.st.stack k).Drained
  · exact (drained_settles h).1.pending
  · exact (not_drained_settles h).pending

theorem takeDecision_pending (p : TrackEntry → Bool) (s : State) : (takeDecision p s).pending = s.pending := by
  unfold takeDecision
  split
  · rfl
  · next e _ =>
    have ha : (if e.sheet.cls.isNone then s.abandon e.sheet false else s).pending = s.pending := by
      split
      · exact abandon_pending ..
      · rfl
    dsimp only
    split
    · rw [State.raiseIf_pending]
      exact ha
    · rw [allocate, State.raiseIf_pending, State.setStack_pending, State.raiseIf_pending]
      exact ha

theorem takeApproach_pending (p : TrackEntry → Bool) (s : State) : (takeApproach p s).pending = s.pending := by
  unfold takeApproach
  split <;> rfl

theorem takeGate_pending (p : TrackEntry → Bool) (s : State) : (takeGate p s).pending = s.pending := by
  unfold takeGate
  split
  · rfl
  · split
    · rfl
    · split
      · rfl
      · exact drainGrantSettle_pending ..

theorem takeRunOut_pending (p : TrackEntry → Bool) (s : State) : (takeRunOut p s).pending = s.pending := by
  unfold takeRunOut
  split
  · rfl
  · exact abandon_pending ..

theorem takeOwedBy_pending (e : TrackEntry) (s : State) : (takeOwedBy e s).pending = s.pending := by
  unfold takeOwedBy
  dsimp only
  split
  · exact takeDecision_pending ..
  · exact takeApproach_pending ..
  · exact takeGate_pending ..
  · exact takeRunOut_pending ..
  · rfl

theorem takeOwed_pending (s : State) : (takeOwed s).pending = s.pending := by
  unfold takeOwed
  split
  · rfl
  · exact takeOwedBy_pending ..
  · exact takeOwedBy_pending ..

theorem takeAllOwed_pending (s : State) : (takeAllOwed s).pending = s.pending :=
  iterate_rel (R := fun s t => t.pending = s.pending) (fun _ => rfl) (fun s t u (h : t.pending = s.pending) (k : u.pending = t.pending) => k.trans h) takeOwed_pending _ s

/-! ## One idle step -/

/-- What an idle step takes before the millisecond passes (assumptions 4 and 27). -/
theorem settleOwed_settles (h : s.tracks = true → owing s = [] ∨ s.tracking.geometry.valid = true) :
    (s.tracks = true → Settles s (settleOwed s)) ∧ (s.tracks = false → settleOwed s = s) := by
  refine ⟨fun ht => ?_, fun ht => if_neg (by rw [ht]; exact Bool.false_ne_true)⟩
  rw [settleOwed, if_pos ht]
  rcases h ht with ho | hv
  · rw [takeAllOwed, iterate_takeOwed_quiet ho]
    exact .done ho
  · exact settles_takeAllOwed hv

theorem settleOwed_pending (s : State) : (settleOwed s).pending = s.pending := by
  unfold settleOwed
  split
  · exact takeAllOwed_pending s
  · rfl

/-- A state after one millisecond, with the events then due waiting. -/
def afterTick (u : State) : State :=
  { tick u with pending := (tick u).pending ++ dueCommands (tick u), choices := (tick u).choices + 1 }

theorem step_idle (hp : s.pending = []) : step s = .next (idle s) := by
  rw [step, hp]

theorem afterTick_pending {u : State} (h : u.pending = []) : (afterTick u).pending = dueCommands (tick u) := by
  rw [afterTick]
  change u.pending ++ _ = _
  rw [h]
  rfl

theorem afterTick_stack (u : State) (k : StackId) : (afterTick u).stack k = (u.stack k).tick := stack_tick u k
theorem afterTick_lane (u : State) (l : Lane) : (afterTick u).lane l = (u.lane l).tick := lane_tick u l
theorem afterTick_line (u : State) (l : Line) : (afterTick u).line l = (u.line l).tick := line_tick u l
theorem afterTick_port (u : State) (p : Port) : (afterTick u).port p = (u.port p).tick := port_tick u p

/-- Settles O2: what is owed first, then the tick of each block, then each command that can be due. -/
theorem idleStepPassesOneMillisecond : Obligations.IdleStepPassesOneMillisecond := by
  intro s hp
  refine ⟨fun hr => ?_, fun hr ho => ⟨settleOwed s, afterTick (settleOwed s), (settleOwed_settles ho).1,
    (settleOwed_settles ho).2, ?_, ?_⟩⟩
  · rw [step_idle hp, idle, if_pos hr]
  · rw [step_idle hp, idle, if_neg (by rw [hr]; exact Bool.false_ne_true)]
    rfl
  have hpend := afterTick_pending ((settleOwed_pending s).trans hp)
  generalize settleOwed s = u at hpend ⊢
  have due (i : Instr) : i ∈ (afterTick u).pending ↔ i ∈ dueCommands (tick u) := by rw [hpend]
  refine ⟨fun l => afterTick_lane u l, rfl, fun k => afterTick_stack u k, fun l => afterTick_line u l, rfl, rfl, rfl, rfl, rfl,
    rfl, rfl, rfl, rfl, rfl, rfl, rfl, rfl, rfl, fun p => ?_, fun l => ?_, ?_, fun k => ?_, fun l => ?_, fun l => ?_,
    fun l => ?_, fun p => ?_, fun v => ?_, ?_⟩
  · rw [afterTick_port, PortState.tick]
    split
    · next h => exact ⟨rfl, rfl, rfl, rfl, rfl, fun _ => h, fun _ _ hc => nomatch h.symm.trans hc⟩
    · next bytes gap h =>
      refine ⟨rfl, rfl, rfl, rfl, rfl, ?_, fun b g hc => ?_⟩
      · rw [h]
        nofun
      · rw [h] at hc
        cases hc
        rfl
  · rw [due, recordExpired_due, afterTick_lane, lane_tick]
    rfl
  · rw [due, encoderStall_due, stallDue_iff]
    rfl
  · rw [due, missedLanding_due, afterTick_stack, stack_tick]
    rfl
  · rw [due, pickTimeout_due, pickTimeoutDue_iff]
    rfl
  · rw [due, lineStarved_due, starveDue_iff, line_tick, afterTick_line]
    rfl
  · rw [due, stepBegin_due, stepDue_iff, line_tick]
    rfl
  · rw [due, byteGapTimeout_due, gapDue_iff]
    rfl
  · rw [due, guWalkRead_due]
    rfl
  · rw [due, portAccessGrant_due]
    rfl

end Sys2Proof.Machine
end

section
/-!
PROOFS. The receivers play no part in the events at the stacks and in the events that a parameter can make due: each
goes on in the same way whether a port hunts or not.
-/

namespace Sys2Proof.Machine

variable {s : State} {e : StackEvent} {k : StackId} {l : Line} {p : Port}

/-! ## Events at the stacks -/

@[simp] theorem reselect_hunt (s : State) (p : Port) (l : Line) : reselect l (s.hunt p) = (reselect l s).hunt p := by
  by_cases h : (s.line l).mode = .run ∧ (s.line l).exec = .hold
  · rw [reselect_stands h.1 h.2, reselect_stands (s := s.hunt p) h.1 h.2]
    rfl
  · have h := not_and_or.mp h
    rw [reselect_selects h, reselect_selects (s := s.hunt p) h, select_hunt]

/-- An event at the stacks in a state in which a port hunts. -/
def StackEvent.hunt (e : StackEvent) (p : Port) : StackEvent := { e with st := e.st.hunt p }

theorem StackEvent.of_hunt (s : State) (p : Port) : StackEvent.of (s.hunt p) = (StackEvent.of s).hunt p := rfl

theorem StackEvent.setState_hunt (e : StackEvent) (p : Port) (k : StackId) (new : StackState) :
    (e.hunt p).setState k new = (e.setState k new).hunt p := by
  by_cases h : (e.st.stack k).state = new
  · rw [setState_same h, setState_same (e := e.hunt p) h]
  · unfold setState
    rw [if_neg h, if_neg (show ¬ ((e.hunt p).st.stack k).state = new from h)]
    cases new <;> rfl

theorem StackEvent.offer_hunt (k : StackId) (p : Port) : ∀ (ls : List Line) (e : StackEvent),
    StackEvent.offer k ls (e.hunt p) = (StackEvent.offer k ls e).hunt p
  | [], _ => rfl
  | l :: ls, e => by
    have hw : ((e.hunt p).st.stack k).waiters.get l = (e.st.stack k).waiters.get l := rfl
    cases h : (e.st.stack k).waiters.get l with
    | none => rw [offer_absent h, offer_absent (e := e.hunt p) (hw.trans h), offer_hunt k p ls e]
    | some g =>
      cases ht : (e.st.stack k).topIn g with
      | true =>
        rw [offer_granted h ht, offer_granted (e := e.hunt p) (hw.trans h) ht]
        rfl
      | false =>
        rw [offer_withdrawn h ht, offer_withdrawn (e := e.hunt p) (hw.trans h) ht, ← offer_hunt k p ls]
        rfl

theorem StackEvent.grantCheck_hunt (e : StackEvent) (p : Port) (k : StackId) :
    (e.hunt p).grantCheck k = (e.grantCheck k).hunt p := by
  by_cases h : (e.st.stack k).free = true ∧ (e.st.stack k).serving = true ∧ e.st.estop = false
  · obtain ⟨hf, hs, he⟩ := h
    unfold grantCheck
    have hc : ((e.st.stack k).free && (e.st.stack k).serving && !e.st.estop) = true := by simp [hf, hs, he]
    rw [if_pos hc, if_pos (show (((e.hunt p).st.stack k).free && ((e.hunt p).st.stack k).serving &&
      !(e.hunt p).st.estop) = true from hc)]
    exact offer_hunt k p _ e
  · rw [grantCheck_busy h, grantCheck_busy (e := e.hunt p) h]

theorem StackEvent.grantChecks_hunt (p : Port) : ∀ (ks : List StackId) (e : StackEvent),
    ks.foldl StackEvent.grantCheck (e.hunt p) = (ks.foldl StackEvent.grantCheck e).hunt p
  | [], _ => rfl
  | k :: ks, e => by rw [List.foldl_cons, List.foldl_cons, grantCheck_hunt, grantChecks_hunt p ks]

theorem StackEvent.settle_hunt (e : StackEvent) (p : Port) : (e.hunt p).settle = e.settle.hunt p := by
  have hs (l : Line) : (e.hunt p).selects l = e.selects l := rfl
  have hc : { (e.hunt p).st with choices := (e.hunt p).st.choices + 1 } =
      State.hunt { e.st with choices := e.st.choices + 1 } p := rfl
  unfold settle
  rw [hs, hs]
  split
  · rfl
  · exact reselect_hunt ..
  · exact reselect_hunt ..
  · dsimp only
    rw [hc, reselect_hunt, reselect_hunt, reselect_hunt, reselect_hunt]
    exact (apply_ite (State.hunt · p) _ _ _).symm

/-! ## The events a limit makes due -/

theorem expireHead_hunt (s : State) (p : Port) (l : Lane) : expireHead l (s.hunt p) = (expireHead l s).hunt p := by
  unfold expireHead
  rw [State.lane_hunt]
  split
  · rfl
  · rw [State.abandon_hunt, State.setLane_hunt, State.raise_hunt]

theorem expireDue_hunt (s : State) (p : Port) (l : Lane) : expireDue l (s.hunt p) = (expireDue l s).hunt p := by
  have hd : expiryDue l (s.hunt p) = expiryDue l s := rfl
  rw [expireDue, expireDue, hd, expireHead_hunt]
  exact (apply_ite (State.hunt · p) _ _ _).symm

theorem startStall_hunt (s : State) (p : Port) : startStall (s.hunt p) = (startStall s).hunt p := by
  have hc : (s.hunt p).tracks = s.tracks := rfl
  unfold startStall
  rw [hc, State.hunt_tracking, State.hunt_pins, State.setTracking_hunt]
  exact (apply_ite (State.hunt · p) _ _ _).symm

theorem releaseReservation_hunt (s : State) (p : Port) (x : TrackEntry) :
    releaseReservation x (s.hunt p) = (releaseReservation x s).hunt p := by
  unfold releaseReservation
  split <;> rfl

theorem releaseReservations_hunt (p : Port) : ∀ (q : List TrackEntry) (s : State),
    q.foldl (fun s x => releaseReservation x s) (s.hunt p) = (q.foldl (fun s x => releaseReservation x s) s).hunt p
  | [], _ => rfl
  | x :: q, s => by rw [List.foldl_cons, List.foldl_cons, releaseReservation_hunt, releaseReservations_hunt p q]

theorem takeStall_hunt (s : State) (p : Port) : takeStall (s.hunt p) = (takeStall s).hunt p := by
  unfold takeStall
  dsimp only
  rw [State.hunt_tracking, releaseReservations_hunt, State.hunt_tracking, State.setTracking_hunt, State.raise_hunt,
    StackEvent.of_hunt, StackEvent.grantChecks_hunt, StackEvent.settle_hunt]

theorem pushFalling_hunt (s : State) (p : Port) (k : StackId) (unconfirmed : Bool) :
    pushFalling k unconfirmed (s.hunt p) = (pushFalling k unconfirmed s).hunt p := by
  cases h : (s.stack k).falling with
  | nil => rw [pushFalling_none h, pushFalling_none (s := s.hunt p) h]
  | cons f rest =>
    rw [pushFalling_cons h, pushFalling_cons (s := s.hunt p) h]
    rfl

theorem missLanding_hunt (s : State) (p : Port) (k : StackId) : missLanding k (s.hunt p) = (missLanding k s).hunt p := by
  have hd : missedDue k (s.hunt p) = missedDue k s := rfl
  unfold missLanding
  dsimp only
  rw [hd, pushFalling_hunt, State.raise_hunt, State.raise_hunt, StackEvent.of_hunt,
    StackEvent.setState_hunt, StackEvent.settle_hunt]
  exact (apply_ite (State.hunt · p) _ _ _).symm

theorem clearPick_hunt (s : State) (p : Port) (l : Line) (k : StackId) :
    clearPick l k (s.hunt p) = (clearPick l k s).hunt p := rfl

theorem timedOutLine_hunt (s : State) (p : Port) (l : Line) : timedOutLine l (s.hunt p) = (timedOutLine l s).hunt p := by
  unfold timedOutLine
  rw [State.line_hunt]
  split
  · rw [reportDraw_hunt, enterOff_hunt]
  · rw [reportDraw_hunt, faultLine_hunt]

theorem timeOutPick_hunt (s : State) (p : Port) (l : Line) : timeOutPick l (s.hunt p) = (timeOutPick l s).hunt p := by
  have hd : pickTimeoutDue l (s.hunt p) = pickTimeoutDue l s := rfl
  unfold timeOutPick
  rw [State.line_hunt]
  split
  · rfl
  · rw [hd, pickTimeoutOn, clearPick_hunt, State.raise_hunt, timedOutLine_hunt, StackEvent.of_hunt,
      StackEvent.grantCheck_hunt, StackEvent.settle_hunt]
    exact (apply_ite (State.hunt · p) _ _ _).symm

theorem noticeStarved_hunt (s : State) (p : Port) (l : Line) : noticeStarved l (s.hunt p) = (noticeStarved l s).hunt p := by
  have hd : starveDue l (s.hunt p) = starveDue l s := rfl
  rw [noticeStarved, noticeStarved, hd, State.line_hunt, State.setLine_hunt, State.raise_hunt]
  exact (apply_ite (State.hunt · p) _ _ _).symm

theorem iterate_hunt {f : State → State} (hf : ∀ s p, f (s.hunt p) = (f s).hunt p) (p : Port) : ∀ (n : Nat) (s : State),
    iterate f n (s.hunt p) = (iterate f n s).hunt p
  | 0, _ => rfl
  | n + 1, s => by rw [iterate, iterate, hf, iterate_hunt hf p n]

theorem settleFalling_hunt (s : State) (p : Port) (k : StackId) :
    settleFalling (s.hunt p) k = (settleFalling s k).hunt p := iterate_hunt (missLanding_hunt · · k) p _ s

theorem settleFallings_hunt (p : Port) : ∀ (ks : List StackId) (s : State),
    ks.foldl settleFalling (s.hunt p) = (ks.foldl settleFalling s).hunt p
  | [], _ => rfl
  | k :: ks, s => by rw [List.foldl_cons, List.foldl_cons, settleFalling_hunt, settleFallings_hunt p ks]

theorem expireAll_hunt (s : State) (p : Port) (l : Lane) : expireAll l (s.hunt p) = (expireAll l s).hunt p :=
  iterate_hunt (expireDue_hunt · · l) p _ s

theorem setStallLimit_hunt (v : Nat) (s : State) (p : Port) :
    setStallLimit v (s.hunt p) = (setStallLimit v s).hunt p := by
  have hd (x : Tracking) : stallDue ((s.setTracking x).hunt p) = stallDue (s.setTracking x) := rfl
  simp only [setStallLimit, State.hunt_tracking, State.setTracking_hunt, startStall_hunt, takeStall_hunt, hd,
    apply_ite (State.hunt · p)]

theorem setAgeLimit_hunt (v : Nat) (s : State) (p : Port) : setAgeLimit v (s.hunt p) = (setAgeLimit v s).hunt p := by
  rw [setAgeLimit, setAgeLimit, State.hunt_intake, State.setIntake_hunt, expireAll_hunt, expireAll_hunt]

theorem setLandingLimit_hunt (v : Nat) (s : State) (p : Port) :
    setLandingLimit v (s.hunt p) = (setLandingLimit v s).hunt p := by
  rw [setLandingLimit, setLandingLimit, State.hunt_sk, State.setSk_hunt, settleFallings_hunt]

theorem setPickLimit_hunt (v : Nat) (s : State) (p : Port) : setPickLimit v (s.hunt p) = (setPickLimit v s).hunt p := by
  rw [setPickLimit, setPickLimit, State.hunt_lines, State.setLines_hunt, timeOutPick_hunt, timeOutPick_hunt]

theorem setStarveLimit_hunt (v : Nat) (s : State) (p : Port) :
    setStarveLimit v (s.hunt p) = (setStarveLimit v s).hunt p := by
  rw [setStarveLimit, setStarveLimit, State.hunt_lines, State.setLines_hunt, noticeStarved_hunt, noticeStarved_hunt]

/-- A new value acts in the same way while a port hunts. -/
theorem paramApply_hunt (q : Param) (v : Nat) (s : State) (p : Port) : q.apply v (s.hunt p) = (q.apply v s).hunt p := by
  cases q with
  | ageLimit => exact setAgeLimit_hunt v s p
  | landingLimit => exact setLandingLimit_hunt v s p
  | pickLimit => exact setPickLimit_hunt v s p
  | starveLimit => exact setStarveLimit_hunt v s p
  | stallLimit => exact setStallLimit_hunt v s p
  | priority => rfl
  | decision => rfl
  | window => rfl
  | gate k => rfl
  | runOut => rfl

theorem paramValue_hunt (q : Param) (s : State) (p : Port) : q.value (s.hunt p) = q.value s := by cases q <;> rfl

end Sys2Proof.Machine
end

section
/-!
PROOFS. SET PARAMETER: its refusals, the one value it sets, and the events that a new limit makes due, as the commands of
those events take them one after the other; the statement SetParameterSetsOneValue.
-/

namespace Sys2Proof.Machine

variable {s t u : State} {p : Port} {tag : Byte} {k : StackId} {l : Line}

/-! ## Commands taken one after the other -/

theorem Leads.append {is js : List Instr} (h : Leads s is t) (k : Leads t js u) : Leads s (is ++ js) u := by
  induction is generalizing s with
  | nil =>
    obtain rfl : t = s := h
    exact k
  | cons i is ih =>
    obtain ⟨v, hi, hv⟩ := h
    exact ⟨v, hi, ih hv⟩

theorem Leads.single {i : Instr} {f : State → State} (hf : EventOf i f) (hr : s.pins.resetHeld = false) :
    Leads s [i] (f s) := ⟨f s, hf.taken hr, rfl⟩

/-- An event taken again and again is its command given again and again. -/
theorem Leads.iterate {i : Instr} {f : State → State} (hf : EventOf i f) (hp : ∀ s, (f s).pins = s.pins) :
    ∀ (n : Nat) {s : State}, s.pins.resetHeld = false → Leads s (List.replicate n i) (Machine.iterate f n s)
  | 0, _, _ => rfl
  | n + 1, s, hr => ⟨f s, hf.taken hr, Leads.iterate hf hp n (by rw [hp]; exact hr)⟩

theorem iterate_pins {f : State → State} (hp : ∀ s, (f s).pins = s.pins) (n : Nat) (s : State) :
    (iterate f n s).pins = s.pins := by
  induction n generalizing s with
  | zero => rfl
  | succ n ih => rw [iterate, ih, hp]

theorem iterate_fixed {f : State → State} (h : f s = s) (n : Nat) : iterate f n s = s := by
  induction n with
  | zero => rfl
  | succ n ih => rw [iterate, h, ih]

/-! ## A new record age limit (R10) -/

theorem expireDue_lane {m n : Lane} (h : n ≠ m) (s : State) : (expireDue m s).lane n = s.lane n := by
  unfold expireDue
  split
  · unfold expireHead
    split
    · rfl
    · obtain ⟨g, hg⟩ := s.abandon_only_grading _ true
      rw [hg, State.lane_raise, State.lane_setLane_other _ _ h]
      rfl
  · rfl

theorem expireAll_lane {m n : Lane} (h : n ≠ m) (s : State) : (expireAll m s).lane n = s.lane n :=
  iterate_rel (R := fun s t : State => t.lane n = s.lane n) (fun _ => rfl)
    (fun s t u (h : t.lane n = s.lane n) (k : u.lane n = t.lane n) => k.trans h) (expireDue_lane h) _ s

theorem expireAll_leads (m : Lane) (hr : s.pins.resetHeld = false) :
    Leads s (List.replicate (s.lane m).queue.length (.recordExpired m)) (expireAll m s) :=
  .iterate (.recordExpired m) (fun s => (expireDue_millOnly m s).pins) _ hr

theorem expireAll_pins (m : Lane) (s : State) : (expireAll m s).pins = s.pins :=
  iterate_pins (fun s => (expireDue_millOnly m s).pins) _ s

theorem setAgeLimit_leads (v : Nat) (hr : s.pins.resetHeld = false) :
    Leads (s.setIntake { s.intake with ageLimit := v }) (List.replicate (s.lane .lane1).queue.length (.recordExpired .lane1) ++
      List.replicate (s.lane .lane2).queue.length (.recordExpired .lane2)) (setAgeLimit v s) := by
  set t := s.setIntake { s.intake with ageLimit := v }
  have h2 : ((expireAll .lane1 t).lane .lane2).queue.length = (s.lane .lane2).queue.length := by
    rw [expireAll_lane (m := .lane1) (n := .lane2) nofun]
    rfl
  refine Leads.append (expireAll_leads .lane1 (s := t) hr) ?_
  rw [← h2]
  exact expireAll_leads .lane2 (by rw [expireAll_pins]; exact hr)

theorem expireAll_young {m : Lane} (h : ∀ e, e ∈ (s.lane m).queue → e.age < s.intake.ageLimit) : expireAll m s = s :=
  iterate_fixed (expireDue_young fun e rest hq => h e (by rw [hq]; exact List.mem_cons_self)) _

theorem setAgeLimit_young {v : Nat} (h : ∀ l e, e ∈ (s.lane l).queue → e.age < v) :
    setAgeLimit v s = s.setIntake { s.intake with ageLimit := v } := by
  rw [setAgeLimit, expireAll_young (m := .lane1) (h .lane1), expireAll_young (m := .lane2) (h .lane2)]

/-! ## A new landing limit (R130) -/

theorem missLanding_falling {j : StackId} (h : j ≠ k) (s : State) : ((missLanding k s).stack j).falling = (s.stack j).falling := by
  unfold missLanding
  split
  · have hp : ((pushFalling k true s).stack j).falling = (s.stack j).falling := by
      unfold pushFalling
      dsimp only
      split
      · rfl
      · rw [State.stack_setStack_other _ _ h]
    obtain ⟨-, -, -, -, -, -, hf⟩ := (setState_settles (((pushFalling k true s).raise .missedLanding).raise .stackFault) k
      .faulted).stackFields j
    rw [hf, State.stack_setStack_other _ _ h]
    exact hp
  · rfl

theorem settleFalling_falling {j : StackId} (h : j ≠ k) (s : State) :
    ((settleFalling s k).stack j).falling = (s.stack j).falling :=
  iterate_rel (R := fun s t : State => (t.stack j).falling = (s.stack j).falling) (fun _ => rfl)
    (fun s t u (h : (t.stack j).falling = (s.stack j).falling) (k : (u.stack j).falling = (t.stack j).falling) => k.trans h)
    (missLanding_falling h) _ s

theorem settleFalling_leads (k : StackId) (hr : s.pins.resetHeld = false) :
    Leads s (List.replicate (s.stack k).falling.length (.missedLanding k)) (settleFalling s k) :=
  .iterate (.missedLanding k) (fun s => (missLanding_millOnly k s).pins) _ hr

theorem settleFalling_pins (s : State) (k : StackId) : (settleFalling s k).pins = s.pins :=
  iterate_pins (fun s => (missLanding_millOnly k s).pins) _ s

/-- The stacks settle each its own falling records, as many as fell at the beginning. -/
theorem settleFallings_leads : ∀ (ks : List StackId), ks.Nodup → ∀ {s : State}, s.pins.resetHeld = false →
    Leads s (ks.flatMap fun k => List.replicate (s.stack k).falling.length (.missedLanding k)) (ks.foldl settleFalling s)
  | [], _, _, _ => rfl
  | k :: ks, hn, s, hr => by
    obtain ⟨hk, hn⟩ := List.nodup_cons.mp hn
    have hrest : (ks.flatMap fun j => List.replicate (s.stack j).falling.length (Instr.missedLanding j)) =
        ks.flatMap fun j => List.replicate ((settleFalling s k).stack j).falling.length (.missedLanding j) :=
      List.flatMap_congr fun j hj => by rw [settleFalling_falling (fun e : j = k => hk (e ▸ hj))]
    rw [List.flatMap_cons, hrest]
    exact (settleFalling_leads k hr).append (settleFallings_leads ks hn (by rw [settleFalling_pins]; exact hr))

theorem missLanding_early (h : missedDue k s = false) : missLanding k s = s := by
  rw [missLanding, h]
  rfl

theorem missedDue_young (h : ∀ f, f ∈ (s.stack k).falling → f.timer < s.sk.landingLimit) : missedDue k s = false := by
  cases hf : (s.stack k).falling with
  | nil => simp [missedDue, hf]
  | cons f rest => simp [missedDue, hf, h f (by rw [hf]; exact List.mem_cons_self)]

theorem setLandingLimit_young {v : Nat} (h : ∀ k f, f ∈ (s.stack k).falling → f.timer < v) :
    setLandingLimit v s = s.setSk { s.sk with landingLimit := v } := by
  set t := s.setSk { s.sk with landingLimit := v }
  have hk (k : StackId) : settleFalling t k = t := iterate_fixed (missLanding_early (missedDue_young (h k))) _
  have hks (ks : List StackId) : ks.foldl settleFalling t = t := by
    induction ks with
    | nil => rfl
    | cons k ks ih => rw [List.foldl_cons, hk, ih]
  exact hks allStacks

/-! ## New limits of the lines (R157, R160, R164) -/

theorem setPickLimit_leads (v : Nat) (hr : s.pins.resetHeld = false) :
    Leads (s.setLines { s.lines with pickLimit := v }) [.pickTimeout .a, .pickTimeout .b] (setPickLimit v s) := by
  refine ⟨_, (EventOf.pickTimeout .a).taken hr, .single (.pickTimeout .b) ?_⟩
  rw [(timeOutPick_atLines .a _).pins]
  exact hr

theorem setPickLimit_young {v : Nat} (h : ∀ l n, (s.line l).pickTimer = some n → n < v) :
    setPickLimit v s = s.setLines { s.lines with pickLimit := v } := by
  have hl (l : Line) : timeOutPick l (s.setLines { s.lines with pickLimit := v }) = s.setLines { s.lines with pickLimit := v } :=
    timeOutPick_early (Bool.eq_false_iff.mpr fun hc => by
      obtain ⟨n, hn, hle⟩ := (pickTimeoutDue_iff _ _).mp hc
      exact absurd (h l n hn) (Nat.not_lt.mpr hle))
  rw [setPickLimit, hl, hl]

theorem noticeStarved_early (h : starveDue l s = false) : noticeStarved l s = s := by
  rw [noticeStarved, h]
  rfl

theorem setStarveLimit_leads (v : Nat) (hr : s.pins.resetHeld = false) :
    Leads (s.setLines { s.lines with starveLimit := v }) [.lineStarved .a, .lineStarved .b] (setStarveLimit v s) := by
  refine ⟨_, (EventOf.lineStarved .a).taken hr, .single (.lineStarved .b) ?_⟩
  rw [(noticeStarved_atLines .a _).pins]
  exact hr

theorem setStarveLimit_young {v : Nat} (h : v = 0 ∨ ∀ l n, (s.line l).starveTimer = some n → n < v) :
    setStarveLimit v s = s.setLines { s.lines with starveLimit := v } := by
  have hl (l : Line) : noticeStarved l (s.setLines { s.lines with starveLimit := v }) =
      s.setLines { s.lines with starveLimit := v } :=
    noticeStarved_early (Bool.eq_false_iff.mpr fun hc => by
      obtain ⟨-, -, hv, n, hn, hle⟩ := (starveDue_iff _ _).mp hc
      exact h.elim hv fun h => absurd (h l n hn) (Nat.not_lt.mpr hle))
  rw [setStarveLimit, hl, hl]

/-! ## A new stall limit (R97, R99) -/

theorem setStallLimit_zero (s : State) :
    setStallLimit 0 s = s.setTracking { s.tracking with stallLimit := 0, stallTimer := none } := rfl

theorem setStallLimit_starts {v : Nat} (hv : v ≠ 0) (h : s.tracking.stallLimit = 0) :
    setStallLimit v s = startStall (s.setTracking { s.tracking with stallLimit := v }) := by
  rw [setStallLimit, if_neg hv, if_pos h]

theorem setStallLimit_changes {v : Nat} (hv : v ≠ 0) (h : s.tracking.stallLimit ≠ 0) :
    setStallLimit v s = if stallDue (s.setTracking { s.tracking with stallLimit := v }) then
      takeStall (s.setTracking { s.tracking with stallLimit := v }) else s.setTracking { s.tracking with stallLimit := v } := by
  rw [setStallLimit, if_neg hv, if_neg h]

theorem setStallLimit_young {v : Nat} (hv : v ≠ 0) (h : s.tracking.stallLimit ≠ 0)
    (hn : ∀ n, s.tracking.stallTimer = some n → n < v) :
    setStallLimit v s = s.setTracking { s.tracking with stallLimit := v } := by
  refine (setStallLimit_changes hv h).trans (if_neg fun hc => ?_)
  obtain ⟨-, -, n, ht, hle⟩ := (stallDue_iff _).mp hc
  exact absurd (hn n ht) (Nat.not_lt.mpr hle)

/-! ## The request (R182, R87) -/

section Request

variable {id hi lo : Byte} {q : Param}

theorem exec_setParameter (h : Ready s p) : exec (.setParameter p tag [id, hi, lo]) s =
    serve Code.setParameter p tag (setParameter [id, hi, lo]) s := receiveRequest_whole _ h.whole

theorem Param.inRange_iff (q : Param) (v : Nat) : q.inRange v = true ↔ q.range.1 ≤ v ∧ v ≤ q.range.2 := by
  simp [Param.inRange]

theorem setParameter_unknown (h : Ready s p) (hq : paramOf id.toNat = none) :
    exec (.setParameter p tag [id, hi, lo]) s = .next (s.answered p Code.setParameter tag .badValue []) := by
  refine (exec_setParameter h).trans (serve_refuse h ?_)
  simp [setParameter, hq]

theorem setParameter_outside (h : Ready s p) (hq : paramOf id.toNat = some q)
    (hv : ¬ q.inRange (hi.toNat * 256 + lo.toNat) = true) :
    exec (.setParameter p tag [id, hi, lo]) s = .next (s.answered p Code.setParameter tag .badValue []) := by
  refine (exec_setParameter h).trans (serve_refuse h ?_)
  simp [setParameter, hq, wordAt, hv]

/-- A value that a parameter other than the geometry's may take (R182). -/
theorem setParameter_plain (h : Ready s p) (hq : paramOf id.toNat = some q)
    (hv : q.inRange (hi.toNat * 256 + lo.toNat) = true)
    (hg : q.geometry (hi.toNat * 256 + lo.toNat) s.tracking.geometry = none) :
    exec (.setParameter p tag [id, hi, lo]) s = .next ((q.apply (hi.toNat * 256 + lo.toNat) s).answered p
      Code.setParameter tag .ok (b16 (q.value s))) := by
  refine (exec_setParameter h).trans (serve_done h ?_)
  simp [setParameter, hq, wordAt, hv, hg, paramApply_hunt, paramValue_hunt]

/-- A geometry value: while entries are tracked, where the geometry would not be valid, and otherwise (R87). -/
theorem setParameter_geometry {g : Geometry} (h : Ready s p) (hq : paramOf id.toNat = some q)
    (hv : q.inRange (hi.toNat * 256 + lo.toNat) = true)
    (hg : q.geometry (hi.toNat * 256 + lo.toNat) s.tracking.geometry = some g) :
    exec (.setParameter p tag [id, hi, lo]) s =
      if s.tracking.queue ≠ [] then .next (s.answered p Code.setParameter tag .wrongState [])
      else if g.valid = false then .next (s.answered p Code.setParameter tag .badValue [])
      else .next ((s.setTracking { s.tracking with geometry := g }).answered p Code.setParameter tag .ok (b16 (q.value s))) := by
  have ha : q.apply (hi.toNat * 256 + lo.toNat) s = s.setTracking { s.tracking with geometry := g } := by
    cases q <;> cases hg <;> rfl
  refine (exec_setParameter h).trans ?_
  split
  · next hn => exact serve_refuse h (by simp [setParameter, hq, wordAt, hv, hg, hn])
  · next hn =>
    rw [not_not] at hn
    split
    · next hb => exact serve_refuse h (by simp [setParameter, hq, wordAt, hv, hg, hn, hb])
    · next hb => exact serve_done h (by simp [setParameter, hq, wordAt, hv, hg, hn, hb, paramApply_hunt, paramValue_hunt, ha])

end Request

/-- Settles O21: by the parameter the id names, and for a limit by the events it makes due. -/
theorem setParameterSetsOneValue : Obligations.SetParameterSetsOneValue := by
  intro s p tag id hi lo h v run refused done
  have hr : s.pins.resetHeld = false := h.1.1
  have plain {q : Param} (hq : paramOf id.toNat = some q) (hv : q.range.1 ≤ v ∧ v ≤ q.range.2)
      (hg : q.geometry v s.tracking.geometry = none) {t : State} (ht : q.apply v s = t) : done (q.value s) t :=
    ht ▸ setParameter_plain h hq ((q.inRange_iff v).mpr hv) hg
  refine ⟨setParameter_unknown h, fun q hq hv => ?_, fun q g hq h1 h2 hg => ⟨fun hn => ?_, fun hn hb => ?_, fun hn hb => ?_⟩,
    fun hq h1 h2 hy => ?_, fun hq h1 h2 hy => ?_, fun hq r hv => ?_, fun hq h1 h2 hy => ?_, fun hq h2 hy => ?_,
    fun hq h2 => ⟨fun hv => ?_, fun hv hz hs hc => ?_, fun hv hz hs => ?_, fun hv hz hy => ?_⟩, ?_⟩
  · refine setParameter_outside h hq fun hc => ?_
    obtain ⟨h1, h2⟩ := (q.inRange_iff v).mp hc
    omega
  · exact (setParameter_geometry h hq ((q.inRange_iff v).mpr ⟨h1, h2⟩) hg).trans (if_pos hn)
  · exact (setParameter_geometry h hq ((q.inRange_iff v).mpr ⟨h1, h2⟩) hg).trans
      ((if_neg (not_not.mpr hn)).trans (if_pos hb))
  · exact (setParameter_geometry h hq ((q.inRange_iff v).mpr ⟨h1, h2⟩) hg).trans
      ((if_neg (not_not.mpr hn)).trans (if_neg (by rw [hb]; nofun)))
  · exact plain hq ⟨h1, h2⟩ rfl (setAgeLimit_young hy)
  · exact plain hq ⟨h1, h2⟩ rfl (setLandingLimit_young hy)
  · refine plain hq ?_ rfl ?_
    · rw [hv]
      cases r <;> decide
    · rw [hv]
      cases r <;> rfl
  · exact plain hq ⟨h1, h2⟩ rfl (setPickLimit_young hy)
  · exact plain hq ⟨Nat.zero_le v, h2⟩ rfl (setStarveLimit_young hy)
  · refine plain hq ⟨Nat.zero_le v, h2⟩ rfl ?_
    rw [hv]
    exact setStallLimit_zero s
  · refine (congrArg (done · _) hz).mp (plain hq ⟨Nat.zero_le v, h2⟩ rfl ((setStallLimit_starts hv hz).trans ?_))
    exact startStall_started (s := s.setTracking { s.tracking with stallLimit := v }) hs hc hv
  · refine (congrArg (done · _) hz).mp (plain hq ⟨Nat.zero_le v, h2⟩ rfl ((setStallLimit_starts hv hz).trans ?_))
    exact startStall_idle (s := s.setTracking { s.tracking with stallLimit := v }) (hs.imp_right .inl)
  · exact plain hq ⟨Nat.zero_le v, h2⟩ rfl (setStallLimit_young hv hz hy)
  intro passes
  refine ⟨fun hq h1 h2 => ⟨_, setAgeLimit_leads v hr, plain hq ⟨h1, h2⟩ rfl rfl⟩,
    fun hq h1 h2 hz => ⟨_, .single .encoderStall hr, plain hq ⟨Nat.zero_le v, h2⟩ rfl
      (setStallLimit_changes (Nat.one_le_iff_ne_zero.mp h1) hz)⟩,
    fun hq h1 h2 => ⟨_, settleFallings_leads allStacks (List.nodup_finRange 10)
      (s := s.setSk { s.sk with landingLimit := v }) hr, plain hq ⟨h1, h2⟩ rfl rfl⟩,
    fun hq h1 h2 => ⟨_, setPickLimit_leads v hr, plain hq ⟨h1, h2⟩ rfl rfl⟩,
    fun hq h2 => ⟨_, setStarveLimit_leads v hr, plain hq ⟨Nat.zero_le v, h2⟩ rfl rfl⟩⟩

end Sys2Proof.Machine
end
